-- ==== Sys2Proof/Word.lean ====
section
/-! DEFINITION. The word types of the LF-240: bytes of the link and the store, belt positions (R1), letter
ids (R10) and sample readings (R31). -/

namespace Sys2Proof

/-- One byte of a link frame (R169) or of the profile store image (9.2). -/
abbrev Byte := BitVec 8

/-- A value of the 32-bit belt position counter, in tc (R1). -/
abbrev Pos := BitVec 32

/-- The 16-bit number given to a letter at induction (R10). -/
abbrev LetterId := BitVec 16

/-- One reading of a sample pair, 0..4095 (R31). -/
abbrev Reading := BitVec 12

/-- A set of the 14 event kinds, kind i of the list of R183 at bit i (R169). -/
abbrev EventSet := BitVec 14

/-- The number of a pocket, 0..9 (R118). -/
abbrev PocketNo := Fin 10

end Sys2Proof
end

