-- ==== Sys2Proof/Syntax.lean ====
section
/-! DEFINITION. The commands of the LF-240, one constructor of `Instr` for each row of the table of operations
and events, with the named things they speak of (channels, faces, heads, eyes, gates, straps). -/

namespace Sys2Proof

/-- The four luminescence channels, named by face and band (R74); their codes are 0..3 in this order (R169). -/
inductive Chan where
  | au | al | bu | bl
deriving DecidableEq, Repr

/-- The two faces of a standing letter, each with its luminescence head (chapter 2.1). -/
inductive Face where
  | a | b
deriving DecidableEq, Repr

/-- The two cancel heads (chapter 5.3); their codes are 0 and 1 in this order (R169). -/
inductive Head where
  | upper | lower
deriving DecidableEq, Repr

/-- The photo-eyes (R5, R21); `pe k` is the pocket eye PE(k+1). -/
inductive Eye where
  | e0 | e1 | ec | e2 | e3
  | pe (k : Fin 9)
deriving DecidableEq, Repr

/-- The ten gates (chapter 1.8); `bg k` is the bank gate BG(k+1). -/
inductive GateId where
  | g0 | g1
  | bg (k : Fin 8)
deriving DecidableEq, Repr

/-- The wiring mode that the LINKMODE strap chooses (R167). -/
inductive LinkMode where
  | full | half
deriving DecidableEq, Repr

/-- The profile source that the PROFSRC strap selects: a high level STORE, a low level BUILTIN (R189). -/
inductive ProfSource where
  | builtin | store
deriving DecidableEq, Repr

/-- The levels on the straps when RESET_N is released (R167, R189). -/
structure Straps where
  /-- PROFSRC: true is high (STORE), false is low (BUILTIN). -/
  profSrc : Bool
  /-- The wiring mode at the LINKMODE strap. -/
  linkMode : LinkMode
  /-- RATE1: true is high. -/
  rate1 : Bool
  /-- RATE0: true is high. -/
  rate0 : Bool
deriving DecidableEq, Repr

/-- One sample pair: `e` the prompt emission, `l` the afterglow (R31). -/
structure SamplePair where
  e : Reading
  l : Reading
deriving DecidableEq, Repr

/-- The level that an edge gives a later eye: blocked at the leading edge, clear at the trailing one (R6). -/
structure EyeLevel where
  eye : Eye
  blocked : Bool
deriving DecidableEq, Repr

/-- Characters on RXD; the first `overlap` of them come while a frame that the part is sending is still under way
(R168). -/
structure RxChars where
  bytes : List Byte
  overlap : Nat
deriving DecidableEq, Repr

/-- The commands: one constructor for each row of the table of operations and events. The operands are what the
step takes from outside the part (a pin's new level, the bytes on RXD or SPI_MISO, the readings of a head) or the
name of the point of travel that is taken. A request row takes no operand of its own: its request is the one at the
front of the request queue (R173). -/
inductive Instr where
  | resetNAssert
  | resetNRelease (straps : Straps)
  | profileLoadEnd (image : List Byte)
  | storeLoadNoResponse
  | encPulse
  | speedWindowEnd
  | beltStill
  | e0LeEdge
  | e0TeEdge
  | eyeLeEdge (eye : EyeLevel)
  | longPoint
  | blockedPoint
  | expiryPoint (id : LetterId) (eye : Eye)
  | setupPoint (id : LetterId) (gate : GateId)
  | releasePoint (gate : GateId)
  | flash
  | pairPoint
  | verdictLimit
  | fireStart (head : Head)
  | fireEnd (head : Head)
  | recoveryEnd (head : Head)
  | pocketDecisionPoint (id : LetterId)
  | sampleReturn (face : Face) (upper : SamplePair) (lower : SamplePair)
  | timeout (face : Face)
  | calibrationFlash
  | settleEnd
  | headFault (head : Head) (active : Bool)
  | estop (active : Bool)
  | feedloadActive
  | feedloadInactive
  | wake
  | startTimeout
  | drainTimeout
  | stopFail
  | trayRemoved (pocket : PocketNo)
  | trayInserted (pocket : PocketNo)
  | sweepButtonChange (pocket : PocketNo) (active : Bool)
  | sweepButton (pocket : PocketNo)
  | goodFrame (bytes : RxChars)
  | badFrame (bytes : RxChars) (framingError : Bool)
  | interByteTimeout
  | unknownKind
  | replySend
  | eventNotice
  | letterReportSend
  | softReset
  | identify
  | getStatus
  | poll
  | reset
  | start
  | stop
  | standby
  | clearFault
  | holdFeed
  | releaseFeed
  | setPostmark
  | getPostmark
  | headReset
  | headDisable
  | headEnable
  | calibrate
  | armCapture
  | readCapture
  | setCounterSource
  | readChannels
  | channelReset
  | sweep
  | pocketOut
  | pocketIn
  | readPockets
  | takeTray
  | readTallies
  | clearShift
  | getField
  | setField
  | writeProfile
  | storeWriteNoResponse
  | storePageDone
  | storeVerifyDone (readBack : List Byte)
  | setEventMask
  | clearEvents
  | setReportMode
  | storeNotBusy
deriving DecidableEq, Repr

end Sys2Proof
end

