-- ==== Sys2Proof/Decode.lean ====
section
/-! DEFINITION. The commands that a word of the table's bits spells: none, since no row of the table gives bits. -/

namespace Sys2Proof

/-- The command a word spells. The table of operations and events gives its rows no bits, so no word spells a command
(log entry 23). -/
def decodeTableWord (_nbits _w : Nat) : Option Instr := none

end Sys2Proof
end

