-- ==== Sys2Proof/Config.lean ====
section
/-! DEFINITION. The numbers the LF-240 fixes for every part: its capacities and its identification codes. The
spec leaves no result of a command open, so there is no free value here (log entry 22). -/

namespace Sys2Proof.Config

/-- The transport list holds at most 48 records (R16). -/
def listCapacity : Nat := 48

/-- LIST_HIGH is held while the list holds 44 or more records (R16). -/
def listHigh : Nat := 44

/-- A head queue holds up to 16 entries (R100). -/
def headQueueCapacity : Nat := 16

/-- Stored tray records plus reservations never exceed 16 (R132). -/
def trayLogCapacity : Nat := 16

/-- The capture buffer holds up to 128 entries (R45). -/
def captureCapacity : Nat := 128

/-- At most 26 capture entries fill one payload (R49). -/
def captureReplyEntries : Nat := 26

/-- The request queue holds up to 4 requests (R172). -/
def requestCapacity : Nat := 4

/-- The reply queue holds up to 4 places (R177). -/
def replyCapacity : Nat := 4

/-- The report queue holds up to 64 letter reports (R180). -/
def reportCapacity : Nat := 64

/-- A letter's run list on a channel holds at most 4 runs (R67). -/
def runListCapacity : Nat := 4

/-- A frame's payload carries at most 248 bytes (R169). -/
def payloadCapacity : Nat := 248

/-- The ceiling at which the 16-bit counts saturate. -/
def countCeiling : Nat := 65535

/-- The ceiling at which the shift tallies saturate (R141). -/
def tallyCeiling : Nat := 4294967295

/-- The largest sequence number (R104). -/
def seqCeiling : Nat := 9999999

/-- Quiet dark samples that take a channel on, in SEARCH and in CHECK (R37). -/
def quietToLock : Nat := 16

/-- Noisy dark samples in a row that lose lock (R38). -/
def noisyToUnlock : Nat := 8

/-- Windows at speed that meet the speed condition (R151). -/
def windowsAtSpeed : Nat := 10

/-- Windows below speed that raise SPEED_LOW (R156). -/
def windowsBelowSpeed : Nat := 20

/-- Flashes of the dark phase of a calibration (R51). -/
def darkFlashes : Nat := 32

/-- Flashes of the reference phase of a calibration (R51). -/
def referenceFlashes : Nat := 64

/-- The size of the store image (9.2). -/
def imageSize : Nat := 338

/-- The size of the store image's body (9.2). -/
def bodySize : Nat := 333

/-- The last page of a store write; pages run from 0 to 21 (R196). -/
def lastPage : Nat := 21

/-- The vendor code (R200). -/
def vendorCode : Nat := 0x3A71

/-- The part code (R200). -/
def partCode : Nat := 0x0240

/-- The revision code (R200). -/
def revisionCode : Nat := 0x11

end Sys2Proof.Config
end

