-- ==== Sys2Proof/Machine/Tables.lean ====
section
/-! DEFINITION. Fixed tables of like things: one entry for each channel, face, head, class list or pocket, with
the reading and the replacing of one entry, and the orientation table of R74. -/

namespace Sys2Proof.Machine

/-- One entry for each of the four channels. -/
structure PerChan (α : Type) where
  au : α
  al : α
  bu : α
  bl : α
deriving DecidableEq, Repr

/-- One entry for each of the two faces. -/
structure PerFace (α : Type) where
  a : α
  b : α
deriving DecidableEq, Repr

/-- One entry for each of the two cancel heads. -/
structure PerHead (α : Type) where
  upper : α
  lower : α
deriving DecidableEq, Repr

/-- One entry for each of the ten pockets. -/
abbrev PerPocket (α : Type) := Vector α 10

def PerChan.all {α : Type} (x : α) : PerChan α := ⟨x, x, x, x⟩

def PerChan.get {α : Type} (t : PerChan α) : Chan → α
  | .au => t.au
  | .al => t.al
  | .bu => t.bu
  | .bl => t.bl

def PerChan.set {α : Type} (t : PerChan α) (c : Chan) (x : α) : PerChan α :=
  match c with
  | .au => { t with au := x }
  | .al => { t with al := x }
  | .bu => { t with bu := x }
  | .bl => { t with bl := x }

def PerChan.map {α β : Type} (f : α → β) (t : PerChan α) : PerChan β := ⟨f t.au, f t.al, f t.bu, f t.bl⟩

def PerFace.all {α : Type} (x : α) : PerFace α := ⟨x, x⟩

def PerFace.get {α : Type} (t : PerFace α) : Face → α
  | .a => t.a
  | .b => t.b

def PerFace.set {α : Type} (t : PerFace α) (f : Face) (x : α) : PerFace α :=
  match f with
  | .a => { t with a := x }
  | .b => { t with b := x }

def PerHead.all {α : Type} (x : α) : PerHead α := ⟨x, x⟩

def PerHead.get {α : Type} (t : PerHead α) : Head → α
  | .upper => t.upper
  | .lower => t.lower

def PerHead.set {α : Type} (t : PerHead α) (h : Head) (x : α) : PerHead α :=
  match h with
  | .upper => { t with upper := x }
  | .lower => { t with lower := x }

/-- The channels in the order of their codes (R169). -/
def allChans : List Chan := [.au, .al, .bu, .bl]

/-- The pockets in order. -/
def allPockets : List PocketNo := [0, 1, 2, 3, 4, 5, 6, 7, 8, 9]

/-- The bank pockets 1 to 8 (R118). -/
def bankPockets : List PocketNo := [1, 2, 3, 4, 5, 6, 7, 8]

/-- A bank pocket is one of pockets 1 to 8 (R118). -/
def isBank (k : PocketNo) : Bool := 1 ≤ k.val && k.val ≤ 8

/-- The face a channel belongs to. -/
def faceOf : Chan → Face
  | .au | .al => .a
  | .bu | .bl => .b

/-- A face's upper band channel: its pair is returned first (R31). -/
def upperChan : Face → Chan
  | .a => .au
  | .b => .bu

/-- A face's lower band channel. -/
def lowerChan : Face → Chan
  | .a => .al
  | .b => .bl

/-- The four orientations (R74). -/
inductive Orientation where
  | o1 | o2 | o3 | o4
deriving DecidableEq, Repr

/-- The class of a faced letter, by the half that carries the postage (R74). -/
inductive PostClass where
  | lead | trail
deriving DecidableEq, Repr

/-- The orientations in order. -/
def allOrientations : List Orientation := [.o1, .o2, .o3, .o4]

/-- The channel that sees the tag (R74). -/
def Orientation.chan : Orientation → Chan
  | .o1 => .au
  | .o2 => .al
  | .o3 => .bu
  | .o4 => .bl

/-- Whether the tag lies in the leading half (R74). -/
def Orientation.leading : Orientation → Bool
  | .o1 | .o4 => true
  | .o2 | .o3 => false

/-- Whether the letter is turned over (R74, R86). -/
def Orientation.turnover : Orientation → Bool
  | .o1 | .o2 => false
  | .o3 | .o4 => true

/-- The class after facing (R74, R86). -/
def Orientation.cls : Orientation → PostClass
  | .o1 | .o4 => .lead
  | .o2 | .o3 => .trail

/-- The cancel head: upper for O1 and O4, lower for O2 and O3 (R74, R87). -/
def Orientation.head : Orientation → Head
  | .o1 | .o4 => .upper
  | .o2 | .o3 => .lower

/-- The destination classes, in the order of R119; a tray of class NONE has no destination class. -/
inductive DestClass where
  | facedLead | facedTrail | meterLead | meterTrail | uncancelled
deriving DecidableEq, Repr

/-- The destination classes in the order of R119. -/
def allClasses : List DestClass := [.facedLead, .facedTrail, .meterLead, .meterTrail, .uncancelled]

/-- One entry for each destination class. -/
structure PerClass (α : Type) where
  facedLead : α
  facedTrail : α
  meterLead : α
  meterTrail : α
  uncancelled : α
deriving DecidableEq, Repr

def PerClass.get {α : Type} (t : PerClass α) : DestClass → α
  | .facedLead => t.facedLead
  | .facedTrail => t.facedTrail
  | .meterLead => t.meterLead
  | .meterTrail => t.meterTrail
  | .uncancelled => t.uncancelled

def PerClass.set {α : Type} (t : PerClass α) (c : DestClass) (x : α) : PerClass α :=
  match c with
  | .facedLead => { t with facedLead := x }
  | .facedTrail => { t with facedTrail := x }
  | .meterLead => { t with meterLead := x }
  | .meterTrail => { t with meterTrail := x }
  | .uncancelled => { t with uncancelled := x }

end Sys2Proof.Machine
end

