-- ==== Sys2Proof/Machine/Profile.lean ====
section
/-! DEFINITION. The working profile: its 72 fields, the field catalogue (9.3), the built-in defaults, the reading
and writing of a field by its number, the link and image codings of a field's value, and the cross-field checks. -/

namespace Sys2Proof.Machine

/-- BLIND_POLICY (R83). -/
inductive BlindPolicy where
  | accept | reject
deriving DecidableEq, Repr

/-- HEAD_DOWN_POLICY (R114). -/
inductive HeadDownPolicy where
  | divert | hold
deriving DecidableEq, Repr

/-- REPORT_MODE (R179). -/
inductive ReportMode where
  | off | cullOnly | all
deriving DecidableEq, Repr

/-- The working profile of 72 fields (9.3), by their catalogue names. -/
structure Profile where
  sPos : Nat
  g0Pos : Nat
  g1Pos : Nat
  e1Pos : Nat
  ecPos : Nat
  e2Pos : Nat
  e3Pos : Nat
  cPos : Nat
  pdecPos : Nat
  bankBase : Nat
  bankPitch : Nat
  gsetup : Nat
  window : Nat
  lmin : Nat
  lmax : Nat
  gmin : Nat
  pitch : Nat
  noiseMax : Nat
  nominalBase : Nat
  gain : PerChan Nat
  refTarget : Nat
  tpOn : Nat
  tpOff : Nat
  tfOn : Nat
  tfOff : Nat
  rp : Nat
  rf : Nat
  minRun : Nat
  maxRun : Nat
  gapLimit : Nat
  dominance : Nat
  blindPolicy : BlindPolicy
  k : Nat
  margin : Nat
  h : Nat
  machineNo : Nat
  officeText : Vector (List Byte) 8
  headDownPolicy : HeadDownPolicy
  limits : PerPocket Nat
  autoClose : Bool
  classLists : PerClass (List PocketNo)
  minSpeed : Nat
  startTimeout : Nat
  stopTimeout : Nat
  drainTimeout : Nat
  autowake : Bool
  wakeDebounce : Nat
  eventMask : EventSet
  reportMode : ReportMode
deriving DecidableEq, Repr

/-- "OFFICE", the default of OFFICE_TEXT_0 (9.3). -/
def defaultOffice : List Byte := [0x4F, 0x46, 0x46, 0x49, 0x43, 0x45]

/-- The built-in defaults of the field catalogue (9.3). -/
def Profile.builtin : Profile where
  sPos := 1000
  g0Pos := 3000
  g1Pos := 3600
  e1Pos := 3300
  ecPos := 3300
  e2Pos := 4900
  e3Pos := 5550
  cPos := 5600
  pdecPos := 6400
  bankBase := 6600
  bankPitch := 400
  gsetup := 50
  window := 24
  lmin := 240
  lmax := 660
  gmin := 60
  pitch := 4
  noiseMax := 48
  nominalBase := 200
  gain := .all 64
  refTarget := 1600
  tpOn := 600
  tpOff := 450
  tfOn := 900
  tfOff := 700
  rp := 6
  rf := 2
  minRun := 6
  maxRun := 40
  gapLimit := 1
  dominance := 16
  blindPolicy := .accept
  k := 180
  margin := 20
  h := 40
  machineNo := 1
  officeText := (Vector.replicate 8 []).set 0 defaultOffice
  headDownPolicy := .divert
  limits := ((Vector.replicate 10 500).set 0 800).set 9 800
  autoClose := true
  classLists := ⟨[1, 2], [3, 4], [5], [6], [7, 8]⟩
  minSpeed := 6000
  startTimeout := 3000
  stopTimeout := 2000
  drainTimeout := 6000
  autowake := false
  wakeDebounce := 50
  eventMask := BitVec.allOnes 14
  reportMode := .cullOnly

/-- What kind of value a field holds (9.3): a number with its range, an enumeration with its number of codes, an
office text, a class list or the event mask. -/
inductive FieldShape where
  | num (lo hi : Nat)
  | code (codes : Nat)
  | text (i : Fin 8)
  | pockets (c : DestClass)
  | mask
deriving DecidableEq, Repr

/-- A field's value. -/
inductive FieldValue where
  | num (v : Nat)
  | code (c : Nat)
  | text (cs : List Byte)
  | pockets (ps : List PocketNo)
  | mask (m : EventSet)
deriving DecidableEq, Repr

/-- The field catalogue (9.3): the shape of field F1..F72; none for another number. -/
def fieldShape : Nat → Option FieldShape
  | 1 | 2 | 3 | 4 | 5 | 6 | 7 | 8 | 9 | 10 => some (.num 0 16000)
  | 11 => some (.num 100 2000)
  | 12 => some (.num 16 200)
  | 13 => some (.num 4 100)
  | 14 => some (.num 100 400)
  | 15 => some (.num 400 800)
  | 16 => some (.num 20 400)
  | 17 => some (.num 2 16)
  | 18 => some (.num 4 400)
  | 19 => some (.num 0 4095)
  | 20 | 21 | 22 | 23 => some (.num 32 255)
  | 24 => some (.num 200 3500)
  | 25 | 26 | 27 | 28 => some (.num 1 4095)
  | 29 | 30 => some (.num 1 64)
  | 31 => some (.num 2 40)
  | 32 => some (.num 4 120)
  | 33 => some (.num 0 3)
  | 34 => some (.num 9 32)
  | 35 => some (.code 2)
  | 36 => some (.num 40 400)
  | 37 => some (.num 0 100)
  | 38 => some (.num 10 400)
  | 39 => some (.num 1 9999)
  | 40 => some (.text 0)
  | 41 => some (.text 1)
  | 42 => some (.text 2)
  | 43 => some (.text 3)
  | 44 => some (.text 4)
  | 45 => some (.text 5)
  | 46 => some (.text 6)
  | 47 => some (.text 7)
  | 48 => some (.code 2)
  | 49 | 58 => some (.num 50 5000)
  | 50 | 51 | 52 | 53 | 54 | 55 | 56 | 57 => some (.num 50 2000)
  | 59 => some (.code 2)
  | 60 => some (.pockets .facedLead)
  | 61 => some (.pockets .facedTrail)
  | 62 => some (.pockets .meterLead)
  | 63 => some (.pockets .meterTrail)
  | 64 => some (.pockets .uncancelled)
  | 65 => some (.num 1000 20000)
  | 66 | 67 | 68 => some (.num 500 20000)
  | 69 => some (.code 2)
  | 70 => some (.num 10 1000)
  | 71 => some .mask
  | 72 => some (.code 3)
  | _ => none

/-- The code of an on/off field: off 0, on 1 (9.3). -/
def boolCode (b : Bool) : Nat := if b then 1 else 0

def BlindPolicy.code : BlindPolicy → Nat
  | .accept => 0
  | .reject => 1

def BlindPolicy.ofCode (c : Nat) : BlindPolicy := if c = 0 then .accept else .reject

def HeadDownPolicy.code : HeadDownPolicy → Nat
  | .divert => 0
  | .hold => 1

def HeadDownPolicy.ofCode (c : Nat) : HeadDownPolicy := if c = 0 then .divert else .hold

def ReportMode.code : ReportMode → Nat
  | .off => 0
  | .cullOnly => 1
  | .all => 2

def ReportMode.ofCode : Nat → ReportMode
  | 0 => .off
  | 1 => .cullOnly
  | _ => .all

/-- The value of the numeric field F`n` (9.3); 0 for a field that is not numeric. -/
def Profile.num (p : Profile) : Nat → Nat
  | 1 => p.sPos
  | 2 => p.g0Pos
  | 3 => p.g1Pos
  | 4 => p.e1Pos
  | 5 => p.ecPos
  | 6 => p.e2Pos
  | 7 => p.e3Pos
  | 8 => p.cPos
  | 9 => p.pdecPos
  | 10 => p.bankBase
  | 11 => p.bankPitch
  | 12 => p.gsetup
  | 13 => p.window
  | 14 => p.lmin
  | 15 => p.lmax
  | 16 => p.gmin
  | 17 => p.pitch
  | 18 => p.noiseMax
  | 19 => p.nominalBase
  | 20 => p.gain.au
  | 21 => p.gain.al
  | 22 => p.gain.bu
  | 23 => p.gain.bl
  | 24 => p.refTarget
  | 25 => p.tpOn
  | 26 => p.tpOff
  | 27 => p.tfOn
  | 28 => p.tfOff
  | 29 => p.rp
  | 30 => p.rf
  | 31 => p.minRun
  | 32 => p.maxRun
  | 33 => p.gapLimit
  | 34 => p.dominance
  | 36 => p.k
  | 37 => p.margin
  | 38 => p.h
  | 39 => p.machineNo
  | 49 => p.limits[0]
  | 50 => p.limits[1]
  | 51 => p.limits[2]
  | 52 => p.limits[3]
  | 53 => p.limits[4]
  | 54 => p.limits[5]
  | 55 => p.limits[6]
  | 56 => p.limits[7]
  | 57 => p.limits[8]
  | 58 => p.limits[9]
  | 65 => p.minSpeed
  | 66 => p.startTimeout
  | 67 => p.stopTimeout
  | 68 => p.drainTimeout
  | 70 => p.wakeDebounce
  | _ => 0

/-- The profile with numeric field F`n` set to `v`; unchanged for a field that is not numeric. -/
def Profile.setNum (p : Profile) (n v : Nat) : Profile :=
  match n with
  | 1 => { p with sPos := v }
  | 2 => { p with g0Pos := v }
  | 3 => { p with g1Pos := v }
  | 4 => { p with e1Pos := v }
  | 5 => { p with ecPos := v }
  | 6 => { p with e2Pos := v }
  | 7 => { p with e3Pos := v }
  | 8 => { p with cPos := v }
  | 9 => { p with pdecPos := v }
  | 10 => { p with bankBase := v }
  | 11 => { p with bankPitch := v }
  | 12 => { p with gsetup := v }
  | 13 => { p with window := v }
  | 14 => { p with lmin := v }
  | 15 => { p with lmax := v }
  | 16 => { p with gmin := v }
  | 17 => { p with pitch := v }
  | 18 => { p with noiseMax := v }
  | 19 => { p with nominalBase := v }
  | 20 => { p with gain := p.gain.set .au v }
  | 21 => { p with gain := p.gain.set .al v }
  | 22 => { p with gain := p.gain.set .bu v }
  | 23 => { p with gain := p.gain.set .bl v }
  | 24 => { p with refTarget := v }
  | 25 => { p with tpOn := v }
  | 26 => { p with tpOff := v }
  | 27 => { p with tfOn := v }
  | 28 => { p with tfOff := v }
  | 29 => { p with rp := v }
  | 30 => { p with rf := v }
  | 31 => { p with minRun := v }
  | 32 => { p with maxRun := v }
  | 33 => { p with gapLimit := v }
  | 34 => { p with dominance := v }
  | 36 => { p with k := v }
  | 37 => { p with margin := v }
  | 38 => { p with h := v }
  | 39 => { p with machineNo := v }
  | 49 => { p with limits := p.limits.set 0 v }
  | 50 => { p with limits := p.limits.set 1 v }
  | 51 => { p with limits := p.limits.set 2 v }
  | 52 => { p with limits := p.limits.set 3 v }
  | 53 => { p with limits := p.limits.set 4 v }
  | 54 => { p with limits := p.limits.set 5 v }
  | 55 => { p with limits := p.limits.set 6 v }
  | 56 => { p with limits := p.limits.set 7 v }
  | 57 => { p with limits := p.limits.set 8 v }
  | 58 => { p with limits := p.limits.set 9 v }
  | 65 => { p with minSpeed := v }
  | 66 => { p with startTimeout := v }
  | 67 => { p with stopTimeout := v }
  | 68 => { p with drainTimeout := v }
  | 70 => { p with wakeDebounce := v }
  | _ => p

/-- The code of the enumeration or on/off field F`n` (9.3). -/
def Profile.code (p : Profile) : Nat → Nat
  | 35 => p.blindPolicy.code
  | 48 => p.headDownPolicy.code
  | 59 => boolCode p.autoClose
  | 69 => boolCode p.autowake
  | 72 => p.reportMode.code
  | _ => 0

/-- The profile with the enumeration or on/off field F`n` set to the value coded `c`. -/
def Profile.setCode (p : Profile) (n c : Nat) : Profile :=
  match n with
  | 35 => { p with blindPolicy := .ofCode c }
  | 48 => { p with headDownPolicy := .ofCode c }
  | 59 => { p with autoClose := c == 1 }
  | 69 => { p with autowake := c == 1 }
  | 72 => { p with reportMode := .ofCode c }
  | _ => p

/-- The value of field F`n` (R194); none for a number outside 1..72. -/
def Profile.field (p : Profile) (n : Nat) : Option FieldValue :=
  match fieldShape n with
  | some (.num _ _) => some (.num (p.num n))
  | some (.code _) => some (.code (p.code n))
  | some (.text i) => some (.text p.officeText[i])
  | some (.pockets c) => some (.pockets (p.classLists.get c))
  | some .mask => some (.mask p.eventMask)
  | none => none

/-- The profile with field F`n` set to a value of the field's shape (R195); unchanged for a value of another
shape. -/
def Profile.setField (p : Profile) (n : Nat) (v : FieldValue) : Profile :=
  match fieldShape n, v with
  | some (.num _ _), .num x => p.setNum n x
  | some (.code _), .code c => p.setCode n c
  | some (.text i), .text cs => { p with officeText := p.officeText.set i cs }
  | some (.pockets c), .pockets ps => { p with classLists := p.classLists.set c ps }
  | some .mask, .mask m => { p with eventMask := m }
  | _, _ => p

/-! ### Byte codings -/

/-- Two bytes, high byte first (R169). -/
def be16 (n : Nat) : List Byte := [BitVec.ofNat 8 (n / 256), BitVec.ofNat 8 n]

/-- Four bytes, high byte first (R169). -/
def be32 (n : Nat) : List Byte :=
  [BitVec.ofNat 8 (n / 16777216), BitVec.ofNat 8 (n / 65536), BitVec.ofNat 8 (n / 256), BitVec.ofNat 8 n]

/-- The number two bytes give, high byte first (R169). -/
def ofBe16 (hi lo : Byte) : Nat := hi.toNat * 256 + lo.toNat

/-- The number a byte list gives, high byte first (R169). -/
def ofBytes (bs : List Byte) : Nat := bs.foldl (fun n b => n * 256 + b.toNat) 0

/-- A printable character lies within 0x20..0x7E (R191, R195). -/
def printable (b : Byte) : Bool := 0x20 ≤ b.toNat && b.toNat ≤ 0x7E

/-- The value pulled into the range `lo..hi`. -/
def clampTo (lo hi v : Nat) : Nat := max lo (min hi v)

/-- The bank pocket a byte names, 1..8. -/
def bankOfByte (b : Byte) : Option PocketNo :=
  if h : 1 ≤ b.toNat ∧ b.toNat ≤ 8 then some ⟨b.toNat, by omega⟩ else none

/-- The pockets a list of bytes names: all within 1..8 and none repeated (R139, R191); none otherwise. -/
def bankList : List Byte → Option (List PocketNo)
  | [] => some []
  | b :: bs =>
    match bankOfByte b, bankList bs with
    | some k, some ks => if k ∈ ks then none else some (k :: ks)
    | _, _ => none

/-- The event mask two bytes code; none when one of the two unused bits is set (R184, R191). -/
def maskOfNat (n : Nat) : Option EventSet := if n < 16384 then some (BitVec.ofNat 14 n) else none

/-- A field's value in its link coding (9.3, R194): a text as its characters alone, a class list as its pocket
numbers alone. -/
def FieldValue.linkBytes : FieldValue → List Byte
  | .num v => be16 v
  | .code c => [BitVec.ofNat 8 c]
  | .text cs => cs
  | .pockets ps => ps.map fun k => BitVec.ofNat 8 k.val
  | .mask m => be16 m.toNat

/-- A field's value as the store image holds it (9.3): a text as a count byte and 24 character bytes, a class list
as four bytes with 0 in unused places. 9.3 does not say what the character bytes beyond a text's count hold; the model
writes 0 there (DESIGN CHOICE, log entry 36). -/
def FieldValue.imageBytes : FieldValue → List Byte
  | .text cs => BitVec.ofNat 8 cs.length :: (cs ++ List.replicate (24 - cs.length) 0)
  | .pockets ps => ps.map (fun k => BitVec.ofNat 8 k.val) ++ List.replicate (4 - ps.length) 0
  | v => v.linkBytes

/-- The size of a field in the store image (9.3). -/
def FieldShape.imageSize : FieldShape → Nat
  | .num _ _ => 2
  | .code _ => 1
  | .text _ => 25
  | .pockets _ => 4
  | .mask => 2

/-- The size of a field in the store image, by its number. -/
def fieldImageSize (n : Nat) : Nat :=
  match fieldShape n with
  | some sh => sh.imageSize
  | none => 0

/-- Whether a link value of `len` bytes is allowed for a field of the shape (R195). -/
def FieldShape.linkSizeOk (sh : FieldShape) (len : Nat) : Bool :=
  match sh with
  | .num _ _ => len == 2
  | .code _ => len == 1
  | .text _ => len ≤ 24
  | .pockets _ => len ≤ 4
  | .mask => len == 2

/-- A link value decoded for a field of the shape, with whether a number was clamped (R195); none for an undefined
enumeration or structural value. -/
def FieldShape.ofLink (sh : FieldShape) (bs : List Byte) : Option (FieldValue × Bool) :=
  match sh with
  | .num lo hi =>
    let v := ofBytes bs
    some (.num (clampTo lo hi v), clampTo lo hi v != v)
  | .code codes => if ofBytes bs < codes then some (.code (ofBytes bs), false) else none
  | .text _ => if bs.all printable then some (.text bs, false) else none
  | .pockets _ => (bankList bs).map fun ks => (.pockets ks, false)
  | .mask => (maskOfNat (ofBytes bs)).map fun m => (.mask m, false)

/-- A field's image bytes decoded for a field of the shape, with whether a number was clamped; none for an
undefined structural value (R191). -/
def FieldShape.ofImage (sh : FieldShape) (bs : List Byte) : Option (FieldValue × Bool) :=
  match sh, bs with
  | .text _, [] => none
  | .text _, cnt :: cs =>
    if cnt.toNat ≤ 24 && (cs.take cnt.toNat).all printable then some (.text (cs.take cnt.toNat), false) else none
  | .pockets _, bs => (bankList (bs.takeWhile (· != 0))).map fun ks => (.pockets ks, false)
  | sh, bs => sh.ofLink bs

/-- The field numbers F1..F72, in order. -/
def fieldNumbers : List Nat := (List.range 72).map (· + 1)

/-- The body of the image: fields F1 to F72 in number order (9.2). -/
def Profile.body (p : Profile) : List Byte :=
  fieldNumbers.flatMap fun n =>
    match p.field n with
    | some v => v.imageBytes
    | none => []

/-- The body decoded field by field (R190 steps 4 and 5, R191), with whether a number was clamped; none when a
structural value is undefined. -/
def decodeFields : List Nat → List Byte → Profile → Bool → Option (Profile × Bool)
  | [], _, p, cl => some (p, cl)
  | n :: ns, bs, p, cl =>
    match fieldShape n with
    | none => none
    | some sh =>
      match sh.ofImage (bs.take sh.imageSize) with
      | none => none
      | some (v, c) => decodeFields ns (bs.drop sh.imageSize) (p.setField n v) (cl || c)

/-! ### Cross-field checks (R193) -/

/-- A bank pocket is named in two class lists. -/
def Profile.sharedPocket (p : Profile) : Bool :=
  bankPockets.any fun k => 2 ≤ (allClasses.filter fun c => k ∈ p.classLists.get c).length

/-- The thirteen conditions of R193, in order, each with its number. -/
def Profile.checks (p : Profile) : List (Nat × Bool) :=
  [(1, p.sPos + p.lmax + 16 + p.gsetup ≤ p.g0Pos),
   (2, p.g0Pos < p.e1Pos && p.g0Pos < p.ecPos),
   (3, p.e1Pos < p.g1Pos && p.g1Pos < p.e2Pos && p.e2Pos < p.e3Pos && p.e3Pos < p.cPos),
   (4, p.cPos + p.lmax ≤ p.pdecPos && p.pdecPos + p.gsetup ≤ p.bankBase),
   (5, p.bankBase + 8 * p.bankPitch + 120 ≤ 16000),
   (6, p.gsetup ≤ p.gmin),
   (7, 2 * p.window ≤ p.gmin),
   (8, p.lmin ≤ p.lmax),
   (9, p.minRun ≤ p.maxRun),
   (10, p.tpOff ≤ p.tpOn),
   (11, p.tfOff ≤ p.tfOn),
   (12, p.rf ≤ p.rp),
   (13, !p.sharedPocket)]

/-- The number of the first failing cross-field check; none when the profile passes every one (R193). -/
def Profile.firstFailing (p : Profile) : Option Nat := ((p.checks.find? fun c => !c.2).map Prod.fst)

/-! ### Stations (R5) -/

/-- The offset of a gate from E0 (R5). -/
def Profile.gateOffset (p : Profile) : GateId → Nat
  | .g0 => p.g0Pos
  | .g1 => p.g1Pos
  | .bg k => p.bankBase + k.val * p.bankPitch

/-- The offset of an eye from E0 (R5): PEk stands 120 tc beyond gate k, PE9 where a ninth gate would stand plus
120 tc. -/
def Profile.eyeOffset (p : Profile) : Eye → Nat
  | .e0 => 0
  | .e1 => p.e1Pos
  | .ec => p.ecPos
  | .e2 => p.e2Pos
  | .e3 => p.e3Pos
  | .pe k => p.bankBase + k.val * p.bankPitch + 120

/-- The mapped class of a pocket: the class of the first list, in the order of R119, that names it; none (NONE)
for a pocket in no list. -/
def Profile.mappedClass (p : Profile) (k : PocketNo) : Option DestClass :=
  if isBank k then allClasses.find? fun c => decide (k ∈ p.classLists.get c) else none

end Sys2Proof.Machine
end

