-- ==== Sys2Proof/Machine/State.lean ====
section
/-! DEFINITION. The state of the LF-240: the letter records and the state of each of its nine blocks, the levels on
its input pins, the queue of waiting commands, and the state right after reset. -/

namespace Sys2Proof.Machine

/-! ### Dates, runs and verdicts -/

/-- A calendar date (R93). -/
structure Date where
  year : Nat
  month : Nat
  day : Nat
deriving DecidableEq, Repr

/-- The two tag classes (R57). -/
inductive TagClass where
  | phos | fluo
deriving DecidableEq, Repr

/-- The class the run former gives a sample (R68). -/
inductive SampleClass where
  | phos | fluo | none
deriving DecidableEq, Repr

/-- The run state of a letter context (R57). -/
inductive RunState where
  | noRun | phosRun | fluoRun
deriving DecidableEq, Repr

/-- A run record (R66). -/
structure Run where
  cls : TagClass
  start : Nat
  length : Nat
  peak : Nat
  sat : Nat
deriving DecidableEq, Repr

/-- One channel's result for a letter: status BLIND or SCANNED, run list and flags (R14, R70). -/
structure ChanResult where
  blind : Bool
  runs : List Run
  overflow : Bool
  coated : Bool
  bright : Bool
deriving DecidableEq, Repr

/-- The flags of a letter record (R14). -/
structure LetterFlags where
  close : Bool
  short : Bool
  long : Bool
  resynced : Bool
deriving DecidableEq, Repr

/-- The verdict kinds (R75). -/
inductive VerdictKind where
  | stamp | meter | noTag | ambiguous | reject
deriving DecidableEq, Repr

/-- The reason set of a verdict part (R75), in the order of its bits in a letter report (R179). -/
structure Reasons where
  short : Bool
  long : Bool
  close : Bool
  closePair : Bool
  blind : Bool
  blindPartial : Bool
  misplaced : Bool
  coated : Bool
deriving DecidableEq, Repr

/-- The empty reason set. -/
def Reasons.empty : Reasons := ⟨false, false, false, false, false, false, false, false⟩

/-- The chosen run of a verdict: a copy of a run record's start, length and peak (R75). -/
structure ChosenRun where
  start : Nat
  length : Nat
  peak : Nat
deriving DecidableEq, Repr

/-- The verdict part of a letter record (R75). -/
structure Verdict where
  kind : VerdictKind
  orientation : Option Orientation
  reasons : Reasons
  chosen : Option ChosenRun
deriving DecidableEq, Repr

/-- The route (R86): CULL, or MAIN with turnover and class. -/
inductive Route where
  | cull
  | main (turnover : Bool) (cls : PostClass)
deriving DecidableEq, Repr

/-! ### The cancel part -/

/-- The cancel outcome (R97). -/
inductive CancelOutcome where
  | notRequired | scheduled | printed | missed | faulted | headDown
deriving DecidableEq, Repr

/-- The reason of a missed print (R97). -/
inductive MissedReason where
  | queueFull | tooClose | late
deriving DecidableEq, Repr

/-- The impression copied from the postmark settings (R97). -/
structure Impression where
  date : Date
  timeMark : Nat
  office : Nat
deriving DecidableEq, Repr

/-- The placed print of a STAMP letter: head, span and impression (R97, R98). -/
structure PrintPart where
  head : Head
  ps : Nat
  k : Nat
  impression : Impression
deriving DecidableEq, Repr

/-- The cancel part of a letter record (R97); a letter that is not STAMP has no print. -/
structure CancelPart where
  outcome : CancelOutcome
  missed : Option MissedReason
  print : Option PrintPart
  seq : Option Nat
deriving DecidableEq, Repr

/-- The destination written by the pocket manager (R121, R122); a culled letter has no destination class. -/
structure Destination where
  pocket : PocketNo
  cls : Option DestClass
deriving DecidableEq, Repr

/-- The letter record (R14, R15). The points a record can have set up are held with it: the LONG and BLOCKED points
(R9) and the pocket decision point (R121); the others are computed from `lePos` and the profile. -/
structure Letter where
  id : LetterId
  lePos : Pos
  length : Option Int
  gap : Option Int
  flags : LetterFlags
  resync : Option Int
  results : Option (PerChan ChanResult)
  verdict : Option Verdict
  route : Option Route
  cancel : Option CancelPart
  dest : Option Destination
  noTray : Bool
  /-- The eyes on the route at which the letter has arrived (R15). -/
  arrived : List Eye
  /-- The gates on the route whose setup point the letter has reached (R15). -/
  setupReached : List GateId
  /-- The gates on the route that the letter has taken ownership of (R15). -/
  owned : List GateId
  longPoint : Option Pos
  blockedPoint : Option Pos
  pdecPoint : Option Pos
deriving DecidableEq, Repr

/-! ### TRK: the transport tracker -/

/-- A gate's owner (R23): the letter, the required setting (true: divert or turnover) and the release point. -/
structure GateOwner where
  id : LetterId
  setting : Bool
  release : Option Pos
deriving DecidableEq, Repr

/-- A gate (R23): its owner and its drive, true for divert or turnover. -/
structure Gate where
  owner : Option GateOwner
  driven : Bool
deriving DecidableEq, Repr

/-- The tracker's state (R1, R3, R4, R9, R10, R16, R23). -/
structure Tracker where
  belt : Pos
  /-- The pulses counted in the running 10 ms window. -/
  windowCount : Nat
  /-- The belt speed in tc/s, from the last completed window. -/
  speed : Nat
  /-- The stillness indication: true while the belt reads moving. -/
  moving : Bool
  /-- The transport list, oldest first. -/
  letters : List Letter
  nextId : LetterId
  /-- The letter being measured at E0. -/
  measuring : Option LetterId
  lastTe : Option Pos
  /-- G0, G1, BG1 to BG8. -/
  gates : Vector Gate 10
deriving DecidableEq, Repr

/-! ### LCH: the luminescence channels -/

/-- Why a face went to FAULT (R32). -/
inductive FaultCause where
  | timeout | overrun
deriving DecidableEq, Repr

/-- A channel's state (chapter 2.4); the fault cause is present in FAULT only (R32). -/
inductive ChanState where
  | idle | search | check | locked
  | fault (cause : FaultCause)
deriving DecidableEq, Repr

/-- The event counter sources, in the order of the table of R42. -/
inductive CounterSource where
  | phosSamples | fluoSamples | satSamples | runsKept | runsShort | runsOverlong | runOverflow | unlocks | noisyDark
deriving DecidableEq, Repr

/-- One luminescence channel (R35 to R38, R42). -/
structure Channel where
  state : ChanState
  baccE : Nat
  baccL : Nat
  quiet : Nat
  noisy : Nat
  lockLoss : Nat
  source : CounterSource
  counter : Nat
deriving DecidableEq, Repr

/-- The states of the capture buffer (R45). -/
inductive CaptureState where
  | empty | armed | filling | full
deriving DecidableEq, Repr

/-- The capture trigger (R45). -/
inductive CaptureTrigger where
  | immediate | nextLetter
deriving DecidableEq, Repr

/-- One capture entry (R45). -/
structure CaptureEntry where
  pos : Pos
  rawE : Reading
  rawL : Reading
  cls : SampleClass
  run : RunState
  inLetter : Bool
deriving DecidableEq, Repr

/-- The capture buffer (R45). `passOver` is the letter already being scanned on the channel when the buffer was
armed, which a NEXT_LETTER capture passes over (R47). -/
structure Capture where
  state : CaptureState
  sel : Option (Chan × CaptureTrigger)
  letter : Option LetterId
  passOver : Option LetterId
  entries : List CaptureEntry
deriving DecidableEq, Repr

/-- The calibration results (R52 to R54). -/
inductive CalResult where
  | ok | noSignal | clampedLow | clampedHigh | fault | aborted
deriving DecidableEq, Repr

/-- One channel's part of a calibration (R50 to R54). -/
structure CalChannel where
  named : Bool
  /-- Being calibrated: its samples are taken and its result is not yet decided. -/
  active : Bool
  result : Option CalResult
  oldGain : Nat
  newGain : Nat
  meanL : Option Nat
  mismatch : Option Nat
  sumE : Nat
  sumL : Nat
  /-- The sum of l over the reference samples taken (R52). -/
  sumRef : Nat
  /-- The reference samples taken, for the mismatch count (R53). -/
  refs : List SamplePair
deriving DecidableEq, Repr

/-- The phases of a calibration (R51); `flashes` is how many of the phase's flashes have been made. -/
inductive CalPhase where
  | dark (flashes : Nat)
  | settle
  | reference (flashes : Nat)
deriving DecidableEq, Repr

/-- A calibration in progress (R50). -/
structure Calibration where
  phase : CalPhase
  chans : PerChan CalChannel
deriving DecidableEq, Repr

/-- The state of the luminescence channels. -/
structure Channels where
  chans : PerChan Channel
  /-- The faces whose return for the latest flash is awaited and not complete (R31). -/
  outstanding : PerFace Bool
  /-- The channels that were in FAULT when the latest travel flash was made: they give no sample of it (R41, R58). -/
  silent : PerChan Bool
  /-- A flash point reached and not yet taken (R30, R2). -/
  flashDue : Option Pos
  /-- The position of the latest travel flash of this sampling period (R30). -/
  flashPos : Option Pos
  /-- How many pulses FLASH_A and FLASH_B have put out since pin reset; the model's own view of the two lamp lines,
  which are always pulsed together (R30, R51). -/
  lampPulses : Nat
  /-- SHUTTER_A and SHUTTER_B: true is raised (R52). -/
  shutter : PerFace Bool
  capture : Capture
  calib : Option Calibration
deriving DecidableEq, Repr

/-! ### RFM: the run formers -/

/-- An open run (R57). -/
structure OpenRun where
  cls : TagClass
  first : Nat
  last : Nat
  peak : Nat
  sat : Nat
deriving DecidableEq, Repr

/-- One channel's letter context (R57). `awaiting`: the latest step's sample has not come, so the step becomes a
step without sample at the next flash (R58). `sampled`: the channel has taken an in-letter sample of the letter. -/
structure RunContext where
  openRun : Option OpenRun
  miss : Nat
  runs : List Run
  overflow : Bool
  coated : Bool
  bright : Bool
  awaiting : Bool
  sampled : Bool
deriving DecidableEq, Repr

/-- The contexts of the letter being scanned on the four channels (R57), with its blind marks (R41). -/
structure ScanContext where
  letter : LetterId
  ctx : PerChan RunContext
  blind : PerChan Bool
deriving DecidableEq, Repr

/-! ### CNU: the cancel unit -/

/-- The head states (chapter 5.3). -/
inductive HeadState where
  | ready | printing | recovering | fault | off
deriving DecidableEq, Repr

/-- The impression record sent on a head's data line (R105). -/
structure ImpressionRecord where
  date : Date
  timeMark : Nat
  officeText : List Byte
  machineNo : Nat
  seq : Nat
deriving DecidableEq, Repr

/-- One cancel head (R100). `recoveryEnd` is a point of the print of letter `recoveringFrom`, set up when that print
ended or was aborted (R99). `hdata` is the impression record last sent on its data line (R105). -/
structure HeadUnit where
  state : HeadState
  queue : List LetterId
  printing : Option LetterId
  fireEnd : Option Pos
  recoveryEnd : Option Pos
  recoveringFrom : Option LetterId
  offPending : Bool
  hdata : Option ImpressionRecord
deriving DecidableEq, Repr

/-- A waiting start number and its date (R93). -/
structure StartNumber where
  num : Nat
  date : Date
deriving DecidableEq, Repr

/-- The last fire date and the last sequence number, present together (R93). -/
structure LastFire where
  date : Date
  seq : Nat
deriving DecidableEq, Repr

/-- The cancel unit's state (R93, R100). -/
structure CancelUnit where
  date : Option Date
  timeMark : Nat
  office : Nat
  waiting : Option StartNumber
  lastFire : Option LastFire
  heads : PerHead HeadUnit
deriving DecidableEq, Repr

/-! ### PKM: the pocket manager -/

/-- The pocket states (R118). -/
inductive PocketState where
  | open | full | draining | closed | noTray | out
deriving DecidableEq, Repr

/-- The close reasons of a tray record (R131). -/
inductive CloseReason where
  | sweepRequest | sweepButton | full | pulled
deriving DecidableEq, Repr

/-- A pocket (R118). `reason` is the close reason of a tray being drained. `tray` is the tray presence the pocket
manager has taken from the sensor (R134, R137). A pocket holds a tray-log reservation exactly while DRAINING (R132). -/
structure Pocket where
  state : PocketState
  delivered : Nat
  pending : Nat
  trayNo : Nat
  trayClass : Option DestClass
  firstId : Option LetterId
  lastId : Option LetterId
  firstSeq : Option Nat
  lastSeq : Option Nat
  firstDate : Option Date
  reason : Option CloseReason
  tray : Bool
deriving DecidableEq, Repr

/-- A tray record (R131). -/
structure TrayRecord where
  pocket : PocketNo
  trayNo : Nat
  trayClass : Option DestClass
  count : Nat
  firstId : Option LetterId
  lastId : Option LetterId
  firstSeq : Option Nat
  lastSeq : Option Nat
  firstDate : Option Date
  reason : CloseReason
deriving DecidableEq, Repr

/-- The reject tallies, one for each first reason of R85. -/
inductive RejectReason where
  | short | long | close | closePair | blind
deriving DecidableEq, Repr

/-- The 34 shift tallies (R141). -/
inductive Tally where
  | inducted
  | stamp (o : Orientation)
  | meter (o : Orientation)
  | noTag | ambiguous
  | reject (r : RejectReason)
  | printed | missed | cancelFaulted | headDown
  | delivered (k : PocketNo)
  | lostFault | lostNoTray
  | traysClosed | traysLostLog
deriving DecidableEq, Repr

/-- The pocket manager's state (R118, R129, R132, R141). -/
structure PocketManager where
  pockets : PerPocket Pocket
  /-- The tray log, oldest first. -/
  log : List TrayRecord
  /-- The tallies in the order of the table of R141. -/
  tallies : Vector Nat 34
  /-- The sweep buttons whose 50 ms debounce is running (R129). -/
  debounce : PerPocket Bool
deriving DecidableEq, Repr

/-! ### LNC: the line controller -/

/-- The line states (R147). -/
inductive LineState where
  | loading | stopped | starting | running | stopping | faulted | standby
deriving DecidableEq, Repr

/-- The kinds of jam (R21). -/
inductive JamKind where
  | stray | missing | blocked
deriving DecidableEq, Repr

/-- A jam (R21). -/
structure Jam where
  kind : JamKind
  eye : Eye
  letter : Option LetterId
deriving DecidableEq, Repr

/-- The FAULTED causes (R160). -/
inductive LineCause where
  | jam (j : Jam)
  | trackOverflow | estop | speedLow | startFail | stopFail | drainTimeout
deriving DecidableEq, Repr

/-- The fault reason: the cause with its fields, and the line state left (R160). -/
structure FaultReason where
  cause : LineCause
  stateLeft : LineState
deriving DecidableEq, Repr

/-- The feed hold set (R153). -/
structure HoldSet where
  operator : Bool
  listHigh : Bool
  catchFull : Bool
  headDown : Bool
deriving DecidableEq, Repr

/-- The drain timer: not running, running, or holding its value between two drain phases (R158). The number is the
duration in ms it was started at; the time already used is not counted (log entry 3). -/
inductive DrainTimer where
  | off
  | running (ms : Nat)
  | held (ms : Nat)
deriving DecidableEq, Repr

/-- The line controller's state (chapter 7.1). A running timer is held with the duration in ms it was started at. -/
structure LineController where
  line : LineState
  reason : Option FaultReason
  hold : HoldSet
  startTimer : Option Nat
  drainTimer : DrainTimer
  stopTimer : Option Nat
  /-- Windows at speed, 0..10 (R151). -/
  atSpeed : Nat
  /-- Windows below speed, 0..20 (R156). -/
  below : Nat
  blindAtStart : PerChan Bool
  /-- The wake debounce, while it runs (R165). -/
  wake : Option Nat
deriving DecidableEq, Repr

/-! ### LKI: the link interface -/

/-- The link rates (R167); their codes are 0, 1 and 2 in this order (R200). -/
inductive LinkRate where
  | r115200 | r460800 | r921600
deriving DecidableEq, Repr

/-- The receiver (R171): the hunt state with LEN, the bytes gathered and the first CRC byte. -/
inductive Receiver where
  | hunt
  | length
  | body (len : Nat) (got : List Byte)
  | check (len : Nat) (got : List Byte) (hi : Option Byte)
deriving DecidableEq, Repr

/-- A request in the request queue (R172). -/
structure Request where
  kind : Byte
  tag : Byte
  payload : List Byte
deriving DecidableEq, Repr

/-- A frame's contents (R169). -/
structure Frame where
  kind : Byte
  tag : Byte
  payload : List Byte
deriving DecidableEq, Repr

/-- A place of the reply queue (R177): reserved for a deferred reply, or a composed reply. -/
inductive ReplyPlace where
  | reserved (kind : Byte) (tag : Byte)
  | composed (frame : Frame)
deriving DecidableEq, Repr

/-- The dispositions of a removed record (R26, R27, R28), coded 0, 1, 2 (R169). -/
inductive Disposition where
  | delivered | lostNoTray | lostFault
deriving DecidableEq, Repr

/-- A channel summary of a letter report (R179). -/
structure ChanSummary where
  runCount : Nat
  blind : Bool
  overflow : Bool
  coated : Bool
  bright : Bool
deriving DecidableEq, Repr

/-- A letter report: the record's parts except the tracking part, as they stood at the removal (R179). -/
structure LetterReport where
  id : LetterId
  disposition : Disposition
  flags : LetterFlags
  noTray : Bool
  lePos : Pos
  summaries : Option (PerChan ChanSummary)
  dest : Option Destination
  length : Option Int
  gap : Option Int
  resync : Option Int
  verdict : Option Verdict
  cancel : Option CancelPart
deriving DecidableEq, Repr

/-- The event kinds in the order of the table of R183. -/
inductive EventKind where
  | lineState | fault | hold | headFault | channelUnlock | channelFault | channelBlind
  | pocketFull | trayClosed | pocketNoTray | profileDefaulted | wake | seqWrap | reportsDropped
deriving DecidableEq, Repr

/-- The link interface's state (chapter 8). -/
structure Link where
  mode : LinkMode
  rate : LinkRate
  rx : Receiver
  /-- The request queue, oldest first (R172). -/
  requests : List Request
  /-- The reply queue (R177). -/
  replies : List ReplyPlace
  /-- The report queue, oldest first (R180). -/
  reports : List LetterReport
  dropped : Nat
  badFrames : Nat
  timeouts : Nat
  busy : Nat
  /-- The pending event set (R183). -/
  events : EventSet
  noticeDue : Bool
  /-- A RESET has been accepted and has not yet acted (R178). -/
  resetPending : Bool
  /-- A frame is being sent on TXD (R167, R177). -/
  sending : Bool
  /-- How many frames have ended with DE falling, in the HALF mode (R167): DE is up from a frame's first start bit to its
  last stop bit, so it falls once for each frame, between two frames sent back to back too. The model's own view of that
  line. -/
  deFalls : Nat
  /-- The bytes of the frame last sent on TXD; the model's own view of that line. -/
  txd : List Byte
deriving DecidableEq, Repr

/-! ### PRL: the profile loader -/

/-- The fallback and store failure reasons, coded 1..5 (9.8). -/
inductive StoreReason where
  | noResponse | badChecksum | badFormat | inconsistent | mismatch
deriving DecidableEq, Repr

/-- The load result (R190, R200). `check` is the failing cross-field check of INCONSISTENT, otherwise 0. -/
inductive LoadResult where
  | inProgress | ok | clamped
  | defaulted (reason : StoreReason) (check : Nat)
deriving DecidableEq, Repr

/-- The store write state (R196) with the image being written: IDLE; WRITING, waiting for the store before the
first page or for page `p`; VERIFYING. -/
inductive StoreWrite where
  | idle
  | waiting (image : List Byte)
  | page (p : Nat) (image : List Byte)
  | verifying (image : List Byte)
deriving DecidableEq, Repr

/-- The operations of a store write on the SPI lines (9.2, R196). -/
inductive StoreOp where
  | writeEnable
  | pageWrite (address : Nat) (bytes : List Byte)
deriving DecidableEq, Repr

/-- The profile loader's state (chapter 9.1). -/
structure Loader where
  source : ProfSource
  profile : Profile
  result : LoadResult
  /-- The LOADING in progress follows a pin reset, not a soft reset (R145, R146). -/
  afterPin : Bool
  store : StoreWrite
  /-- The operations last sent to the store for a page (R196); the model's own view of the SPI lines. -/
  spiOps : List StoreOp
deriving DecidableEq, Repr

/-! ### Input pins -/

/-- The levels on the input pins, as the last command about each left them. True is active, blocked or present. -/
structure Inputs where
  /-- EYE_E0 is blocked (R6). -/
  e0 : Bool
  /-- EYE_E1, EYE_EC, EYE_E2 and EYE_E3 are blocked (R6). -/
  e1 : Bool
  ec : Bool
  e2 : Bool
  e3 : Bool
  /-- EYE_PE1 to EYE_PE9 are blocked (R6). -/
  pe : Vector Bool 9
  /-- ESTOP_N is active (R162). -/
  estop : Bool
  /-- HF_U and HF_L are active (R109). -/
  headFault : PerHead Bool
  /-- FEEDLOAD is active (R165). -/
  feedload : Bool
  /-- TRAY_P0 to TRAY_P9 report a tray present (R134). -/
  tray : PerPocket Bool
  /-- SWEEP_P0 to SWEEP_P9 are active (R129). -/
  sweep : PerPocket Bool
deriving DecidableEq, Repr

/-- The state of the LF-240: its nine blocks, its input pins, and the queue of the commands that wait. -/
structure State where
  /-- RESET_N is held active (R199). -/
  inReset : Bool
  inputs : Inputs
  trk : Tracker
  lch : Channels
  /-- The letter contexts of the run formers (R57). -/
  scan : Option ScanContext
  /-- The held verdict of the facing unit: the letter it waits for (R78). -/
  held : Option LetterId
  cnu : CancelUnit
  pkm : PocketManager
  lnc : LineController
  lki : Link
  prl : Loader
  /-- The commands that wait, first in, first out. -/
  pending : List Instr
deriving DecidableEq, Repr

/-- Why the block stops with a fault. -/
inductive Fault where
  /-- Raised by `execEyeLeEdge` alone, for an operand E0: the row EYE_LE_EDGE is an edge at one of the later eyes, and
  the edges at E0 are commands of their own. Safe: the part has no such event, so no behaviour is lost. -/
  | notALaterEye
deriving DecidableEq, Repr

/-- Why the block refuses a command. -/
inductive Refusal where
  /-- The command has no meaning in this model yet. Raised by no arm at present. Safe. -/
  | notModelled (mnemonic : String)
deriving DecidableEq, Repr

/-! ### The values after reset -/

/-- A gate at rest without an owner (R29). -/
def Gate.atRest : Gate := ⟨none, false⟩

/-- TRK after a pin reset (R29). -/
def Tracker.initial : Tracker where
  belt := 0
  windowCount := 0
  speed := 0
  moving := true
  letters := []
  nextId := 0
  measuring := none
  lastTe := none
  gates := Vector.replicate 10 .atRest

/-- A channel after either reset (R56); the accumulators are set when LOADING ends (R36), and stand at 0 until then
(DESIGN CHOICE, log entry 10). -/
def Channel.initial : Channel where
  state := .idle
  baccE := 0
  baccL := 0
  quiet := 0
  noisy := 0
  lockLoss := 0
  source := .runsKept
  counter := 0

/-- The capture buffer in EMPTY (R45). -/
def Capture.cleared : Capture := ⟨.empty, none, none, none, []⟩

/-- LCH after a pin reset (R56). -/
def Channels.initial : Channels where
  chans := .all .initial
  outstanding := .all false
  silent := .all false
  flashDue := none
  flashPos := none
  lampPulses := 0
  shutter := .all false
  capture := .cleared
  calib := none

/-- A head after either reset: READY, or FAULT if its fault input is active (R117). -/
def HeadUnit.initial (faultInput : Bool) : HeadUnit where
  state := if faultInput then .fault else .ready
  queue := []
  printing := none
  fireEnd := none
  recoveryEnd := none
  recoveringFrom := none
  offPending := false
  hdata := none

/-- CNU after a pin reset (R93, R117). -/
def CancelUnit.initial (hf : PerHead Bool) : CancelUnit where
  date := none
  timeMark := 0
  office := 0
  waiting := none
  lastFire := none
  heads := ⟨.initial hf.upper, .initial hf.lower⟩

/-- A pocket after a pin reset (R145): its state and class are set when LOADING ends, and stand at NO_TRAY and NONE
until then (DESIGN CHOICE, log entry 10). -/
def Pocket.initial : Pocket where
  state := .noTray
  delivered := 0
  pending := 0
  trayNo := 1
  trayClass := none
  firstId := none
  lastId := none
  firstSeq := none
  lastSeq := none
  firstDate := none
  reason := none
  tray := false

/-- PKM after a pin reset (R145). -/
def PocketManager.initial : PocketManager where
  pockets := Vector.replicate 10 .initial
  log := []
  tallies := Vector.replicate 34 0
  debounce := Vector.replicate 10 false

/-- LNC after a pin reset (R166). -/
def LineController.initial : LineController where
  line := .loading
  reason := none
  hold := ⟨false, false, false, false⟩
  startTimer := none
  drainTimer := .off
  stopTimer := none
  atSpeed := 0
  below := 0
  blindAtStart := .all false
  wake := none

/-- The rate the straps choose (R167). -/
def rateOfStraps (rate1 rate0 : Bool) : LinkRate :=
  match rate1, rate0 with
  | false, true => .r460800
  | true, false => .r921600
  | _, _ => .r115200

/-- LKI after a pin reset (R188). -/
def Link.initial (mode : LinkMode) (rate : LinkRate) : Link where
  mode := mode
  rate := rate
  rx := .hunt
  requests := []
  replies := []
  reports := []
  dropped := 0
  badFrames := 0
  timeouts := 0
  busy := 0
  events := 0
  noticeDue := false
  resetPending := false
  sending := false
  deFalls := 0
  txd := []

/-- PRL at the start of LOADING after a pin reset (R190, R200): the defaults stand until the load ends (log entry 9). -/
def Loader.initial (source : ProfSource) : Loader where
  source := source
  profile := .builtin
  result := .inProgress
  afterPin := true
  store := .idle
  spiOps := []

/-- The pin reset values of every block, with the input levels and the straps as given (R199). -/
def State.pinReset (inputs : Inputs) (straps : Straps) (pending : List Instr) : State where
  inReset := false
  inputs := inputs
  trk := .initial
  lch := .initial
  scan := none
  held := none
  cnu := .initial inputs.headFault
  pkm := .initial
  lnc := .initial
  lki := .initial straps.linkMode (rateOfStraps straps.rate1 straps.rate0)
  prl := .initial (if straps.profSrc then .store else .builtin)
  pending := pending

/-- No input active, no tray in a pocket, no eye blocked (DESIGN CHOICE, log entry 11: the spec gives the pins no
level at reset). -/
def Inputs.idle : Inputs where
  e0 := false
  e1 := false
  ec := false
  e2 := false
  e3 := false
  pe := Vector.replicate 9 false
  estop := false
  headFault := .all false
  feedload := false
  tray := Vector.replicate 10 false
  sweep := Vector.replicate 10 false

/-- All straps low, in the FULL mode (DESIGN CHOICE, log entry 11). -/
def strapsLow : Straps := ⟨false, .full, false, false⟩

/-- The machine right after reset: RESET_N has been released, the line is LOADING (R199). -/
def State.reset : State := .pinReset .idle strapsLow []

end Sys2Proof.Machine
end

