-- ==== Sys2Proof/Machine/Flags.lean ====
section
/-! DEFINITION. The pending event set, the feed hold set, the saturating counts, and the output pins that follow
from the state. -/

namespace Sys2Proof.Machine

/-! ### Events (R183 to R185) -/

/-- The number of an event kind (R183). -/
def EventKind.idx : EventKind → Nat
  | .lineState => 0
  | .fault => 1
  | .hold => 2
  | .headFault => 3
  | .channelUnlock => 4
  | .channelFault => 5
  | .channelBlind => 6
  | .pocketFull => 7
  | .trayClosed => 8
  | .pocketNoTray => 9
  | .profileDefaulted => 10
  | .wake => 11
  | .seqWrap => 12
  | .reportsDropped => 13

/-- The set holding one kind (R169). -/
def EventKind.bit (k : EventKind) : EventSet := 1#14 <<< k.idx

/-- Whether a set holds a kind. -/
def EventSet.has (e : EventSet) (k : EventKind) : Bool := e.getLsbD k.idx

/-- A kind becomes pending (R183); in the FULL mode, a kind in the mask that goes from not pending to pending makes
a notice due (R185). -/
def raise (k : EventKind) (s : State) : State :=
  let wasPending := EventSet.has s.lki.events k
  let due := !wasPending && s.lki.mode == .full && EventSet.has s.prl.profile.eventMask k
  { s with lki := { s.lki with events := s.lki.events ||| k.bit, noticeDue := s.lki.noticeDue || due } }

/-! ### The feed hold set (R153) -/

/-- No hold reason is in the set. -/
def HoldSet.isEmpty (h : HoldSet) : Bool := !(h.operator || h.listHigh || h.catchFull || h.headDown)

/-- The hold set becomes `h`. A change between empty and non-empty makes HOLD pending, except in LOADING: the changes
of a reset and of the end of LOADING raise no HOLD event (R153). -/
def setHold (h : HoldSet) (s : State) : State :=
  let s' := { s with lnc := { s.lnc with hold := h } }
  if h.isEmpty != s.lnc.hold.isEmpty && s.lnc.line != .loading then raise .hold s' else s'

/-! ### Counts -/

/-- One more, saturating at 65535 (the conventions of the introduction). -/
def satSucc (n : Nat) : Nat := min (n + 1) Config.countCeiling

/-- The orientation's place among four. -/
def Orientation.idx : Orientation → Nat
  | .o1 => 0
  | .o2 => 1
  | .o3 => 2
  | .o4 => 3

/-- The place of a tally in the table of R141. -/
def Tally.idx : Tally → Fin 34
  | .inducted => 0
  | .stamp .o1 => 1
  | .stamp .o2 => 2
  | .stamp .o3 => 3
  | .stamp .o4 => 4
  | .meter .o1 => 5
  | .meter .o2 => 6
  | .meter .o3 => 7
  | .meter .o4 => 8
  | .noTag => 9
  | .ambiguous => 10
  | .reject .short => 11
  | .reject .long => 12
  | .reject .close => 13
  | .reject .closePair => 14
  | .reject .blind => 15
  | .printed => 16
  | .missed => 17
  | .cancelFaulted => 18
  | .headDown => 19
  | .delivered k => ⟨20 + k.val, by omega⟩
  | .lostFault => 30
  | .lostNoTray => 31
  | .traysClosed => 32
  | .traysLostLog => 33

/-- The value of a tally. -/
def tally (t : Tally) (s : State) : Nat := s.pkm.tallies[t.idx]

/-- A tally counts one, saturating at its ceiling (R141). -/
def bump (t : Tally) (s : State) : State :=
  { s with pkm := { s.pkm with
      tallies := s.pkm.tallies.set t.idx (min (s.pkm.tallies[t.idx] + 1) Config.tallyCeiling) } }

/-! ### Output pins -/

/-- FEED: asserted while the line is RUNNING and the hold set is empty (R154). -/
def feedPin (s : State) : Bool := !s.inReset && s.lnc.line == .running && s.lnc.hold.isEmpty

/-- TRANSPORT_RUN: asserted from STARTING until the drain ends or FAULTED entry (R154, R158); the stop timer runs in
STOPPING exactly once the drain has ended. -/
def transportRunPin (s : State) : Bool :=
  !s.inReset && match s.lnc.line with
    | .starting | .running => true
    | .stopping => s.lnc.stopTimer.isNone
    | _ => false

/-- ATTN: asserted exactly when the pending set and the mask have a kind in common (R184). -/
def attnPin (s : State) : Bool := !s.inReset && s.lki.events &&& s.prl.profile.eventMask != 0

/-- FIRE_U and FIRE_L: asserted while the head is PRINTING (R100). -/
def firePin (h : Head) (s : State) : Bool := !s.inReset && (s.cnu.heads.get h).state == .printing

/-- DE: asserted in the FULL mode, and in the HALF mode while a frame is being sent (R167). -/
def dePin (s : State) : Bool := !s.inReset && (s.lki.mode == .full || s.lki.sending)

/-- TXD idles at mark: between frames and while RESET_N is active (R167, R199). -/
def txdAtMark (s : State) : Bool := s.inReset || !s.lki.sending

/-- SPI_CS_N is high: while RESET_N is active, under BUILTIN, and while no load and no store write is in progress (9.2,
R189, R197, R199). Between two operations of one load or write the line is shown low (DESIGN CHOICE, log entry 31). -/
def spiCsHigh (s : State) : Bool :=
  s.inReset || s.prl.source == .builtin || (s.lnc.line != .loading && s.prl.store == .idle)

/-- The place of a gate among the ten. -/
def gateIdx : GateId → Fin 10
  | .g0 => 0
  | .g1 => 1
  | .bg k => ⟨k.val + 2, by omega⟩

/-- A GATE_ line: asserted for divert or turnover (R23). -/
def gatePin (g : GateId) (s : State) : Bool := !s.inReset && (s.trk.gates[gateIdx g]).driven

/-- SHUTTER_A and SHUTTER_B (R52). -/
def shutterPin (f : Face) (s : State) : Bool := !s.inReset && s.lch.shutter.get f

/-- The line is sampling in STARTING, RUNNING and STOPPING (R30). -/
def LineState.sampling : LineState → Bool
  | .starting | .running | .stopping => true
  | _ => false

end Sys2Proof.Machine
end

