-- ==== Sys2Proof/Machine/Ops.lean ====
section
/-! DEFINITION. The named operations the blocks share: comparing belt positions, finding and changing letter
records, the route's eyes and gates, the hold reasons, and the channels', heads' and pockets' own updates. -/

namespace Sys2Proof.Machine

/-! ### Belt positions (R2) -/

/-- The signed difference q − p modulo 2^32, in −2^31..2^31 − 1 (R2). -/
def posDiff (p q : Pos) : Int := (q - p).toInt

/-- The belt at `belt` has reached point `p`: it is at `p` or ahead of it (R2). -/
def reached (belt p : Pos) : Bool := 0 ≤ posDiff p belt

/-- The position `d` tc beyond `p`. -/
def beyond (p : Pos) (d : Nat) : Pos := p + BitVec.ofNat 32 d

/-- The position `p` moved by a signed deviation. -/
def moveBy (p : Pos) (d : Int) : Pos := p + BitVec.ofInt 32 d

/-- An optional point is set up and reached. -/
def due (belt : Pos) (p : Option Pos) : Bool :=
  match p with
  | some q => reached belt q
  | none => false

/-! ### Eye levels (R6) -/

/-- An eye is blocked (R6). -/
def Inputs.blocked (i : Inputs) : Eye → Bool
  | .e0 => i.e0
  | .e1 => i.e1
  | .ec => i.ec
  | .e2 => i.e2
  | .e3 => i.e3
  | .pe k => i.pe[k]

/-- The level of an eye becomes `b` (R6). -/
def Inputs.setEye (e : Eye) (b : Bool) (i : Inputs) : Inputs :=
  match e with
  | .e0 => { i with e0 := b }
  | .e1 => { i with e1 := b }
  | .ec => { i with ec := b }
  | .e2 => { i with e2 := b }
  | .e3 => { i with e3 := b }
  | .pe k => { i with pe := i.pe.set k b }

/-! ### Letter records (R14, R16) -/

/-- The record of a letter in the transport list. -/
def findLetter (id : LetterId) (s : State) : Option Letter := s.trk.letters.find? (·.id == id)

/-- The transport list with the record of `id` changed by `f`. -/
def updateList (id : LetterId) (f : Letter → Letter) (ls : List Letter) : List Letter :=
  ls.map fun l => if l.id == id then f l else l

/-- The record of letter `id` is changed by `f`. -/
def updateLetter (id : LetterId) (f : Letter → Letter) (s : State) : State :=
  { s with trk := { s.trk with letters := updateList id f s.trk.letters } }

/-- The record that follows the letter in the transport list (R78). -/
def successor (id : LetterId) : List Letter → Option Letter
  | [] => none
  | l :: ls => if l.id == id then ls.head? else successor id ls

/-- No flag (R9). -/
def LetterFlags.empty : LetterFlags := ⟨false, false, false, false⟩

/-! ### The route of a letter (R7) -/

/-- The pocket eye of a destination: EC for pocket 0, PEk for pocket k (R7, R26). -/
def pocketEye (k : PocketNo) : Eye :=
  if h : k.val = 0 then .ec else .pe ⟨k.val - 1, by omega⟩

/-- The bank gates a destination places on the route (R7): BG1 to BGk, or BG1 to BG8 for pocket 9. -/
def bankGatesTo (k : PocketNo) : List GateId :=
  ([0, 1, 2, 3, 4, 5, 6, 7].filter fun j : Fin 8 => j.val < k.val).map GateId.bg

/-- The eyes at which the letter is expected (R7). -/
def expectedEyes (l : Letter) : List Eye :=
  match l.route, l.dest with
  | none, _ => []
  | some .cull, _ => [.ec]
  | some (.main _ _), none => [.e1, .e2, .e3]
  | some (.main _ _), some d => [.e1, .e2, .e3, pocketEye d.pocket]

/-- The gates on the letter's route (R7). -/
def routeGates (l : Letter) : List GateId :=
  match l.route, l.dest with
  | none, _ => []
  | some .cull, _ => [.g0]
  | some (.main _ _), none => [.g0, .g1, .bg 0]
  | some (.main _ _), some d => [.g0, .g1] ++ bankGatesTo d.pocket

/-- The letter's own pocket eye, once its destination is written (R26). -/
def ownPocketEye (l : Letter) : Option Eye := l.dest.map fun d => pocketEye d.pocket

/-- The prediction for eye X (R17). -/
def predicted (p : Profile) (l : Letter) (e : Eye) : Pos := beyond l.lePos (p.eyeOffset e)

/-- The open point of the window at eye X (R17). -/
def openPoint (p : Profile) (l : Letter) (e : Eye) : Pos := predicted p l e - BitVec.ofNat 32 p.window

/-- The expiry point of the window at eye X (R17). -/
def expiryPointAt (p : Profile) (l : Letter) (e : Eye) : Pos := beyond (predicted p l e) (p.window + 1)

/-- The setup point of gate X (R23). -/
def setupPointAt (p : Profile) (l : Letter) (g : GateId) : Pos :=
  beyond l.lePos (p.gateOffset g) - BitVec.ofNat 32 p.gsetup

/-- The commitment point's gate of a destination pocket (R25). -/
def commitGate (k : PocketNo) : GateId :=
  if k.val = 0 then .g0 else if h : k.val ≤ 8 then .bg ⟨k.val - 1, by omega⟩ else .bg 7

/-- The letter has reached its commitment point for pocket `k` (R25). -/
def committed (l : Letter) (k : PocketNo) : Bool := commitGate k ∈ l.setupReached

/-! ### Hold reasons kept by their owners (R153) -/

/-- LIST_HIGH follows the list count (R16). -/
def refreshListHigh (s : State) : State :=
  setHold { s.lnc.hold with listHigh := decide (Config.listHigh ≤ s.trk.letters.length) } s

/-- A pocket's delivered + pending has reached its limit. -/
def atLimit (k : PocketNo) (s : State) : Bool :=
  s.prl.profile.limits[k] ≤ (s.pkm.pockets[k]).delivered + (s.pkm.pockets[k]).pending

/-- CATCH_FULL follows pockets 0 and 9 (R127). -/
def refreshCatchFull (s : State) : State :=
  setHold { s.lnc.hold with catchFull := atLimit 0 s || atLimit 9 s } s

/-- A head is down in FAULT or OFF, or with an OFF request pending (R100). -/
def HeadUnit.down (h : HeadUnit) : Bool := h.state == .fault || h.state == .off || h.offPending

/-- The HEAD_DOWN reason's condition (R114). -/
def headDownHeld (s : State) : Bool :=
  s.prl.profile.headDownPolicy == .hold && (s.cnu.heads.upper.down || s.cnu.heads.lower.down)

/-- HEAD_DOWN takes its condition's value (R114). -/
def applyHeadDown (s : State) : State := setHold { s.lnc.hold with headDown := headDownHeld s } s

/-- HEAD_DOWN follows the heads and the policy in every line state after LOADING; in LOADING it waits for the end of
LOADING (R114, R117, R153). -/
def refreshHeadDown (s : State) : State := if s.lnc.line = .loading then s else applyHeadDown s

/-! ### One block's part -/

/-- Channel `c` is changed by `f`. -/
def updateChan (c : Chan) (f : Channel → Channel) (s : State) : State :=
  { s with lch := { s.lch with chans := s.lch.chans.set c (f (s.lch.chans.get c)) } }

/-- Head `h` is changed by `f`. -/
def updateHead (h : Head) (f : HeadUnit → HeadUnit) (s : State) : State :=
  { s with cnu := { s.cnu with heads := s.cnu.heads.set h (f (s.cnu.heads.get h)) } }

/-- Pocket `k` is changed by `f`. -/
def updatePocket (k : PocketNo) (f : Pocket → Pocket) (s : State) : State :=
  { s with pkm := { s.pkm with pockets := s.pkm.pockets.set k (f s.pkm.pockets[k]) } }

/-- Gate `g` becomes `x`. -/
def setGate (g : GateId) (x : Gate) (s : State) : State :=
  { s with trk := { s.trk with gates := s.trk.gates.set (gateIdx g) x } }

/-- The gate `g`. -/
def gateOf (g : GateId) (s : State) : Gate := s.trk.gates[gateIdx g]

/-- The gates in order. -/
def allGates : List GateId := [.g0, .g1, .bg 0, .bg 1, .bg 2, .bg 3, .bg 4, .bg 5, .bg 6, .bg 7]

/-- The outcome of a command that takes the machine on. While RESET_N is held active the part is held in reset and
takes no event (R199). -/
def live (f : State → State) (s : State) : Host.Outcome State Fault Refusal :=
  if s.inReset then .next s else .next (f s)

end Sys2Proof.Machine
end

