-- ==== Sys2Proof/Machine/Operands.lean ====
section
/-! DEFINITION. The bytes of the link: frames and their CRC, the request kinds with their payload lengths, the
enumeration codes of R169, the fields of every reply in the layout of R175, and the letter report of R179. -/

namespace Sys2Proof.Machine

/-! ### CRC and frames (R169, R170) -/

/-- One bit of the CRC: the register is shifted left, and combined with 0x1021 when the bit shifted out differs from
the data bit (R170). -/
def crcBit (r : BitVec 16) (b : Bool) : BitVec 16 :=
  if r.msb != b then (r <<< 1) ^^^ 0x1021#16 else r <<< 1

/-- One byte of the CRC, most significant bit first (R170). -/
def crcByte (r : BitVec 16) (x : Byte) : BitVec 16 :=
  [7, 6, 5, 4, 3, 2, 1, 0].foldl (fun r i => crcBit r (x.getLsbD i)) r

/-- The CRC of a byte list, the register starting at 0xFFFF (R170). -/
def crc (bs : List Byte) : BitVec 16 := bs.foldl crcByte 0xFFFF#16

/-- The high byte of a CRC. -/
def crcHi (c : BitVec 16) : Byte := c.extractLsb' 8 8

/-- The low byte of a CRC. -/
def crcLo (c : BitVec 16) : Byte := c.extractLsb' 0 8

/-- SOF (R169). -/
def sof : Byte := 0xA5

/-- The bytes a frame's CRC covers: LEN, KIND, TAG and payload (R169). -/
def frameCore (f : Frame) : List Byte :=
  BitVec.ofNat 8 (f.payload.length + 2) :: f.kind :: f.tag :: f.payload

/-- The bytes of a frame in the order they are sent (R169). -/
def frameBytes (f : Frame) : List Byte :=
  sof :: (frameCore f ++ [crcHi (crc (frameCore f)), crcLo (crc (frameCore f))])

/-! ### Request kinds (R172) -/

/-- The kinds the part takes as requests (R172). -/
inductive ReqKind where
  | identify | getStatus | poll | reset
  | start | stop | standby | clearFault | holdFeed | releaseFeed
  | setPostmark | getPostmark | headReset | headDisable | headEnable
  | calibrate | armCapture | readCapture | setCounterSource | readChannels | channelReset
  | sweep | pocketOut | pocketIn | readPockets | takeTray
  | readTallies | clearShift | getField | setField | writeProfile
  | setEventMask | clearEvents | setReportMode
deriving DecidableEq, Repr

/-- The code of a request kind (R172). -/
def ReqKind.code : ReqKind → Byte
  | .identify => 0x01
  | .getStatus => 0x02
  | .poll => 0x03
  | .reset => 0x04
  | .start => 0x10
  | .stop => 0x11
  | .standby => 0x12
  | .clearFault => 0x13
  | .holdFeed => 0x14
  | .releaseFeed => 0x15
  | .setPostmark => 0x20
  | .getPostmark => 0x21
  | .headReset => 0x22
  | .headDisable => 0x23
  | .headEnable => 0x24
  | .calibrate => 0x30
  | .armCapture => 0x31
  | .readCapture => 0x32
  | .setCounterSource => 0x33
  | .readChannels => 0x34
  | .channelReset => 0x35
  | .sweep => 0x40
  | .pocketOut => 0x41
  | .pocketIn => 0x42
  | .readPockets => 0x43
  | .takeTray => 0x44
  | .readTallies => 0x50
  | .clearShift => 0x51
  | .getField => 0x60
  | .setField => 0x61
  | .writeProfile => 0x62
  | .setEventMask => 0x70
  | .clearEvents => 0x71
  | .setReportMode => 0x72

/-- Every request kind, in the order of the table of R172. -/
def allKinds : List ReqKind :=
  [.identify, .getStatus, .poll, .reset, .start, .stop, .standby, .clearFault, .holdFeed, .releaseFeed,
   .setPostmark, .getPostmark, .headReset, .headDisable, .headEnable, .calibrate, .armCapture, .readCapture,
   .setCounterSource, .readChannels, .channelReset, .sweep, .pocketOut, .pocketIn, .readPockets, .takeTray,
   .readTallies, .clearShift, .getField, .setField, .writeProfile, .setEventMask, .clearEvents, .setReportMode]

/-- A KIND byte is one of the request kinds (R173). -/
def knownKind (b : Byte) : Bool := allKinds.any fun k => k.code == b

/-- The requests the link interface answers through LOADING (R173). -/
def ReqKind.inLoading : ReqKind → Bool
  | .identify | .getStatus | .poll => true
  | _ => false

/-- The error codes (R174). -/
inductive ErrorCode where
  | unknownKind | badLength | badValue | notReady | wrongState | busy | noStore | storeFail | profileInvalid
  | noPostmark | logFull | inUse | conditionActive
deriving DecidableEq, Repr

/-- The byte of an error code (R174). -/
def ErrorCode.byte : ErrorCode → Byte
  | .unknownKind => 0x01
  | .badLength => 0x02
  | .badValue => 0x03
  | .notReady => 0x04
  | .wrongState => 0x05
  | .busy => 0x06
  | .noStore => 0x07
  | .storeFail => 0x08
  | .profileInvalid => 0x09
  | .noPostmark => 0x0A
  | .logFull => 0x0B
  | .inUse => 0x0C
  | .conditionActive => 0x0D

/-- The payload length check of R173: none when the length is allowed for the kind, else the refusal. -/
def lengthRefusal (k : ReqKind) (payload : List Byte) : Option ErrorCode :=
  let want (n : Nat) : Option ErrorCode := if payload.length = n then none else some .badLength
  match k with
  | .setPostmark => if payload.length = 7 ∨ payload.length = 11 then none else some .badLength
  | .headReset | .headDisable | .headEnable | .calibrate | .channelReset => want 1
  | .sweep | .pocketOut | .pocketIn | .setReportMode => want 1
  | .armCapture | .readCapture | .setCounterSource | .setEventMask | .clearEvents => want 2
  | .getField =>
    match payload with
    | [] => some .badLength
    | n :: rest =>
      if (fieldShape n.toNat).isNone then some .badValue else if rest.isEmpty then none else some .badLength
  | .setField =>
    match payload with
    | [] => some .badLength
    | n :: rest =>
      match fieldShape n.toNat with
      | none => some .badValue
      | some sh => if sh.linkSizeOk rest.length then none else some .badLength
  | _ => want 0

/-! ### Payload operands -/

/-- Byte `i` of a payload; 0 beyond its end. -/
def byteAt (bs : List Byte) (i : Nat) : Byte := bs.getD i 0

/-- The channels a channel code names: one, or all four for code 4; none for another code (R169). -/
def chansOfCode (b : Byte) : Option (List Chan) :=
  match b.toNat with
  | 0 => some [.au]
  | 1 => some [.al]
  | 2 => some [.bu]
  | 3 => some [.bl]
  | 4 => some allChans
  | _ => none

/-- The one channel a code 0..3 names (R169). -/
def chanOfCode (b : Byte) : Option Chan :=
  match b.toNat with
  | 0 => some .au
  | 1 => some .al
  | 2 => some .bu
  | 3 => some .bl
  | _ => none

/-- The head a code names (R169). -/
def headOfCode (b : Byte) : Option Head :=
  match b.toNat with
  | 0 => some .upper
  | 1 => some .lower
  | _ => none

/-- The capture trigger a code names (R169). -/
def triggerOfCode (b : Byte) : Option CaptureTrigger :=
  match b.toNat with
  | 0 => some .immediate
  | 1 => some .nextLetter
  | _ => none

/-- The counter source a code names, in the order of R42 (R169). -/
def sourceOfCode (b : Byte) : Option CounterSource :=
  match b.toNat with
  | 0 => some .phosSamples
  | 1 => some .fluoSamples
  | 2 => some .satSamples
  | 3 => some .runsKept
  | 4 => some .runsShort
  | 5 => some .runsOverlong
  | 6 => some .runOverflow
  | 7 => some .unlocks
  | 8 => some .noisyDark
  | _ => none

/-- The pocket a byte names, 0..9. -/
def pocketOfByte (b : Byte) : Option PocketNo := if h : b.toNat < 10 then some ⟨b.toNat, h⟩ else none

/-- The report mode a code names (R181). -/
def modeOfCode (b : Byte) : Option ReportMode := if b.toNat < 3 then some (.ofCode b.toNat) else none

/-- A year divisible by 4 is a leap year, in the range 2000..2099 (R94). -/
def daysIn (year month : Nat) : Nat :=
  match month with
  | 2 => if year % 4 = 0 then 29 else 28
  | 4 | 6 | 9 | 11 => 30
  | _ => 31

/-- A real calendar date with a year in 2000..2099 (R93, R94). -/
def Date.real (d : Date) : Bool :=
  2000 ≤ d.year && d.year ≤ 2099 && 1 ≤ d.month && d.month ≤ 12 && 1 ≤ d.day && d.day ≤ daysIn d.year d.month

/-- A date's place in time. -/
def Date.key (d : Date) : Nat := (d.year * 16 + d.month) * 32 + d.day

/-- An earlier date (R94). -/
def Date.before (a b : Date) : Bool := a.key < b.key

/-! ### Codes and coded fields (R169) -/

def u8 (n : Nat) : List Byte := [BitVec.ofNat 8 n]

def bit (b : Bool) : List Byte := u8 (boolCode b)

/-- A presence byte, then the field, sent as `n` zeros when absent (R169). -/
def optField {α : Type} (n : Nat) (enc : α → List Byte) : Option α → List Byte
  | some x => 1 :: enc x
  | none => 0 :: List.replicate n 0

/-- An optional one-byte enumeration: 0 when absent, 1 + its code when present (R169). -/
def optCode : Option Nat → List Byte
  | some c => u8 (c + 1)
  | none => u8 0

def dateBytes (d : Date) : List Byte := be16 d.year ++ u8 d.month ++ u8 d.day

def LineState.code : LineState → Nat
  | .loading => 0
  | .stopped => 1
  | .starting => 2
  | .running => 3
  | .stopping => 4
  | .faulted => 5
  | .standby => 6

def LineCause.code : LineCause → Nat
  | .jam _ => 0
  | .trackOverflow => 1
  | .estop => 2
  | .speedLow => 3
  | .startFail => 4
  | .stopFail => 5
  | .drainTimeout => 6

/-- The jam of a JAM cause. -/
def LineCause.jam? : LineCause → Option Jam
  | .jam j => some j
  | _ => none

def JamKind.code : JamKind → Nat
  | .stray => 0
  | .missing => 1
  | .blocked => 2

def eyeCode : Eye → Nat
  | .e0 => 0
  | .e1 => 1
  | .ec => 2
  | .e2 => 3
  | .e3 => 4
  | .pe k => 5 + k.val

def ChanState.code : ChanState → Nat
  | .idle => 0
  | .search => 1
  | .check => 2
  | .locked => 3
  | .fault _ => 4

def FaultCause.code : FaultCause → Nat
  | .timeout => 0
  | .overrun => 1

/-- The fault cause of a channel, present in FAULT only (R32). -/
def ChanState.cause? : ChanState → Option FaultCause
  | .fault c => some c
  | _ => none

def CounterSource.code : CounterSource → Nat
  | .phosSamples => 0
  | .fluoSamples => 1
  | .satSamples => 2
  | .runsKept => 3
  | .runsShort => 4
  | .runsOverlong => 5
  | .runOverflow => 6
  | .unlocks => 7
  | .noisyDark => 8

def CaptureState.code : CaptureState → Nat
  | .empty => 0
  | .armed => 1
  | .filling => 2
  | .full => 3

def CaptureTrigger.code : CaptureTrigger → Nat
  | .immediate => 0
  | .nextLetter => 1

def SampleClass.code : SampleClass → Nat
  | .phos => 0
  | .fluo => 1
  | .none => 2

def RunState.code : RunState → Nat
  | .noRun => 0
  | .phosRun => 1
  | .fluoRun => 2

def CalResult.code : CalResult → Nat
  | .ok => 0
  | .noSignal => 1
  | .clampedLow => 2
  | .clampedHigh => 3
  | .fault => 4
  | .aborted => 5

def HeadState.code : HeadState → Nat
  | .ready => 0
  | .printing => 1
  | .recovering => 2
  | .fault => 3
  | .off => 4

def VerdictKind.code : VerdictKind → Nat
  | .stamp => 0
  | .meter => 1
  | .noTag => 2
  | .ambiguous => 3
  | .reject => 4

def CancelOutcome.code : CancelOutcome → Nat
  | .notRequired => 0
  | .scheduled => 1
  | .printed => 2
  | .missed => 3
  | .faulted => 4
  | .headDown => 5

def MissedReason.code : MissedReason → Nat
  | .queueFull => 0
  | .tooClose => 1
  | .late => 2

def Disposition.code : Disposition → Nat
  | .delivered => 0
  | .lostNoTray => 1
  | .lostFault => 2

def PocketState.code : PocketState → Nat
  | .open => 0
  | .full => 1
  | .draining => 2
  | .closed => 3
  | .noTray => 4
  | .out => 5

/-- The code of a tray or destination class; NONE is 5 (R169). -/
def classCode : Option DestClass → Nat
  | some .facedLead => 0
  | some .facedTrail => 1
  | some .meterLead => 2
  | some .meterTrail => 3
  | some .uncancelled => 4
  | none => 5

def CloseReason.code : CloseReason → Nat
  | .sweepRequest => 0
  | .sweepButton => 1
  | .full => 2
  | .pulled => 3

def StoreReason.code : StoreReason → Nat
  | .noResponse => 1
  | .badChecksum => 2
  | .badFormat => 3
  | .inconsistent => 4
  | .mismatch => 5

def LinkRate.code : LinkRate → Nat
  | .r115200 => 0
  | .r460800 => 1
  | .r921600 => 2

def linkModeCode : LinkMode → Nat
  | .full => 0
  | .half => 1

def sourceCode : ProfSource → Nat
  | .builtin => 0
  | .store => 1

def headCode : Head → Nat
  | .upper => 0
  | .lower => 1

def chanCode : Chan → Nat
  | .au => 0
  | .al => 1
  | .bu => 2
  | .bl => 3

/-- The hold set's byte: OPERATOR, LIST_HIGH, CATCH_FULL and HEAD_DOWN as bits 0 to 3 (R169). -/
def HoldSet.byte (h : HoldSet) : List Byte :=
  u8 (boolCode h.operator + 2 * boolCode h.listHigh + 4 * boolCode h.catchFull + 8 * boolCode h.headDown)

/-- A set of channels, channel code c as bit c (R169). -/
def chanSetByte (t : PerChan Bool) : List Byte :=
  u8 (boolCode t.au + 2 * boolCode t.al + 4 * boolCode t.bu + 8 * boolCode t.bl)

def eventBytes (e : EventSet) : List Byte := be16 e.toNat

/-- The four channels' fields, by channel code. -/
def perChan (f : Chan → List Byte) : List Byte := allChans.flatMap f

/-! ### Reply fields (R175) -/

/-- IDENTIFY (R200). -/
def identifyFields (s : State) : List Byte :=
  let r := s.prl.result
  be16 Config.vendorCode ++ be16 Config.partCode ++ u8 Config.revisionCode ++ u8 (sourceCode s.prl.source)
    ++ u8 (match r with
      | .inProgress => 0
      | .ok => 1
      | .clamped => 2
      | .defaulted _ _ => 3)
    ++ (match r with
      | .defaulted reason check => u8 reason.code ++ u8 check
      | _ => u8 0 ++ u8 0)
    ++ u8 1 ++ u8 (linkModeCode s.lki.mode) ++ u8 s.lki.rate.code

/-- A reserved place for a deferred reply stands in the reply queue (R176). -/
def replyDeferred (s : State) : Bool :=
  s.lki.replies.any fun p => match p with
    | .reserved _ _ => true
    | .composed _ => false

/-- The reservations in the tray log: one for each pocket in DRAINING (R132). -/
def reservations (s : State) : Nat := (allPockets.filter fun k => s.pkm.pockets[k].state == .draining).length

/-- One head's item of GET_STATUS. -/
def headItem (h : HeadUnit) : List Byte := u8 h.state.code ++ u8 h.queue.length ++ bit h.offPending

/-- GET_STATUS (R187, R175). -/
def statusFields (s : State) : List Byte :=
  let jam := s.lnc.reason.bind fun r => r.cause.jam?
  u8 s.lnc.line.code
    ++ optCode (s.lnc.reason.map fun r => r.cause.code)
    ++ optCode (jam.map fun j => j.kind.code)
    ++ optCode (jam.map fun j => eyeCode j.eye)
    ++ optCode (s.lnc.reason.map fun r => r.stateLeft.code)
    ++ optField 2 (fun i : LetterId => be16 i.toNat) (jam.bind fun j => j.letter)
    ++ s.lnc.hold.byte ++ chanSetByte s.lnc.blindAtStart
    ++ u8 s.trk.letters.length ++ be32 s.trk.speed ++ bit (!s.trk.moving)
    ++ perChan (fun c => u8 (s.lch.chans.get c).state.code)
    ++ headItem s.cnu.heads.upper ++ headItem s.cnu.heads.lower
    ++ eventBytes s.lki.events ++ eventBytes s.prl.profile.eventMask ++ u8 s.prl.profile.reportMode.code
    ++ u8 s.lki.reports.length ++ be16 s.lki.dropped ++ bit (replyDeferred s)
    ++ be16 s.lki.badFrames ++ be16 s.lki.timeouts ++ be16 s.lki.busy
    ++ u8 s.pkm.log.length ++ u8 (reservations s)

/-- An office text as 25 bytes: a count byte and 24 character bytes, unused bytes 0 (R175). -/
def officeBytes (cs : List Byte) : List Byte := (FieldValue.text cs).imageBytes

/-- The office text an index 0..7 names. -/
def Profile.office (p : Profile) (i : Nat) : List Byte := p.officeText.toList.getD i []

/-- SET_POSTMARK and GET_POSTMARK (R96, R175). -/
def postmarkFields (s : State) : List Byte :=
  optField 4 dateBytes s.cnu.date ++ be16 s.cnu.timeMark ++ u8 s.cnu.office
    ++ officeBytes (s.prl.profile.office s.cnu.office) ++ be16 s.prl.profile.machineNo
    ++ optField 8 (fun w : StartNumber => be32 w.num ++ dateBytes w.date) s.cnu.waiting
    ++ optField 8 (fun f : LastFire => dateBytes f.date ++ be32 f.seq) s.cnu.lastFire

/-- HEAD_RESET, HEAD_DISABLE and HEAD_ENABLE (R175). -/
def headFields (h : Head) (s : State) : List Byte :=
  let u := s.cnu.heads.get h
  u8 (headCode h) ++ u8 u.state.code ++ bit u.offPending ++ u8 u.queue.length

/-- CALIBRATE: one channel's item (R53, R175). -/
def calItem (c : CalChannel) : List Byte :=
  bit c.named ++ optCode (c.result.map CalResult.code)
    ++ u8 (if c.named then c.newGain else 0) ++ u8 (if c.named then c.oldGain else 0)
    ++ (match c.meanL, c.mismatch with
      | some m, some n => 1 :: (be16 m ++ u8 n)
      | _, _ => [0, 0, 0, 0])

/-- CALIBRATE (R175). -/
def calFields (c : Calibration) : List Byte := perChan fun ch => calItem (c.chans.get ch)

/-- ARM_CAPTURE (R175). -/
def armFields (s : State) : List Byte :=
  u8 s.lch.capture.state.code
    ++ (match s.lch.capture.sel with
      | some (c, t) => u8 (chanCode c) ++ u8 t.code
      | none => [0, 0])

/-- One capture entry, 9 bytes (R175). -/
def entryBytes (e : CaptureEntry) : List Byte :=
  be32 e.pos.toNat ++ be16 e.rawE.toNat ++ be16 e.rawL.toNat
    ++ u8 (e.cls.code + 4 * e.run.code + 16 * boolCode e.inLetter)

/-- The entries a READ_CAPTURE carries: from `first` on, up to `count`, the last held or 26 (R49). -/
def captureSlice (first count : Nat) (s : State) : List CaptureEntry :=
  (s.lch.capture.entries.drop first).take (min count Config.captureReplyEntries)

/-- READ_CAPTURE (R49, R175). -/
def readCaptureFields (first count : Nat) (s : State) : List Byte :=
  let es := captureSlice first count s
  u8 first ++ u8 count
    ++ (match s.lch.capture.sel with
      | some (c, t) => u8 (chanCode c) ++ u8 t.code
      | none => [0, 0])
    ++ optField 2 (fun i : LetterId => be16 i.toNat) s.lch.capture.letter
    ++ u8 s.lch.capture.entries.length ++ u8 es.length ++ es.flatMap entryBytes

/-- SET_COUNTER_SOURCE (R43, R175). For a channel not named the bytes of source and counter hold that channel's own: R43
has the reply carry those of the named channels, and R175 gives no 0 for the others (DESIGN CHOICE, log entry 38). -/
def sourceFields (named : List Chan) (s : State) : List Byte :=
  perChan fun c => bit (decide (c ∈ named)) ++ u8 (s.lch.chans.get c).source.code ++ be16 (s.lch.chans.get c).counter

/-- The quiet count in SEARCH and CHECK, the noisy run count in LOCKED, else 0 (R44, R175). -/
def Channel.shownCount (c : Channel) : Nat :=
  match c.state with
  | .search | .check => c.quiet
  | .locked => c.noisy
  | _ => 0

/-- B_E and B_L (R35). -/
def Channel.baseE (c : Channel) : Nat := c.baccE / 16

def Channel.baseL (c : Channel) : Nat := c.baccL / 16

/-- READ_CHANNELS (R44, R175). -/
def channelsFields (s : State) : List Byte :=
  perChan (fun i =>
    let c := s.lch.chans.get i
    u8 c.state.code ++ optCode (c.state.cause?.map FaultCause.code) ++ be16 c.baseE ++ be16 c.baseL
      ++ u8 (s.prl.profile.gain.get i) ++ u8 c.shownCount ++ be16 c.lockLoss ++ u8 c.source.code ++ be16 c.counter)
    ++ u8 s.lch.capture.state.code
    ++ optCode (s.lch.capture.sel.map fun x => chanCode x.1)
    ++ optCode (s.lch.capture.sel.map fun x => x.2.code)
    ++ optField 2 (fun i : LetterId => be16 i.toNat) s.lch.capture.letter
    ++ u8 s.lch.capture.entries.length

/-- CHANNEL_RESET (R175). -/
def chanStateFields (s : State) : List Byte := perChan fun c => u8 (s.lch.chans.get c).state.code

/-- SWEEP (R128, R175). -/
def sweepFields (k : PocketNo) (s : State) : List Byte :=
  u8 k.val ++ u8 (s.pkm.pockets[k]).state.code ++ u8 (s.pkm.pockets[k]).pending

/-- POCKET_IN (R138, R175). -/
def pocketInFields (k : PocketNo) (s : State) : List Byte :=
  u8 k.val ++ u8 (s.pkm.pockets[k]).state.code ++ be16 (s.pkm.pockets[k]).delivered ++ u8 (s.pkm.pockets[k]).pending

/-- POCKET_OUT (R137, R175). -/
def pocketOutFields (k : PocketNo) (s : State) : List Byte := pocketInFields k s ++ bit s.inputs.tray[k]

/-- READ_POCKETS (R143, R175). -/
def pocketsFields (s : State) : List Byte :=
  allPockets.flatMap (fun k =>
    let p := s.pkm.pockets[k]
    u8 p.state.code ++ be16 p.delivered ++ u8 p.pending ++ be16 p.trayNo ++ u8 (classCode p.trayClass)
      ++ be16 s.prl.profile.limits[k] ++ bit s.inputs.tray[k] ++ bit (p.state == .draining))
    ++ u8 s.pkm.log.length ++ u8 (reservations s)

/-- A tray record in a TAKE_TRAY reply (R131, R175). -/
def trayBytes (t : TrayRecord) : List Byte :=
  u8 t.pocket.val ++ be16 t.trayNo ++ u8 (classCode t.trayClass) ++ be16 t.count
    ++ (match t.firstId, t.lastId with
      | some a, some b => 1 :: (be16 a.toNat ++ be16 b.toNat)
      | _, _ => 0 :: List.replicate 4 0)
    ++ (match t.firstSeq, t.lastSeq, t.firstDate with
      | some a, some b, some d => 1 :: (be32 a ++ be32 b ++ dateBytes d)
      | _, _, _ => 0 :: List.replicate 12 0)
    ++ u8 t.reason.code

/-- READ_TALLIES: the 34 tallies in the order of R141 (R175). -/
def tallyFields (s : State) : List Byte := s.pkm.tallies.toList.flatMap be32

/-! ### Letter reports (R179) -/

/-- A letter's channel summary (R179). -/
def ChanResult.summary (r : ChanResult) : ChanSummary :=
  ⟨r.runs.length, r.blind, r.overflow, r.coated, r.bright⟩

/-- The byte of a channel summary: channel result present is bit 7 (R179). -/
def ChanSummary.byte (c : ChanSummary) : List Byte :=
  u8 (c.runCount + 8 * boolCode c.blind + 16 * boolCode c.overflow + 32 * boolCode c.coated
    + 64 * boolCode c.bright + 128)

/-- The reason set's byte: SHORT to COATED as bits 0..7 (R179). -/
def Reasons.byte (r : Reasons) : List Byte :=
  u8 (boolCode r.short + 2 * boolCode r.long + 4 * boolCode r.close + 8 * boolCode r.closePair
    + 16 * boolCode r.blind + 32 * boolCode r.blindPartial + 64 * boolCode r.misplaced + 128 * boolCode r.coated)

/-- A signed or unsigned number in `n` bytes, two's complement, high byte first. -/
def intBytes1 (i : Int) : List Byte := [BitVec.ofInt 8 i]

def intBytes2 (i : Int) : List Byte := be16 (BitVec.ofInt 16 i).toNat

def intBytes4 (i : Int) : List Byte := be32 (BitVec.ofInt 32 i).toNat

/-- The optional groups of a report, 1 to 10 in order, each with its bytes when present (R179). -/
def LetterReport.groups (r : LetterReport) : List (Option (List Byte)) :=
  [r.dest.map fun d => u8 d.pocket.val ++ u8 (classCode d.cls),
   r.length.map intBytes2,
   r.gap.map intBytes4,
   r.resync.map intBytes1,
   r.verdict.map fun v => u8 v.kind.code ++ v.reasons.byte,
   (r.verdict.bind fun v => v.orientation).map fun o => u8 o.idx,
   (r.verdict.bind fun v => v.chosen).map fun c => be16 c.start ++ be16 c.length ++ be16 c.peak,
   r.cancel.map fun c => u8 c.outcome.code ++ optCode (c.missed.map MissedReason.code),
   (r.cancel.bind fun c => c.print).map fun p =>
     u8 (headCode p.head) ++ be16 p.ps ++ be16 p.k ++ dateBytes p.impression.date ++ be16 p.impression.timeMark
       ++ u8 p.impression.office,
   (r.cancel.bind fun c => c.seq).map be32]

/-- The presence bits: bit g set when optional group g is present (R179). -/
def presenceBits : Nat → List (Option (List Byte)) → Nat
  | _, [] => 0
  | g, x :: xs => (if x.isSome then 2 ^ g else 0) + presenceBits (g + 1) xs

/-- The bytes of a letter report: the fixed part, then the groups present, in order (R179). -/
def LetterReport.bytes (r : LetterReport) : List Byte :=
  be16 r.id.toNat ++ u8 r.disposition.code ++ be16 (presenceBits 1 r.groups)
    ++ u8 (boolCode r.flags.close + 2 * boolCode r.flags.short + 4 * boolCode r.flags.long
      + 8 * boolCode r.flags.resynced + 16 * boolCode r.noTray)
    ++ be32 r.lePos.toNat
    ++ (match r.summaries with
      | some t => perChan fun c => (t.get c).byte
      | none => [0, 0, 0, 0])
    ++ r.groups.flatMap fun g => g.getD []

/-! ### Replies (R174, R176) -/

/-- What an owner answers: a reply with its result and fields, a refusal with its detail byte, or a deferral. -/
inductive Answer where
  | ok (clamped : Bool) (fields : List Byte)
  | error (code : ErrorCode) (detail : Nat)
  | deferred
deriving DecidableEq, Repr

/-- The frame of an answer to a request of the kind and tag (R174). -/
def answerFrame (kind tag : Byte) : Answer → Frame
  | .ok clamped fields => ⟨kind + 0x80, tag, bit clamped ++ fields⟩
  | .error code detail => ⟨0xFF, tag, [kind, code.byte] ++ u8 detail⟩
  | .deferred => ⟨kind, tag, []⟩

/-- A place is added at the end of the reply queue: composed, or reserved for a deferred reply (R176, R177). -/
def pushAnswer (kind tag : Byte) (a : Answer) (s : State) : State :=
  let place : ReplyPlace := match a with
    | .deferred => .reserved kind tag
    | a => .composed (answerFrame kind tag a)
  { s with lki := { s.lki with replies := s.lki.replies ++ [place] } }

/-- The first reserved place filled with the answer (R176). -/
def fillList (a : Answer) : List ReplyPlace → List ReplyPlace
  | [] => []
  | .reserved kind tag :: ps => .composed (answerFrame kind tag a) :: ps
  | .composed f :: ps => .composed f :: fillList a ps

/-- The deferred reply is composed in its reserved place (R176). -/
def fillDeferred (a : Answer) (s : State) : State :=
  { s with lki := { s.lki with replies := fillList a s.lki.replies } }

end Sys2Proof.Machine
end

