-- ==== Sys2Proof/Machine/Gates.lean ====
section
/-! DEFINITION. Gate ownership and drive: taking a gate, releasing it to the oldest waiting record, and what a newly
known length or destination does to a gate already owned (R23, R24, R25). -/

namespace Sys2Proof.Machine

/-- The required setting of a letter at a gate, true for divert or turnover (R25). -/
def requiredSetting (l : Letter) (g : GateId) : Bool :=
  match g, l.route with
  | .g0, some .cull => true
  | .g0, _ => false
  | .g1, some (.main turnover _) => turnover
  | .g1, _ => false
  | .bg k, _ =>
    match l.dest with
    | some d => d.pocket.val == k.val + 1
    | none => false

/-- The release point of gate X for a letter with a length: le_pos + X + length (R23). -/
def releasePointOf (p : Profile) (l : Letter) (g : GateId) : Option Pos :=
  l.length.map fun len => moveBy (beyond l.lePos (p.gateOffset g)) len

/-- The letter takes ownership of the gate, which is driven to its required setting (R23). -/
def takeGate (l : Letter) (g : GateId) (s : State) : State :=
  let setting := requiredSetting l g
  let s := setGate g ⟨some ⟨l.id, setting, releasePointOf s.prl.profile l g⟩, setting⟩ s
  updateLetter l.id (fun x => { x with owned := x.owned ++ [g] }) s

/-- The oldest record that has reached the gate's setup point and has not yet owned the gate (R24). -/
def nextOwner (g : GateId) (s : State) : Option Letter :=
  s.trk.letters.find? fun l => decide (g ∈ l.setupReached) && !decide (g ∈ l.owned)

/-- The gate is released: the next owner takes it at once, or it is driven to rest. A record that takes a gate whose
release point has already been reached releases it again at once (R24). `fuel` bounds the records that can follow
one another. -/
def releaseGateFuel : Nat → GateId → State → State
  | 0, g, s => setGate g .atRest s
  | fuel + 1, g, s =>
    match nextOwner g s with
    | none => setGate g .atRest s
    | some l =>
      let s' := takeGate l g s
      if due s'.trk.belt (releasePointOf s'.prl.profile l g) then releaseGateFuel fuel g s' else s'

/-- The gate is released (R24); each record takes a gate once, so the list's length bounds the hand-overs. -/
def releaseGate (g : GateId) (s : State) : State := releaseGateFuel (s.trk.letters.length + 1) g s

/-- A gate whose owner's release point is already reached is released at once (R2, R24). -/
def releaseIfDue (g : GateId) (s : State) : State :=
  match (gateOf g s).owner with
  | some o => if due s.trk.belt o.release then releaseGate g s else s
  | none => s

/-- The letter reaches the gate's setup point: it is marked, and takes the gate if it has no owner; otherwise it
waits (R23). -/
def reachSetup (l : Letter) (g : GateId) (s : State) : State :=
  let s := updateLetter l.id (fun x => { x with setupReached := x.setupReached ++ [g] }) s
  match (gateOf g s).owner with
  | some _ => s
  | none => releaseIfDue g (takeGate l g s)

/-- The gates a letter owns. -/
def gatesOwnedBy (id : LetterId) (s : State) : List GateId :=
  allGates.filter fun g => match (gateOf g s).owner with
    | some o => o.id == id
    | none => false

/-- The owner of a gate is changed by `f`. -/
def updateOwner (f : GateOwner → GateOwner) (g : GateId) (s : State) : State :=
  let x := gateOf g s
  setGate g { x with owner := x.owner.map f } s

/-- A letter whose length becomes known while it owns a gate has the release point set then, and releases the gate
at once where the belt has already reached that point (R23, R2). -/
def setReleasePoints (l : Letter) (s : State) : State :=
  (gatesOwnedBy l.id s).foldl
    (fun s g => releaseIfDue g (updateOwner (fun o => { o with release := releasePointOf s.prl.profile l g }) g s)) s

/-- The release points still set up of the gates a letter owns move with its correction at E3 (R20). R20 has every point
still to be taken ahead of the belt then; where a letter is longer than the way from G1 (or G0) to E3, a negative deviation
can move that gate's release point to the belt or behind it, and that it stays set up, as reached, until RELEASE_POINT
takes it, is the model's choice (DESIGN CHOICE, log entry 35). -/
def moveReleasePoints (id : LetterId) (d : Int) (s : State) : State :=
  (gatesOwnedBy id s).foldl
    (fun s g => updateOwner (fun o => { o with release := o.release.map fun p => moveBy p d }) g s) s

/-- At the removal of a record whose length is absent, a gate it owns has no release point to wait for and is
released (R24). -/
def releaseUnmeasured (id : LetterId) (s : State) : State :=
  (gatesOwnedBy id s).foldl
    (fun s g => match (gateOf g s).owner with
      | some o => if o.release.isNone then releaseGate g s else s
      | none => s) s

/-- A written destination drives BG1 to its setting at once where the letter already owns it (R25). -/
def driveOwnedBank (l : Letter) (s : State) : State :=
  match (gateOf (.bg 0) s).owner with
  | some o =>
    if o.id == l.id then
      let setting := requiredSetting l (.bg 0)
      setGate (.bg 0) ⟨some { o with setting := setting }, setting⟩ s
    else s
  | none => s

/-- Every gate loses its owner and is driven to rest (R28, R29). -/
def restGates (s : State) : State := { s with trk := { s.trk with gates := Vector.replicate 10 .atRest } }

end Sys2Proof.Machine
end

