-- ==== Sys2Proof/Machine/Pockets.lean ====
section
/-! DEFINITION. The pocket manager: assignment, delivery and loss, closing trays, sweeps, pulls with their
re-routing, insertions, service changes, and the class map and limits (chapter 6). -/

namespace Sys2Proof.Machine

/-- A tray-log slot is free (R132). -/
def slotFree (s : State) : Bool := s.pkm.log.length + reservations s < Config.trayLogCapacity

/-- The tray number counts up by one, from 65535 to 1 (R118). -/
def nextTrayNo (n : Nat) : Nat := if n = 65535 then 1 else n + 1

/-- The tray record of a pocket as it stands (R131). -/
def makeTrayRecord (k : PocketNo) (p : Pocket) (reason : CloseReason) : TrayRecord where
  pocket := k
  trayNo := p.trayNo
  trayClass := p.trayClass
  count := p.delivered
  firstId := p.firstId
  lastId := p.lastId
  firstSeq := p.firstSeq
  lastSeq := p.lastSeq
  firstDate := p.firstDate
  reason := reason

/-- The pocket with its tray's counts and letters cleared (R130, R135). -/
def Pocket.emptied (p : Pocket) : Pocket :=
  { p with delivered := 0, firstId := none, lastId := none, firstSeq := none, lastSeq := none, firstDate := none,
           reason := none }

/-- A tray record joins the end of the tray log (R130, R135). -/
def appendLog (t : TrayRecord) (s : State) : State := { s with pkm := { s.pkm with log := s.pkm.log ++ [t] } }

/-- A DRAINING pocket closes: its record takes its reserved slot (R130). -/
def closeTray (k : PocketNo) (s : State) : State :=
  let p := s.pkm.pockets[k]
  let s := appendLog (makeTrayRecord k p (p.reason.getD .sweepRequest)) s
  let s := bump .traysClosed s
  let s := updatePocket k (fun p => { p.emptied with state := .closed, trayNo := nextTrayNo p.trayNo }) s
  refreshCatchFull (raise .trayClosed s)

/-- A DRAINING pocket whose pending count is 0 closes (R130). -/
def settleDraining (k : PocketNo) (s : State) : State :=
  let p := s.pkm.pockets[k]
  if p.state = .draining ∧ p.pending = 0 then closeTray k s else s

/-- The pocket reserves a slot and goes to DRAINING with the close reason, closing at once when nothing is pending
(R128, R124). -/
def beginDraining (k : PocketNo) (reason : CloseReason) (s : State) : State :=
  settleDraining k (updatePocket k (fun p => { p with state := .draining, reason := some reason }) s)

/-- A bank pocket becomes FULL, and its tray is closed at once when AUTO_CLOSE is on and the log has a free slot
(R124). -/
def becomeFull (k : PocketNo) (s : State) : State :=
  let s := raise .pocketFull (updatePocket k (fun p => { p with state := .full }) s)
  if s.prl.profile.autoClose && slotFree s then beginDraining k .full s else s

/-- A pocket is given a letter: pending increases by one, and a CLOSED pocket 0 or 9 reopens (R121, R122). -/
def assignPocket (k : PocketNo) (s : State) : State :=
  let s := updatePocket k (fun p =>
    let p := if p.state = .closed ∧ !isBank k then { p.emptied with state := .open, trayClass := none } else p
    { p with pending := p.pending + 1 }) s
  refreshCatchFull s

/-- A tray class whose records carry sequence numbers (R123). -/
def facedClass : Option DestClass → Bool
  | some .facedLead | some .facedTrail => true
  | _ => false

/-- The first and last letter fields after a delivery (R123); `p` has already counted it. -/
def notePocketLetter (l : Letter) (p : Pocket) : Pocket :=
  let seq := l.cancel.bind fun c => c.seq
  let date := (l.cancel.bind fun c => c.print).map fun x => x.impression.date
  let p := { p with lastId := some l.id }
  let p := if facedClass p.trayClass then { p with lastSeq := seq } else p
  if p.delivered = 1 then
    let p := { p with firstId := some l.id }
    if facedClass p.trayClass then { p with firstSeq := seq, firstDate := date } else p
  else p

/-- A DELIVERED letter is counted into pocket `k` (R123), which is then tested for a full tray (R124), for its close
(R130) and for the feed hold (R127). -/
def countDelivery (l : Letter) (k : PocketNo) (s : State) : State :=
  let s := updatePocket k (fun p =>
    notePocketLetter l { p with pending := p.pending - 1, delivered := satSucc p.delivered }) s
  let s := bump (.delivered k) s
  let p := s.pkm.pockets[k]
  let s := if p.state = .open ∧ isBank k ∧ p.delivered = s.prl.profile.limits[k] then becomeFull k s else s
  refreshCatchFull (settleDraining k s)

/-- A LOST letter is counted (R125). -/
def countLoss (l : Letter) (t : Tally) (s : State) : State :=
  let s := bump t s
  match l.dest with
  | some d =>
    let s := updatePocket d.pocket (fun p => { p with pending := p.pending - 1 }) s
    refreshCatchFull (settleDraining d.pocket s)
  | none => s

/-- A removed record is counted by the pocket manager (R123, R125). -/
def countRemoval (l : Letter) (d : Disposition) (s : State) : State :=
  match d with
  | .delivered =>
    match l.dest with
    | some x => countDelivery l x.pocket s
    | none => s
  | .lostNoTray => countLoss l .lostNoTray s
  | .lostFault => countLoss l .lostFault s

/-- The pocket a MAIN letter of class `c` is sent to: the first of the class's list that is OPEN, of that tray class
and below its limit, or pocket 9 (R121). -/
def choosePocket (c : DestClass) (s : State) : PocketNo :=
  ((s.prl.profile.classLists.get c).find? fun k =>
    let p := s.pkm.pockets[k]
    p.state == .open && p.trayClass == some c && p.delivered + p.pending < s.prl.profile.limits[k]).getD 9

/-- The destination class of a MAIN letter at its decision point (R121). A STAMP that is not PRINTED is UNCANCELLED. -/
def destClassOf (l : Letter) : DestClass :=
  let trail := match l.route with
    | some (.main _ .trail) => true
    | _ => false
  match l.verdict.map Verdict.kind, l.cancel.map CancelPart.outcome with
  | some .meter, _ => if trail then .meterTrail else .meterLead
  | _, some .printed => if trail then .facedTrail else .facedLead
  | _, _ => .uncancelled

/-- One letter at the pull of its pocket `k` (R136): a letter of a bank pocket that has not reached the commitment
point is re-routed to pocket 9; one that has bears the no-tray mark. -/
def pullLetter (k : PocketNo) (l : Letter) (s : State) : State :=
  match l.dest with
  | none => s
  | some d =>
    if d.pocket ≠ k then s
    else if committed l k then updateLetter l.id (fun x => { x with noTray := true }) s
    else if isBank k then
      let s := updateLetter l.id (fun x => { x with dest := some { d with pocket := 9 } }) s
      let s := updatePocket k (fun p => { p with pending := p.pending - 1 }) s
      assignPocket 9 s
    else s

/-- A tray is pulled from pocket `k` (R135, R136); a pocket in OUT stays OUT (R137). -/
def pull (k : PocketNo) (s : State) : State :=
  let p := s.pkm.pockets[k]
  let t := makeTrayRecord k p .pulled
  let s :=
    if p.state = .draining ∨ slotFree s then bump .traysClosed (appendLog t s) else bump .traysLostLog s
  let s := updatePocket k (fun p => { p.emptied with
    state := if p.state = .out then .out else .noTray, trayNo := nextTrayNo p.trayNo }) s
  let s := raise .pocketNoTray s
  let s := s.trk.letters.foldl (fun s l => pullLetter k l s) s
  refreshCatchFull s

/-- The sensor shows the tray of pocket `k` removed (R134). -/
def takeRemoval (k : PocketNo) (s : State) : State :=
  let p := s.pkm.pockets[k]
  let s' := updatePocket k (fun p => { p with tray := false }) s
  match p.state with
  | .open | .full | .draining => pull k s'
  | .closed => updatePocket k (fun p => { p with state := .noTray }) s'
  | .noTray => s'
  | .out => if p.tray then pull k s' else s'

/-- The sensor shows a tray inserted in pocket `k` (R134). -/
def takeInsertion (k : PocketNo) (s : State) : State :=
  let p := s.pkm.pockets[k]
  let s' := updatePocket k (fun p => { p with tray := true }) s
  match p.state with
  | .open | .full | .draining | .closed => s'
  | .noTray =>
    refreshCatchFull (updatePocket k (fun p => { p.emptied with
      state := .open, trayClass := s.prl.profile.mappedClass k }) s')
  | .out =>
    if p.tray then s'
    else updatePocket k (fun p => { p.emptied with trayClass := s.prl.profile.mappedClass k }) s'

/-- Why a sweep of pocket `k` is refused, if it is (R128). -/
def sweepRefusal (k : PocketNo) (s : State) : Option ErrorCode :=
  let st := s.pkm.pockets[k].state
  let allowed :=
    if isBank k then st == .open || st == .full
    else st == .open && !s.lnc.line.sampling
  if !allowed then some .wrongState else if !slotFree s then some .logFull else none

/-- The new limit of pocket `k` acts on the pocket's state (R140, R146). -/
def applyLimit (k : PocketNo) (s : State) : State :=
  let p := s.pkm.pockets[k]
  let limit := s.prl.profile.limits[k]
  let s :=
    if !isBank k then s
    else if p.state = .open ∧ p.delivered = limit then becomeFull k s
    else if p.state = .full ∧ p.delivered < limit then updatePocket k (fun p => { p with state := .open }) s
    else s
  refreshCatchFull s

/-- Pocket `k` holds a tray: in OPEN, FULL or OUT with the tray present (R139). -/
def holdsTray (p : Pocket) : Bool := p.state == .open || p.state == .full || (p.state == .out && p.tray)

/-- The IN_USE test of R139: some bank pocket holding letters would have a mapped class different from its tray
class under the profile `p`. -/
def classInUse (p : Profile) (s : State) : Bool :=
  bankPockets.any fun k =>
    0 < (s.pkm.pockets[k]).delivered && p.mappedClass k != (s.pkm.pockets[k]).trayClass

/-- Each bank pocket that holds a tray with no letter takes its mapped class as its tray class where `changed` says
so (R139, R146). -/
def adoptClasses (changed : PocketNo → Bool) (s : State) : State :=
  bankPockets.foldl
    (fun s k =>
      let p := s.pkm.pockets[k]
      if changed k && holdsTray p && p.delivered == 0 then
        updatePocket k (fun p => { p with trayClass := s.prl.profile.mappedClass k }) s
      else s) s

/-- A bank pocket's limit below its delivered count, raised to that count in the working profile (R140, R146). -/
def raiseLimit (k : PocketNo) (s : State) : State :=
  if isBank k then
    let p := s.prl.profile
    { s with prl := { s.prl with profile :=
        { p with limits := p.limits.set k (max p.limits[k] (s.pkm.pockets[k]).delivered) } } }
  else s

end Sys2Proof.Machine
end

