-- ==== Sys2Proof/Machine/RunFormer.lean ====
section
/-! DEFINITION. The run formers: scaling a sample, the PHOS and FLUO tests, the run state machine, and the closing
and keeping of runs, as functions of the profile and one channel's letter context (chapter 3). -/

namespace Sys2Proof.Machine

/-! ### Scaling and tests (R59 to R61) -/

/-- A reading less its baseline, 0 below it (R59). -/
def above (x base : Nat) : Nat := x - base

/-- A difference scaled by the gain, rounded half up, at most 4095 (R59). -/
def scale (x gain : Nat) : Nat := min 4095 ((x * gain + 32) / 64)

/-- A scaled pair: e′ and l′ (R59). -/
structure Scaled where
  e : Nat
  l : Nat
deriving DecidableEq, Repr

/-- A sample scaled with the baseline values and the gain (R59). -/
def scaleSample (x : SamplePair) (baseE baseL gain : Nat) : Scaled :=
  ⟨scale (above x.e.toNat baseE) gain, scale (above x.l.toNat baseL) gain⟩

/-- A sample is SAT when its raw E or its raw L is 4095 (R60). -/
def isSat (x : SamplePair) : Bool := x.e.toNat == 4095 || x.l.toNat == 4095

/-- PHOS at threshold T (R61). -/
def phosAt (p : Profile) (t : Nat) (x : Scaled) : Bool := t ≤ x.l && p.rp * x.e ≤ 16 * x.l

/-- FLUO at threshold T (R61). -/
def fluoAt (p : Profile) (t : Nat) (x : Scaled) : Bool := t ≤ x.e && 16 * x.l < p.rf * x.e

/-! ### The run state machine (R62 to R67) -/

/-- An empty letter context (R57). -/
def RunContext.fresh : RunContext := ⟨none, 0, [], false, false, false, false, false⟩

/-- The run state of a context (R57): NO_RUN without an open run, else by the run's class. -/
def RunContext.state (c : RunContext) : RunState :=
  match c.openRun with
  | none => .noRun
  | some r => match r.cls with
    | .phos => .phosRun
    | .fluo => .fluoRun

/-- A run's number of samples (R65). -/
def runSamples (p : Profile) (r : OpenRun) : Nat := (r.last - r.first) / p.pitch + 1

/-- The open run closes (R65): dropped as short or overlong, or kept in the run list while it holds fewer than 4
(R67). The counter source of its fate is given with the context. -/
def closeRun (p : Profile) (c : RunContext) : RunContext × List CounterSource :=
  match c.openRun with
  | none => (c, [])
  | some r =>
    let n := runSamples p r
    let c := { c with openRun := none, miss := 0 }
    if n < p.minRun then (c, [.runsShort])
    else if p.maxRun < n then
      (match r.cls with
        | .phos => { c with coated := true }
        | .fluo => { c with bright := true }, [.runsOverlong])
    else if c.runs.length < Config.runListCapacity then
      ({ c with runs := c.runs ++ [⟨r.cls, r.first, n * p.pitch, r.peak, r.sat⟩] }, [.runsKept])
    else ({ c with overflow := true }, [.runOverflow])

/-- A step's sample in NO_RUN: its class, and the run it may open (R62). -/
def sampleNoRun (p : Profile) (offset : Nat) (sat : Bool) (x : Scaled) (c : RunContext) : RunContext × SampleClass :=
  if sat then (c, .none)
  else if phosAt p p.tpOn x then ({ c with openRun := some ⟨.phos, offset, offset, x.l, 0⟩, miss := 0 }, .phos)
  else if fluoAt p p.tfOn x then ({ c with openRun := some ⟨.fluo, offset, offset, x.e, 0⟩, miss := 0 }, .fluo)
  else (c, .none)

/-- The sample's value towards a run's peak: l′ or e′, or 4095 for a SAT sample (R63). -/
def peakValue (cls : TagClass) (sat : Bool) (x : Scaled) : Nat :=
  if sat then 4095 else match cls with
    | .phos => x.l
    | .fluo => x.e

/-- A sample qualifies in a run (R63). -/
def qualifies (p : Profile) (cls : TagClass) (sat : Bool) (x : Scaled) : Bool :=
  sat || match cls with
    | .phos => phosAt p p.tpOff x
    | .fluo => fluoAt p p.tfOff x

/-- The sample class of a tag class. -/
def TagClass.sample : TagClass → SampleClass
  | .phos => .phos
  | .fluo => .fluo

/-- A miss is counted; when the count exceeds GAP the run closes (R63). The flag says that it closed. -/
def missStep (p : Profile) (c : RunContext) : RunContext × List CounterSource × Bool :=
  match c.openRun with
  | none => (c, [], false)
  | some _ =>
    let c := { c with miss := c.miss + 1 }
    if p.gapLimit < c.miss then
      let (c, src) := closeRun p c
      (c, src, true)
    else (c, [], false)

/-- A step's sample is passed through the run state (R62, R63, R68): the context after it, the class given to the
sample, and the fate of a run it closed. -/
def sampleStep (p : Profile) (offset : Nat) (sat : Bool) (x : Scaled) (c : RunContext) :
    RunContext × SampleClass × List CounterSource :=
  match c.openRun with
  | none =>
    let (c, k) := sampleNoRun p offset sat x c
    (c, k, [])
  | some r =>
    if qualifies p r.cls sat x then
      ({ c with
          openRun := some { r with last := offset, peak := max r.peak (peakValue r.cls sat x), sat := r.sat + boolCode sat }
          miss := 0 }, r.cls.sample, [])
    else
      let (c, src, closed) := missStep p c
      if closed then
        let (c, k) := sampleNoRun p offset sat x c
        (c, k, src)
      else (c, .none, src)

/-- A step without sample: no change in NO_RUN, a miss in a run; one that closes a run is not taken again (R62, R63). -/
def emptyStep (p : Profile) (c : RunContext) : RunContext × List CounterSource :=
  let (c, src, _) := missStep p c
  (c, src)

/-- A context's channel result (R70). -/
def RunContext.result (blind : Bool) (c : RunContext) : ChanResult :=
  ⟨blind, c.runs, c.overflow, c.coated, c.bright⟩

/-- The result of a channel that took no step of the letter (R70, R41). -/
def ChanResult.untouched : ChanResult := ⟨false, [], false, false, false⟩

end Sys2Proof.Machine
end

