-- ==== Sys2Proof/Machine/Reports.lean ====
section
/-! DEFINITION. The letter reports made at removals and their queue (R179, R180), and the removal of one record from
the transport list with its hand-overs to the pocket manager and the link interface (R26, R27, R28). -/

namespace Sys2Proof.Machine

/-- The report mode calls for a report of this removal (R179). -/
def reportCalled (m : ReportMode) (l : Letter) (d : Disposition) : Bool :=
  match m, d with
  | .off, _ => false
  | .all, _ => true
  | .cullOnly, .delivered =>
    match l.dest with
    | some x => x.pocket == 0 || x.pocket == 9
    | none => false
  | .cullOnly, _ => true

/-- The report of a record as it stands: its parts except the tracking part (R179). -/
def reportOf (l : Letter) (d : Disposition) : LetterReport where
  id := l.id
  disposition := d
  flags := l.flags
  noTray := l.noTray
  lePos := l.lePos
  summaries := l.results.map fun t => t.map ChanResult.summary
  dest := l.dest
  length := l.length
  gap := l.gap
  resync := l.resync
  verdict := l.verdict
  cancel := l.cancel

/-- A report joins the report queue, or is dropped and counted when the queue holds 64 (R180). -/
def queueReport (r : LetterReport) (s : State) : State :=
  if s.lki.reports.length < Config.reportCapacity then
    { s with lki := { s.lki with reports := s.lki.reports ++ [r] } }
  else raise .reportsDropped { s with lki := { s.lki with dropped := satSucc s.lki.dropped } }

/-- The link interface takes a removed record (R179). -/
def reportRemoval (l : Letter) (d : Disposition) (s : State) : State :=
  if reportCalled s.prl.profile.reportMode l d then queueReport (reportOf l d) s else s

/-- The record of `l` leaves the transport list (R16); the letter being measured at E0 stops being so when it is
this one (R26). -/
def dropRecord (l : Letter) (s : State) : State :=
  { s with trk := { s.trk with
      letters := s.trk.letters.filter (·.id != l.id)
      measuring := if s.trk.measuring = some l.id then none else s.trk.measuring } }

/-- A context of the letter leaves with its record (R57). -/
def dropScan (l : Letter) (s : State) : State :=
  match s.scan with
  | some x => if x.letter = l.id then { s with scan := none } else s
  | none => s

/-- A record is removed with its disposition, then counted by the pocket manager and reported by the link interface
(R26, R27, R28). A gate it owns without a release point is released (R24). -/
def removeRecord (l : Letter) (d : Disposition) (s : State) : State :=
  let s := releaseUnmeasured l.id (dropScan l (dropRecord l s))
  reportRemoval l d (countRemoval l d (refreshListHigh s))

end Sys2Proof.Machine
end

