-- ==== Sys2Proof/Machine/Cancel.lean ====
section
/-! DEFINITION. The cancel unit: the placing and scheduling of a print, its points of travel, the start, end and
recovery of prints, the sequence numbers, and what makes a head down (chapter 5). -/

namespace Sys2Proof.Machine

/-! ### Placing a print (R98, R99) -/

/-- The print span (ps, k) of a letter of length `len` and class `cls` whose chosen run starts at `start` and is
`width` long (R98). -/
def printSpan (p : Profile) (cls : PostClass) (len start width : Nat) : Nat × Nat :=
  match cls with
  | .lead =>
    let ps := start - p.margin
    (ps, min p.k (len - ps))
  | .trail =>
    let pe := min len (start + width + p.margin)
    let ps := pe - p.k
    (ps, pe - ps)

/-- The fire start of a letter's print: le_pos + C_POS + ps (R99). -/
def fireStartAt (p : Profile) (l : Letter) (x : PrintPart) : Pos := beyond l.lePos (p.cPos + x.ps)

/-- The fire end of a letter's print: fire start + k (R99). -/
def fireEndAt (p : Profile) (l : Letter) (x : PrintPart) : Pos := beyond (fireStartAt p l x) x.k

/-- The print of a letter's cancel part. -/
def Letter.print (l : Letter) : Option PrintPart := l.cancel.bind fun c => c.print

/-- The date of a letter's impression. -/
def Letter.impressionDate (l : Letter) : Option Date := l.print.map fun x => x.impression.date

/-! ### Outcomes -/

/-- The cancel part of a letter that is not STAMP (R97). -/
def CancelPart.notRequired : CancelPart := ⟨.notRequired, none, none, none⟩

/-- The tally a cancel outcome counts under, when it is written (R120). -/
def CancelOutcome.tally : CancelOutcome → Option Tally
  | .printed => some .printed
  | .missed => some .missed
  | .faulted => some .cancelFaulted
  | .headDown => some .headDown
  | .notRequired | .scheduled => none

/-- The outcome and missed reason of a letter are written, and counted (R97, R120). -/
def writeOutcome (id : LetterId) (o : CancelOutcome) (m : Option MissedReason) (s : State) : State :=
  let s := updateLetter id (fun l => { l with cancel := l.cancel.map fun c => { c with outcome := o, missed := m } }) s
  match o.tally with
  | some t => bump t s
  | none => s

/-! ### Scheduling (R101) -/

/-- The end of the head's previous print, if there is one (R101): the last queued entry's fire end, the print in
progress's fire end, or the running recovery's end less H. -/
def previousEnd (h : HeadUnit) (s : State) : Option Pos :=
  match h.queue.getLast? with
  | some id => (findLetter id s).bind fun l => l.print.map fun x => fireEndAt s.prl.profile l x
  | none =>
    match h.state with
    | .printing => h.fireEnd
    | .recovering => h.recoveryEnd.map fun q => q - BitVec.ofNat 32 s.prl.profile.h
    | _ => none

/-- The recovery check: the new fire start lies at or beyond the previous print's end + H (R101). -/
def recoveryCheck (h : HeadUnit) (start : Pos) (s : State) : Bool :=
  match previousEnd h s with
  | some e => reached start (beyond e s.prl.profile.h)
  | none => true

/-- What becomes of a print handed to head `h` at the verdict, in the order of R101. -/
def scheduleOutcome (h : HeadUnit) (start : Pos) (s : State) : CancelOutcome × Option MissedReason :=
  if h.down then (.headDown, none)
  else if Config.headQueueCapacity ≤ h.queue.length then (.missed, some .queueFull)
  else if recoveryCheck h start s then (.scheduled, none)
  else (.missed, some .tooClose)

/-- The impression copied from the settings (R97). The date is present whenever a letter is in flight, since START is
refused without it (R93); the date shown for an absent one is never reached (log entry 16). -/
def impressionNow (s : State) : Impression := ⟨s.cnu.date.getD ⟨2000, 1, 1⟩, s.cnu.timeMark, s.cnu.office⟩

/-- A STAMP letter is handed to the cancel unit at its verdict: placed, and scheduled on the head of its orientation
or given the outcome that prevents it (R87, R97, R101). -/
def schedulePrint (l : Letter) (o : Orientation) (run : ChosenRun) (s : State) : State :=
  let span := printSpan s.prl.profile o.cls (l.length.getD 0).toNat run.start run.length
  let x : PrintPart := ⟨o.head, span.1, span.2, impressionNow s⟩
  let r := scheduleOutcome (s.cnu.heads.get o.head) (fireStartAt s.prl.profile l x) s
  let s := updateLetter l.id (fun l => { l with cancel := some ⟨r.1, r.2, some x, none⟩ }) s
  let s := match r.1.tally with
    | some t => bump t s
    | none => s
  if r.1 = .scheduled then updateHead o.head (fun u => { u with queue := u.queue ++ [l.id] }) s else s

/-! ### Firing (R102 to R105) -/

/-- The number a fire start gives to impression date `d`, and whether it wraps (R104). -/
def nextNumber (d : Date) (c : CancelUnit) : Nat × Bool :=
  match c.waiting with
  | some w => if w.date = d then (w.num, false) else afterLast
  | none => afterLast
where
  /-- The number without a start number waiting for the date. -/
  afterLast : Nat × Bool :=
    match c.lastFire with
    | some f =>
      if f.date = d then if f.seq = Config.seqCeiling then (1, true) else (f.seq + 1, false) else (1, false)
    | none => (1, false)

/-- The start number still waiting after a fire start with date `d`: used, or discarded when its date is earlier
(R95, R104). -/
def waitingAfter (d : Date) (c : CancelUnit) : Option StartNumber :=
  c.waiting.bind fun w => if w.date = d ∨ w.date.before d then none else some w

/-- A print starts on the READY head `h` (R102, R104, R105). -/
def startPrint (h : Head) (l : Letter) (x : PrintPart) (s : State) : State :=
  let d := x.impression.date
  let n := nextNumber d s.cnu
  let record : ImpressionRecord :=
    ⟨d, x.impression.timeMark, s.prl.profile.office x.impression.office, s.prl.profile.machineNo, n.1⟩
  let s := if n.2 then raise .seqWrap s else s
  let s := { s with cnu := { s.cnu with waiting := waitingAfter d s.cnu, lastFire := some ⟨d, n.1⟩ } }
  let s := updateLetter l.id (fun l => { l with cancel := l.cancel.map fun c => { c with seq := some n.1 } }) s
  updateHead h (fun u => { u with
    state := .printing, printing := some l.id, fireEnd := some (fireEndAt s.prl.profile l x),
    hdata := some record }) s

/-- The front entry of a head queue leaves it at its fire start (R102): the print starts on a READY head, and is
missed LATE on a PRINTING or RECOVERING one (R103). A head in FAULT or OFF has an empty queue (R110); an entry found
there, which no run reaches, leaves its outcome as it is (log entry 16). -/
def takeFireStart (h : Head) (l : Letter) (x : PrintPart) (s : State) : State :=
  let s := updateHead h (fun u => { u with queue := u.queue.tail }) s
  match (s.cnu.heads.get h).state with
  | .ready => startPrint h l x s
  | .printing | .recovering => writeOutcome l.id .missed (some .late) s
  | .fault | .off => s

/-- The front entry of a head's queue, with its record and print. -/
def frontPrint (h : Head) (s : State) : Option (Letter × PrintPart) :=
  (s.cnu.heads.get h).queue.head?.bind fun id =>
    (findLetter id s).bind fun l => l.print.map fun x => (l, x)

/-- The belt has reached the fire start of the head queue's front entry (R102). -/
def reachFireStart (h : Head) (s : State) : State :=
  match frontPrint h s with
  | some (l, x) => if reached s.trk.belt (fireStartAt s.prl.profile l x) then takeFireStart h l x s else s
  | none => s

/-- The head's print is over: the letter is absent, and its recovery end point is set up at `point` (R99, R106). -/
def HeadUnit.leavePrint (point : Option Pos) (u : HeadUnit) : HeadUnit :=
  { u with printing := none, fireEnd := none, recoveryEnd := point, recoveringFrom := u.printing }

/-- The head has no recovery end point (R107, R116). -/
def HeadUnit.recovered (u : HeadUnit) : HeadUnit := { u with recoveryEnd := none, recoveringFrom := none }

/-- A print ends at its fire end point (R106). -/
def endPrint (h : Head) (s : State) : State :=
  let u := s.cnu.heads.get h
  let s := match u.printing with
    | some id => writeOutcome id .printed none s
    | none => s
  updateHead h (fun u => { u.leavePrint (u.fireEnd.map fun e => beyond e s.prl.profile.h) with state := .recovering }) s

/-- The belt has reached the head's fire end point (R106). -/
def reachFireEnd (h : Head) (s : State) : State :=
  let u := s.cnu.heads.get h
  if u.state = .printing ∧ due s.trk.belt u.fireEnd then endPrint h s else s

/-! ### Heads that become down (R110) -/

/-- Every entry of the head's queue gets HEAD_DOWN, and the queue is emptied (R110). -/
def emptyQueue (h : Head) (s : State) : State :=
  let q := (s.cnu.heads.get h).queue
  let s := updateHead h (fun u => { u with queue := [] }) s
  q.foldl (fun s id => writeOutcome id .headDown none s) s

/-- A head's fault input becomes active (R109, R110). -/
def faultHead (h : Head) (s : State) : State :=
  let u := s.cnu.heads.get h
  if u.state = .fault then s
  else
    let s :=
      if u.state = .printing then
        let s := match u.printing with
          | some id => writeOutcome id .faulted none s
          | none => s
        updateHead h (HeadUnit.leavePrint (some (beyond s.trk.belt s.prl.profile.h))) s
      else s
    let s := updateHead h (fun u => { u with state := .fault, offPending := false }) s
    refreshHeadDown (raise .headFault (emptyQueue h s))

/-- The state a head takes out of FAULT or OFF: RECOVERING while a recovery end point is present, else READY
(R111, R113). -/
def HeadUnit.backState (u : HeadUnit) : HeadState := if u.recoveryEnd.isSome then .recovering else .ready

/-- The belt has reached the head's recovery end point (R107). -/
def reachRecoveryEnd (h : Head) (s : State) : State :=
  let u := s.cnu.heads.get h
  if due s.trk.belt u.recoveryEnd then
    let s := updateHead h HeadUnit.recovered s
    if u.state = .recovering then
      if u.offPending then
        refreshHeadDown (emptyQueue h (updateHead h (fun u => { u with state := .off, offPending := false }) s))
      else updateHead h (fun u => { u with state := .ready }) s
    else s
  else s

/-! ### Faulted line (R115, R116) -/

/-- What FAULTED entry does to a head: a print is aborted and the queue emptied (R115). -/
def HeadUnit.abort (belt : Pos) (h : Nat) (u : HeadUnit) : HeadUnit :=
  if u.state = .printing then
    { u.leavePrint (some (beyond belt h)) with state := .recovering, queue := [] }
  else { u with queue := [] }

/-- Both heads take FAULTED entry (R115). -/
def abortPrints (s : State) : State :=
  let f := HeadUnit.abort s.trk.belt s.prl.profile.h
  updateHead .upper f (updateHead .lower f s)

/-- What stillness in FAULTED does to a head (R116). -/
def HeadUnit.settle (u : HeadUnit) : HeadUnit :=
  let u := u.recovered
  if u.state = .recovering then
    if u.offPending then { u with state := .off, offPending := false } else { u with state := .ready }
  else u

/-- Both heads settle at stillness in FAULTED (R116). -/
def settleHeads (s : State) : State :=
  refreshHeadDown (updateHead .upper HeadUnit.settle (updateHead .lower HeadUnit.settle s))

/-! ### The correction at E3 (R99) -/

/-- A head's points that belong to the print of letter `id` move by the deviation (R99): the fire end while the head is
printing it, and the recovery end while the head recovers from it. -/
def HeadUnit.movePoints (id : LetterId) (d : Int) (u : HeadUnit) : HeadUnit :=
  { u with
    fireEnd := if u.printing = some id then u.fireEnd.map fun p => moveBy p d else u.fireEnd
    recoveryEnd := if u.recoveringFrom = some id then u.recoveryEnd.map fun p => moveBy p d else u.recoveryEnd }

/-- Every point of a letter's print that is set up moves with its correction at E3 (R99). The fire start of a queued print
is computed from le_pos. R99 adds that at E3 only the fire start can be set up; where WINDOW exceeds C_POS − E3_POS the
others can be too, and they then move by the same rule (DEDUCED, log entry 34). -/
def movePrint (id : LetterId) (d : Int) (s : State) : State :=
  updateHead .upper (HeadUnit.movePoints id d) (updateHead .lower (HeadUnit.movePoints id d) s)

end Sys2Proof.Machine
end

