-- ==== Sys2Proof/Machine/Channels.lean ====
section
/-! DEFINITION. The luminescence channels: covering a letter, the event counters, blind marks, the baseline and lock
machine, the capture buffer, and what the line's state does to the channels (chapter 2). -/

namespace Sys2Proof.Machine

/-! ### Where a position falls (R33) -/

/-- The offset of a position from a letter's leading edge at the scan station (R33). -/
def scanOffset (p : Profile) (l : Letter) (pos : Pos) : Int := posDiff (beyond l.lePos p.sPos) pos

/-- A letter covers a position at the scan station (R33). -/
def covers (p : Profile) (l : Letter) (pos : Pos) : Bool :=
  0 ≤ scanOffset p l pos && match l.length with
    | some len => scanOffset p l pos < len
    | none => true

/-- The letter that covers a position. -/
def coveringLetter (pos : Pos) (s : State) : Option Letter := s.trk.letters.find? fun l => covers s.prl.profile l pos

/-- The letter a position is an in-letter position of, before its LONG mark (R33, R41). -/
def inLetterAt (pos : Pos) (s : State) : Option Letter :=
  (coveringLetter pos s).bind fun l => if l.flags.long then none else some l

/-! ### Event counters (R42) -/

/-- One occurrence of a source on a channel: counted when it is the source chosen (R42). -/
def Channel.count (src : CounterSource) (c : Channel) : Channel :=
  if c.source = src then { c with counter := satSucc c.counter } else c

/-- Occurrences of sources on channel `c`. -/
def countSources (c : Chan) (srcs : List CounterSource) (s : State) : State :=
  srcs.foldl (fun s src => updateChan c (Channel.count src) s) s

/-! ### Letter contexts and blind marks (R41, R57) -/

/-- The context of the letter, begun empty when there is none (R57). -/
def ensureScan (id : LetterId) (s : State) : State :=
  match s.scan with
  | some x => if x.letter = id then s else { s with scan := some ⟨id, .all .fresh, .all false⟩ }
  | none => { s with scan := some ⟨id, .all .fresh, .all false⟩ }

/-- The open letter context is changed by `f`. -/
def updateScan (f : ScanContext → ScanContext) (s : State) : State := { s with scan := s.scan.map f }

/-- The letter in the scan context is marked BLIND for channel `c`. -/
def ScanContext.markBlind (c : Chan) (x : ScanContext) : ScanContext := { x with blind := x.blind.set c true }

/-- The letter at an in-letter position is marked BLIND for channel `c` (R41). -/
def markBlindAt (pos : Pos) (c : Chan) (s : State) : State :=
  match inLetterAt pos s with
  | some l => updateScan (·.markBlind c) (ensureScan l.id s)
  | none => s

/-! ### Baseline and lock (R35 to R39) -/

/-- The accumulator after a sample that updates the baseline (R35). -/
def accStep (acc x : Nat) : Nat := acc - acc / 16 + x

/-- The channel with its baseline updated by a dark sample (R35). -/
def Channel.follow (x : SamplePair) (c : Channel) : Channel :=
  { c with baccE := accStep c.baccE x.e.toNat, baccL := accStep c.baccL x.l.toNat }

/-- |a − b| on natural numbers. -/
def distance (a b : Nat) : Nat := (a - b) + (b - a)

/-- A dark sample is quiet against the baseline as it stands before it (R37). -/
def Channel.isQuiet (noiseMax : Nat) (x : SamplePair) (c : Channel) : Bool :=
  distance x.e.toNat c.baseE ≤ noiseMax && distance x.l.toNat c.baseL ≤ noiseMax

/-- What a dark sample does to a channel's baseline, counts and state (R37, R38). A count that the new state does
not keep is set to 0: the quiet count on entry to LOCKED, the noisy run count when the lock is lost (DESIGN CHOICE, log
entry 39). -/
def Channel.darkStep (noiseMax : Nat) (x : SamplePair) (c : Channel) : Channel :=
  let quiet := c.isQuiet noiseMax x
  match c.state with
  | .search =>
    let c := c.follow x
    if quiet then
      if c.quiet + 1 < Config.quietToLock then { c with quiet := c.quiet + 1 }
      else { c with state := .check, quiet := 0 }
    else { c with quiet := 0 }
  | .check =>
    let c := c.follow x
    if quiet then
      if c.quiet + 1 < Config.quietToLock then { c with quiet := c.quiet + 1 }
      else { c with state := .locked, quiet := 0, noisy := 0 }
    else { c with state := .search, quiet := 0 }
  | .locked =>
    if quiet then { c.follow x with noisy := 0 }
    else if c.noisy + 1 < Config.noisyToUnlock then { c with noisy := c.noisy + 1 }
    else { c with state := .search, quiet := 0, noisy := 0, lockLoss := satSucc c.lockLoss }
  | .idle | .fault _ => c

/-- The states in which a dark sample is taken by the lock machine (R37). -/
def ChanState.locking : ChanState → Bool
  | .search | .check | .locked => true
  | .idle | .fault _ => false

/-- A channel is in FAULT. -/
def ChanState.isFault : ChanState → Bool
  | .fault _ => true
  | _ => false

/-- A face's channel makes the face awaited: it is neither IDLE nor in FAULT (R31). -/
def ChanState.awaited : ChanState → Bool
  | .idle | .fault _ => false
  | _ => true

/-- Channel `c` takes a dark sample: counters, baseline, lock, and the events of a lost lock (R37, R38, R42). -/
def darkSample (c : Chan) (x : SamplePair) (s : State) : State :=
  let before := s.lch.chans.get c
  let after := before.darkStep s.prl.profile.noiseMax x
  let noisy := before.state.locking && !before.isQuiet s.prl.profile.noiseMax x
  let unlocked := before.state == .locked && after.state != .locked
  let s := updateChan c (fun _ => after) s
  let s := if noisy then countSources c [.noisyDark] s else s
  if unlocked then raise .channelUnlock (countSources c [.unlocks] s) else s

/-- A channel's accumulators at the nominal value (R36). -/
def Channel.nominal (p : Profile) (c : Channel) : Channel :=
  { c with baccE := 16 * p.nominalBase, baccL := 16 * p.nominalBase }

/-- A channel enters SEARCH with nominal accumulators and the quiet count 0 (R36, R39, R40). -/
def Channel.toSearch (p : Profile) (c : Channel) : Channel :=
  { c.nominal p with state := .search, quiet := 0, noisy := 0 }

/-- A channel that is not in FAULT goes to IDLE with its counts 0 (R39). -/
def Channel.toIdle (c : Channel) : Channel :=
  if c.state.isFault then c else { c with state := .idle, quiet := 0, noisy := 0 }

/-- Every channel goes to IDLE unless it is in FAULT (R39). -/
def idleChannels (s : State) : State := { s with lch := { s.lch with chans := s.lch.chans.map Channel.toIdle } }

/-- The channels take the entry to STARTING (R39); the line is sampling from here on, with no flash made yet (R30). -/
def channelsStart (s : State) : State :=
  { s with lch := { s.lch with
      chans := s.lch.chans.map (Channel.toSearch s.prl.profile)
      outstanding := .all false, flashDue := none, flashPos := none } }

/-- All four channels are LOCKED (R151). -/
def allLocked (s : State) : Bool := allChans.all fun c => (s.lch.chans.get c).state == .locked

/-! ### Capture (R45 to R48) -/

/-- An entry is appended; the 128th ends the recording (R46, R47). -/
def Capture.append (e : CaptureEntry) (b : Capture) : Capture :=
  let es := b.entries ++ [e]
  { b with entries := es, state := if Config.captureCapacity ≤ es.length then .full else .filling }

/-- What a sample of channel `c` does to the capture buffer (R46, R47); `letter` is the letter of an in-letter
sample. -/
def Capture.take (c : Chan) (letter : Option LetterId) (e : CaptureEntry) (b : Capture) : Capture :=
  match b.sel with
  | none => b
  | some (ch, trigger) =>
    if ch ≠ c then b
    else
      match b.state, trigger with
      | .armed, .immediate | .filling, .immediate => b.append e
      | .armed, .nextLetter =>
        match letter with
        | some id => if b.passOver = some id then b else ({ b with letter := some id }).append e
        | none => b
      | .filling, .nextLetter => if letter.isSome ∧ letter = b.letter then b.append e else b
      | .empty, _ | .full, _ => b

/-- A sample of channel `c` is offered to the capture buffer. -/
def captureSample (c : Chan) (letter : Option LetterId) (e : CaptureEntry) (s : State) : State :=
  { s with lch := { s.lch with capture := s.lch.capture.take c letter e } }

/-- The letter's scan has ended: a later letter with its id is not passed over (R10, R47). -/
def Capture.forget (id : LetterId) (b : Capture) : Capture :=
  { b with passOver := if b.passOver = some id then none else b.passOver }

/-- A capture of this letter ends at its scan completion or LONG mark (R47). -/
def Capture.finish (id : LetterId) (b : Capture) : Capture :=
  match b.state, b.sel with
  | .filling, some (_, .nextLetter) => if b.letter = some id then { b with state := .full } else b
  | _, _ => b

/-- An ARMED or FILLING capture is emptied (R48). -/
def Capture.leave (b : Capture) : Capture :=
  match b.state with
  | .armed | .filling => .cleared
  | .empty | .full => b

/-- The channels stop sampling: no return is awaited, no flash is due, and an ARMED or FILLING capture is emptied
(R39, R48, R55). The contexts and a held verdict go with the letters (R73, R91). -/
def stopSampling (s : State) : State :=
  { s with
    scan := none
    held := none
    lch := { s.lch with
      outstanding := .all false, flashDue := none, flashPos := none, capture := s.lch.capture.leave } }

/-! ### Face faults (R32) -/

/-- A face faults: both its channels go to FAULT with the cause, the face is no longer outstanding, and CHANNEL_FAULT
becomes pending (R32). -/
def faultFace (f : Face) (cause : FaultCause) (s : State) : State :=
  let s := updateChan (upperChan f) (fun c => { c with state := .fault cause, quiet := 0, noisy := 0 }) s
  let s := updateChan (lowerChan f) (fun c => { c with state := .fault cause, quiet := 0, noisy := 0 }) s
  raise .channelFault { s with lch := { s.lch with outstanding := s.lch.outstanding.set f false } }

/-- A face fails to return for the latest travel flash: the letter at its position is BLIND on both channels (R41),
and the face faults. -/
def failFace (f : Face) (cause : FaultCause) (s : State) : State :=
  match s.lch.flashPos with
  | some pos => faultFace f cause (markBlindAt pos (lowerChan f) (markBlindAt pos (upperChan f) s))
  | none => faultFace f cause s

end Sys2Proof.Machine
end

