-- ==== Sys2Proof/Machine/Facing.lean ====
section
/-! DEFINITION. The facing unit: the ordered tests of the verdict, the pair test with its hold, the route, and the
hand-offs to the cancel unit and the pocket manager; and the scan completion that leads to them (chapter 4, R64, R69,
R70). -/

namespace Sys2Proof.Machine

/-! ### Support (R79 to R82) -/

/-- A run lies in the leading half of a letter of length `len` (R79). -/
def Run.leading (len : Int) (r : Run) : Bool := 2 * ((r.start : Int) + (r.length / 2 : Nat)) < len

/-- The runs of class `cls` that support orientation `o` (R79). -/
def supporting (cls : TagClass) (results : PerChan ChanResult) (len : Int) (o : Orientation) : List Run :=
  let r := results.get o.chan
  if r.blind then [] else r.runs.filter fun x => x.cls == cls && x.leading len == o.leading

/-- The better of two supporting runs: the larger peak, and the earlier start among equal peaks (R80). -/
def betterRun (a b : Run) : Run :=
  if a.peak < b.peak ∨ (a.peak = b.peak ∧ b.start < a.start) then b else a

/-- The best of an orientation's supporting runs; none when nothing supports it (R80). -/
def bestRun : List Run → Option Run
  | [] => none
  | r :: rs =>
    match bestRun rs with
    | none => some r
    | some x => some (betterRun r x)

/-- The supported orientations with their best runs (R80). -/
def supported (cls : TagClass) (results : PerChan ChanResult) (len : Int) : List (Orientation × Run) :=
  allOrientations.filterMap fun o => (bestRun (supporting cls results len o)).map fun r => (o, r)

/-- What the stamp or the meter test finds. -/
inductive Support where
  | nothing
  | ambiguous
  | found (o : Orientation) (r : Run)
deriving DecidableEq, Repr

/-- The largest peak of a list of supported orientations, 0 for none. -/
def topPeak (xs : List (Orientation × Run)) : Nat := xs.foldl (fun m x => max m x.2.peak) 0

/-- The dominance test over the supported orientations (R81). -/
def dominant (dominance : Nat) (xs : List (Orientation × Run)) : Support :=
  match xs with
  | [] => .nothing
  | [x] => .found x.1 x.2
  | xs =>
    match xs.filter fun x => x.2.peak == topPeak xs with
    | [x] =>
      if dominance * topPeak (xs.filter fun y => y.1 != x.1) ≤ 8 * x.2.peak then .found x.1 x.2 else .ambiguous
    | _ => .ambiguous

/-- The stamp test (PHOS) or the meter test (FLUO) (R80 to R82). -/
def supportTest (cls : TagClass) (p : Profile) (results : PerChan ChanResult) (len : Int) : Support :=
  dominant p.dominance (supported cls results len)

/-! ### The verdict (R76 to R84) -/

/-- Some channel result is BLIND. -/
def anyBlind (results : PerChan ChanResult) : Bool := allChans.any fun c => (results.get c).blind

/-- A culled verdict without orientation or chosen run. -/
def culledVerdict (k : VerdictKind) (r : Reasons) : Verdict := ⟨k, none, r, none⟩

/-- A STAMP or METER verdict under the blind policy (R83). -/
def underBlindPolicy (policy : BlindPolicy) (blind : Bool) (k : VerdictKind) (o : Orientation) (r : Run) : Verdict :=
  match blind, policy with
  | true, .reject => culledVerdict .reject { Reasons.empty with blind := true }
  | true, .accept => ⟨k, some o, { Reasons.empty with blindPartial := true }, some ⟨r.start, r.length, r.peak⟩⟩
  | false, _ => ⟨k, some o, .empty, some ⟨r.start, r.length, r.peak⟩⟩

/-- The verdict when neither test finds a supported orientation (R84). -/
def nothingFound (results : PerChan ChanResult) : Verdict :=
  if anyBlind results then culledVerdict .reject { Reasons.empty with blind := true }
  else culledVerdict .noTag { Reasons.empty with
    misplaced := allChans.any fun c => (results.get c).runs.any fun r => r.cls == .phos
    coated := allChans.any fun c => (results.get c).coated }

/-- Tests 3 to 6 of the verdict (R76): stamp, meter, blind policy, nothing found. -/
def judgeRuns (p : Profile) (results : PerChan ChanResult) (len : Int) : Verdict :=
  match supportTest .phos p results len with
  | .found o r => underBlindPolicy p.blindPolicy (anyBlind results) .stamp o r
  | .ambiguous => culledVerdict .ambiguous .empty
  | .nothing =>
    match supportTest .fluo p results len with
    | .found o r => underBlindPolicy p.blindPolicy (anyBlind results) .meter o r
    | .ambiguous => culledVerdict .ambiguous .empty
    | .nothing => nothingFound results

/-- The letter's flags reject it by test 1 (R77). -/
def LetterFlags.rejects (f : LetterFlags) : Bool := f.short || f.long || f.close

/-- The verdict of test 1 (R77). -/
def flagVerdict (f : LetterFlags) : Verdict :=
  culledVerdict .reject { Reasons.empty with short := f.short, long := f.long, close := f.close }

/-- The verdict of the close-pair test (R78). -/
def closePairVerdict : Verdict := culledVerdict .reject { Reasons.empty with closePair := true }

/-- The route of a verdict (R86). -/
def routeOf (v : Verdict) : Route :=
  match v.kind, v.orientation with
  | .stamp, some o | .meter, some o => .main o.turnover o.cls
  | _, _ => .cull

/-- The tally of a reject, by the first reason of its set (R85). -/
def Reasons.first (r : Reasons) : RejectReason :=
  if r.short then .short else if r.long then .long else if r.close then .close
  else if r.closePair then .closePair else .blind

/-- The tally a verdict counts under (R85). -/
def Verdict.tally (v : Verdict) : Tally :=
  match v.kind, v.orientation with
  | .stamp, some o => .stamp o
  | .meter, some o => .meter o
  | .noTag, _ => .noTag
  | .ambiguous, _ => .ambiguous
  | _, _ => .reject v.reasons.first

/-! ### Writing the verdict and the hand-offs (R86 to R88) -/

/-- The cancel unit takes the letter at its verdict (R87). -/
def handToCancel (l : Letter) (v : Verdict) (s : State) : State :=
  match v.kind, v.orientation, v.chosen with
  | .stamp, some o, some run => schedulePrint l o run s
  | _, _, _ => updateLetter l.id (fun l => { l with cancel := some .notRequired }) s

/-- The pocket manager takes a culled letter (R88, R122); a MAIN letter is handed to no pocket. -/
def handToPockets (l : Letter) (r : Route) (s : State) : State :=
  match r with
  | .cull => assignPocket 0 (updateLetter l.id (fun l => { l with dest := some ⟨0, none⟩ }) s)
  | .main _ _ => s

/-- The verdict and route are written, counted and handed on (R75, R85 to R88); a MAIN letter's pocket decision point
is set up (R121). A hold of this letter ends. -/
def writeVerdict (l : Letter) (v : Verdict) (s : State) : State :=
  let r := routeOf v
  let point := match r with
    | .cull => none
    | .main _ _ => some (beyond l.lePos s.prl.profile.pdecPos)
  let s := updateLetter l.id (fun l => { l with verdict := some v, route := some r, pdecPoint := point }) s
  let s := { s with held := if s.held = some l.id then none else s.held }
  handToPockets l r (handToCancel l v (bump v.tally s))

/-- The tests after the pair test has passed (R76). -/
def judgeLetter (l : Letter) (s : State) : State :=
  writeVerdict l
    (judgeRuns s.prl.profile (l.results.getD (.all .untouched)) (l.length.getD 0)) s

/-- The pair point: le_pos + length + GMIN (R78). -/
def pairPointOf (p : Profile) (l : Letter) : Option Pos :=
  l.length.map fun len => beyond (moveBy l.lePos len) p.gmin

/-- The verdict limit: le_pos + G0_POS − GSETUP − 1 (R78). -/
def verdictLimitOf (p : Profile) (l : Letter) : Pos := beyond l.lePos p.g0Pos - BitVec.ofNat 32 (p.gsetup + 1)

/-- The verdict is evaluated at the letter's scan completion or LONG mark (R76 to R78): rejected by its flags or by a
close successor, judged, or held until the pair is known. A hold whose verdict limit is already reached ends at once
(R2). -/
def evaluate (id : LetterId) (s : State) : State :=
  match findLetter id s with
  | none => s
  | some l =>
    if l.flags.rejects then writeVerdict l (flagVerdict l.flags) s
    else
      match successor id s.trk.letters with
      | some n => if n.flags.close then writeVerdict l closePairVerdict s else judgeLetter l s
      | none =>
        if due s.trk.belt (pairPointOf s.prl.profile l) then judgeLetter l s
        else if reached s.trk.belt (verdictLimitOf s.prl.profile l) then writeVerdict l closePairVerdict s
        else { s with held := some id }

/-- The record of the held verdict. -/
def heldLetter (s : State) : Option Letter := s.held.bind fun id => findLetter id s

/-- A held verdict ends with the induction of the successor, which carries CLOSE or not (R78). -/
def endHold (close : Bool) (s : State) : State :=
  match heldLetter s with
  | none => s
  | some l => if close then writeVerdict l closePairVerdict s else judgeLetter l s

/-- The belt has reached the held letter's pair point: the test passes (R78). -/
def reachPairPoint (s : State) : State :=
  match heldLetter s with
  | none => s
  | some l => if due s.trk.belt (pairPointOf s.prl.profile l) then judgeLetter l s else s

/-- The belt has reached the held letter's verdict limit (R78). -/
def reachVerdictLimit (s : State) : State :=
  match heldLetter s with
  | none => s
  | some l =>
    if reached s.trk.belt (verdictLimitOf s.prl.profile l) then writeVerdict l closePairVerdict s else s

/-! ### Scan completion (R64, R69, R70) -/

/-- The scan context of a letter; empty when no flash or sample has fallen on it (R70). -/
def scanOf (id : LetterId) (s : State) : ScanContext :=
  match s.scan with
  | some x => if x.letter = id then x else ⟨id, .all .fresh, .all false⟩
  | none => ⟨id, .all .fresh, .all false⟩

/-- One channel's open run closes at the letter's end, and its fate is counted (R64, R68). -/
def closeChannel (c : Chan) (x : ScanContext) (s : State) : State :=
  countSources c (closeRun s.prl.profile (x.ctx.get c)).2 s

/-- One channel's result (R70). -/
def resultOf (p : Profile) (x : ScanContext) (c : Chan) : ChanResult :=
  RunContext.result (x.blind.get c) (closeRun p (x.ctx.get c)).1

/-- The letter's scan completes, or ends at its LONG mark: open runs close, the four channel results are written, a
capture of the letter ends, the context ends, and the verdict is evaluated (R47, R64, R69, R70, R76). -/
def completeScan (id : LetterId) (s : State) : State :=
  let x := scanOf id s
  let p := s.prl.profile
  let s := closeChannel .bl x (closeChannel .bu x (closeChannel .al x (closeChannel .au x s)))
  let results : PerChan ChanResult := ⟨resultOf p x .au, resultOf p x .al, resultOf p x .bu, resultOf p x .bl⟩
  let s := updateLetter id (fun l => { l with results := some results }) s
  let s := { s with
    scan := if (s.scan.map ScanContext.letter) = some id then none else s.scan
    lch := { s.lch with capture := (s.lch.capture.finish id).forget id } }
  evaluate id s

/-- The position at which a letter's scan completes: le_pos + S_POS + length (R69). -/
def completionOf (p : Profile) (l : Letter) : Option Pos := l.length.map fun len => moveBy (beyond l.lePos p.sPos) len

/-- The letter's scan is still to complete and its completion position lies at or behind `pos` (R69). -/
def scanEndsBy (p : Profile) (pos : Pos) (l : Letter) : Bool :=
  l.results.isNone && due pos (completionOf p l)

end Sys2Proof.Machine
end

