-- ==== Sys2Proof/Machine/Calibration.lean ====
section
/-! DEFINITION. Reference calibration: its start, its flashes, the samples of its two phases, its end, a face that
faults during it, and its abandonment (R50 to R54, R72). -/

namespace Sys2Proof.Machine

/-- One channel's part at the start of a calibration (R50): a named channel in FAULT is not calibrated, and its result
is FAULT. -/
def CalChannel.start (named : Bool) (isFault : Bool) (gain : Nat) : CalChannel where
  named := named
  active := named && !isFault
  result := if named && isFault then some .fault else none
  oldGain := gain
  newGain := gain
  meanL := none
  mismatch := none
  sumE := 0
  sumL := 0
  sumRef := 0
  refs := []

/-- The calibration at its start, with the dark phase's first flash still to come (R50, R51). -/
def Calibration.start (named : List Chan) (s : State) : Calibration :=
  let f (c : Chan) : CalChannel :=
    .start (decide (c ∈ named)) (s.lch.chans.get c).state.isFault (s.prl.profile.gain.get c)
  ⟨.dark 0, ⟨f .au, f .al, f .bu, f .bl⟩⟩

/-- A face is used: at least one of its channels is being calibrated (R50). -/
def Calibration.used (k : Calibration) (f : Face) : Bool :=
  (k.chans.get (upperChan f)).active || (k.chans.get (lowerChan f)).active

/-- Some face is used. -/
def Calibration.anyUsed (k : Calibration) : Bool := k.used .a || k.used .b

/-- No face's return is awaited. -/
def nothingOutstanding (s : State) : Bool := !(s.lch.outstanding.a || s.lch.outstanding.b)

/-- Both shutters lowered, no return awaited and the calibration over. A shutter that was raised for a face that has
faulted since is lowered here too (DESIGN CHOICE, log entry 32). -/
def leaveCalibration (s : State) : State :=
  { s with lch := { s.lch with calib := none, shutter := .all false, outstanding := .all false } }

/-- The calibration ends and its deferred reply is composed (R53, R54). -/
def endCalibration (k : Calibration) (s : State) : State := fillDeferred (.ok false (calFields k)) (leaveCalibration s)

/-- An undecided channel of an abandoned calibration (R54). -/
def CalChannel.abandoned (c : CalChannel) : CalChannel :=
  if c.active then { c with active := false, result := some .aborted, newGain := c.oldGain, meanL := none,
                            mismatch := none } else c

/-- A calibration in progress is abandoned (R54). -/
def abandonCalibration (s : State) : State :=
  match s.lch.calib with
  | none => s
  | some k => endCalibration { k with chans := k.chans.map CalChannel.abandoned } s

/-! ### Flashes (R51) -/

/-- The flash of one 1 ms tick: both lamps are pulsed and the used faces are awaited (R51). The 32nd dark and the 64th
reference flash are the last of their phases. -/
def calibrationFlash (s : State) : State :=
  match s.lch.calib with
  | none => s
  | some k =>
    if nothingOutstanding s then
      let flashed (phase : CalPhase) : State :=
        { s with lch := { s.lch with
            lampPulses := s.lch.lampPulses + 1
            outstanding := ⟨k.used .a, k.used .b⟩
            calib := some { k with phase := phase } } }
      match k.phase with
      | .dark n => if n < Config.darkFlashes then flashed (.dark (n + 1)) else s
      | .settle => s
      | .reference n => if n < Config.referenceFlashes then flashed (.reference (n + 1)) else s
    else s

/-! ### The dark phase (R52) -/

/-- A channel with its calibration part changed. -/
def updateCal (c : Chan) (f : CalChannel → CalChannel) (k : Calibration) : Calibration :=
  { k with chans := k.chans.set c (f (k.chans.get c)) }

/-- A dark sample is summed (R52). -/
def CalChannel.addDark (x : SamplePair) (c : CalChannel) : CalChannel :=
  if c.active then { c with sumE := c.sumE + x.e.toNat, sumL := c.sumL + x.l.toNat } else c

/-- A reference sample is summed with the dark baseline and kept for the mismatch count (R52, R53). -/
def CalChannel.addReference (baseL : Nat) (x : SamplePair) (c : CalChannel) : CalChannel :=
  if c.active then { c with sumRef := c.sumRef + above x.l.toNat baseL, refs := c.refs ++ [x] } else c

/-- The accumulators of a calibrated channel at the end of the dark phase (R52). -/
def Channel.setDark (k : CalChannel) (c : Channel) : Channel :=
  if k.active then
    { c with baccE := 16 * (k.sumE / Config.darkFlashes), baccL := 16 * (k.sumL / Config.darkFlashes) }
  else c

/-- The dark phase ends: accumulators are set, the shutters of the used faces are raised, and the settling time runs
(R52). -/
def endDark (k : Calibration) (s : State) : State :=
  let f (c : Chan) : Channel := (s.lch.chans.get c).setDark (k.chans.get c)
  { s with lch := { s.lch with
      chans := ⟨f .au, f .al, f .bu, f .bl⟩
      shutter := ⟨k.used .a, k.used .b⟩
      calib := some { k with phase := .settle } } }

/-! ### The end of the reference phase (R52, R53) -/

/-- The new gain and result from a channel's mean_l (R52). -/
def gainOf (target mean old : Nat) : Nat × CalResult :=
  if mean = 0 then (old, .noSignal)
  else
    let g := (64 * target + mean / 2) / mean
    if g < 32 then (32, .clampedLow) else if 255 < g then (255, .clampedHigh) else (g, .ok)

/-- A reference sample is a mismatch: it would not open a PHOS run (R72). -/
def isMismatch (p : Profile) (baseE baseL gain : Nat) (x : SamplePair) : Bool :=
  isSat x || !phosAt p p.tpOn (scaleSample x baseE baseL gain)

/-- A calibrated channel's result at the 64th reference return (R52, R53). -/
def CalChannel.decide (p : Profile) (ch : Channel) (c : CalChannel) : CalChannel :=
  if c.active then
    let mean := c.sumRef / Config.referenceFlashes
    let g := gainOf p.refTarget mean c.oldGain
    { c with
      active := false, result := some g.2, newGain := g.1, meanL := some mean
      mismatch := some (c.refs.filter (isMismatch p ch.baseE ch.baseL g.1)).length }
  else c

/-- The calibration ends at the 64th reference return: gains and results are set, the mismatches counted, the shutters
lowered and the reply composed (R52, R53). -/
def endReference (k : Calibration) (s : State) : State :=
  let p := s.prl.profile
  let f (c : Chan) : CalChannel := (k.chans.get c).decide p (s.lch.chans.get c)
  let k' : Calibration := { k with chans := ⟨f .au, f .al, f .bu, f .bl⟩ }
  let g (c : Chan) : Nat := if (k.chans.get c).active then (k'.chans.get c).newGain else p.gain.get c
  endCalibration k' { s with prl := { s.prl with profile := { p with gain := ⟨g .au, g .al, g .bu, g .bl⟩ } } }

/-- The phase's last return has been taken: the phase ends (R52, R53). -/
def endPhase (s : State) : State :=
  match s.lch.calib with
  | none => s
  | some k =>
    if nothingOutstanding s then
      match k.phase with
      | .dark n => if Config.darkFlashes ≤ n then endDark k s else s
      | .settle => s
      | .reference n => if Config.referenceFlashes ≤ n then endReference k s else s
    else s

/-- A used face's return of a calibration flash (R51, R52): the two pairs go to the calibration alone. -/
def calibrationReturn (k : Calibration) (f : Face) (upper lower : SamplePair) (s : State) : State :=
  let cu := upperChan f
  let cl := lowerChan f
  let k' := match k.phase with
    | .dark _ => updateCal cl (·.addDark lower) (updateCal cu (·.addDark upper) k)
    | .settle => k
    | .reference _ =>
      updateCal cl (·.addReference (s.lch.chans.get cl).baseL lower)
        (updateCal cu (·.addReference (s.lch.chans.get cu).baseL upper) k)
  endPhase { s with lch := { s.lch with outstanding := s.lch.outstanding.set f false, calib := some k' } }

/-- A named channel whose face faults during the calibration (R53). -/
def CalChannel.faulted (c : CalChannel) : CalChannel :=
  if c.active then { c with active := false, result := some .fault, newGain := c.oldGain, meanL := none,
                            mismatch := none } else c

/-- A face's return is not complete 200 µs after a calibration flash (R53): the face faults, and the calibration goes
on for the other face, or ends when no face remains used. The faulted face's shutter stays as it is until the
calibration ends: R53 does not say when it is lowered (DESIGN CHOICE, log entry 32). -/
def calibrationTimeout (k : Calibration) (f : Face) (s : State) : State :=
  let k := updateCal (lowerChan f) CalChannel.faulted (updateCal (upperChan f) CalChannel.faulted k)
  let s := faultFace f .timeout s
  if k.anyUsed then endPhase { s with lch := { s.lch with calib := some k } } else endCalibration k s

/-- The 100 ms settling time ends and the reference phase begins (R51, R52). -/
def endSettle (s : State) : State :=
  match s.lch.calib with
  | some k =>
    match k.phase with
    | .settle => { s with lch := { s.lch with calib := some { k with phase := .reference 0 } } }
    | .dark _ | .reference _ => s
  | none => s

end Sys2Proof.Machine
end

