-- ==== Sys2Proof/Machine/LineControl.lean ====
section
/-! DEFINITION. The line controller's transitions: RUNNING entry, FAULTED entry with every block's own reaction, the
drain and the stop, stillness in FAULTED, and the speed supervision (chapter 7). -/

namespace Sys2Proof.Machine

/-- The line controller is changed by `f`. -/
def updateLine (f : LineController → LineController) (s : State) : State := { s with lnc := f s.lnc }

/-- The line state becomes `t`, and LINE_STATE becomes pending (R148). -/
def enterLine (t : LineState) (s : State) : State := raise .lineState (updateLine (fun c => { c with line := t }) s)

/-! ### FAULTED (R160, R161) -/

/-- One record is removed at FAULTED entry as LOST_FAULT, counted and reported (R28). -/
def loseRecord (s : State) (l : Letter) : State :=
  reportRemoval l .lostFault (countRemoval l .lostFault (refreshListHigh (dropRecord l s)))

/-- No letter is being measured at E0. -/
def clearMeasuring (s : State) : State := { s with trk := { s.trk with measuring := none } }

/-- The tracker takes FAULTED entry (R28): every record leaves, oldest first, every gate goes to rest, and no letter is
measured at E0. -/
def loseAllRecords (s : State) : State := clearMeasuring (restGates (s.trk.letters.foldl loseRecord s))

/-- The belt is still while the line is FAULTED: the channels go to IDLE and the heads settle (R39, R116). -/
def settleFaulted (s : State) : State := settleHeads (idleChannels s)

/-- The timers, the wake debounce and the window counts of a line that enters FAULTED (R161). -/
def LineController.faultEntry (cause : LineCause) (c : LineController) : LineController :=
  { c with
    line := .faulted, reason := some ⟨cause, c.line⟩
    startTimer := none, drainTimer := .off, stopTimer := none, wake := none, atSpeed := 0, below := 0 }

/-- A FAULTED cause is taken (R160): outside FAULTED and LOADING the line enters FAULTED, and every block takes the
entry (R161). -/
def enterFaulted (cause : LineCause) (s : State) : State :=
  if s.lnc.line = .faulted ∨ s.lnc.line = .loading then s
  else
    let s := raise .lineState (raise .fault (updateLine (·.faultEntry cause) s))
    let s := loseAllRecords (abortPrints (abandonCalibration (stopSampling s)))
    if s.trk.moving then s else settleFaulted s

/-- A jam is handed to the line controller (R21). -/
def jam (kind : JamKind) (eye : Eye) (letter : Option LetterId) (s : State) : State :=
  enterFaulted (.jam ⟨kind, eye, letter⟩) s

/-! ### RUNNING (R151, R152) -/

/-- The line enters RUNNING (R151); the tracker's last TE position is cleared (R9). -/
def enterRunning (s : State) : State :=
  let s := enterLine .running (updateLine (fun c => { c with startTimer := none, below := 0 }) s)
  { s with trk := { s.trk with lastTe := none } }

/-- The speed condition is met (R151). -/
def speedMet (s : State) : Bool := Config.windowsAtSpeed ≤ s.lnc.atSpeed

/-- In STARTING the line enters RUNNING when the speed and lock conditions are both met (R151). -/
def checkStart (s : State) : State :=
  if s.lnc.line = .starting ∧ speedMet s ∧ allLocked s then enterRunning s else s

/-- The start timer expires in STARTING (R152). -/
def startTimeout (s : State) : State :=
  if s.lnc.line = .starting ∧ s.lnc.startTimer.isSome then
    if speedMet s then
      let unlocked (c : Chan) : Bool := (s.lch.chans.get c).state != .locked
      raise .channelBlind
        (updateLine (fun c => { c with blindAtStart := ⟨unlocked .au, unlocked .al, unlocked .bu, unlocked .bl⟩ })
          (enterRunning s))
    else enterFaulted .startFail s
  else s

/-! ### Stopping (R157 to R159) -/

/-- The line enters STOPPED after a stop: sampling ends and the channels go to IDLE (R159, R39, R48). -/
def enterStopped (s : State) : State :=
  let s := updateLine (fun c => { c with stopTimer := none, drainTimer := .off }) s
  enterLine .stopped (idleChannels (stopSampling s))

/-- The drain ends: the drain timer stops, TRANSPORT_RUN is negated and the stop timer starts (R158). A belt already
still is taken as still at once (R159). -/
def endDrain (ms : Nat) (s : State) : State :=
  let s := updateLine (fun c => { c with
    drainTimer := .held ms, below := 0, stopTimer := some s.prl.profile.stopTimeout }) s
  if s.trk.moving then s else enterStopped s

/-- In the drain phase of STOPPING, an empty transport list ends the drain (R158). -/
def checkDrain (s : State) : State :=
  match s.lnc.drainTimer with
  | .running ms => if s.lnc.line = .stopping ∧ s.trk.letters = [] then endDrain ms s else s
  | .off | .held _ => s

/-- An induction after the drain has ended returns the line controller to the drain phase (R158). -/
def resumeDrain (s : State) : State :=
  match s.lnc.drainTimer with
  | .held ms =>
    if s.lnc.line = .stopping then
      updateLine (fun c => { c with stopTimer := none, drainTimer := .running ms, below := 0 }) s
    else s
  | .off | .running _ => s

/-- STARTING or RUNNING goes to STOPPING (R157). -/
def enterStopping (s : State) : State :=
  checkDrain (enterLine .stopping
    (updateLine (fun c => { c with startTimer := none, drainTimer := .running s.prl.profile.drainTimeout }) s))

/-- The drain timer expires with records left (R158). -/
def drainTimeout (s : State) : State :=
  match s.lnc.drainTimer with
  | .running _ => if s.lnc.line = .stopping ∧ s.trk.letters ≠ [] then enterFaulted .drainTimeout s else s
  | .off | .held _ => s

/-- The stop timer expires (R159): a belt that reads still has stopped. -/
def stopFail (s : State) : State :=
  if s.lnc.line = .stopping ∧ s.lnc.stopTimer.isSome then
    if s.trk.moving then enterFaulted .stopFail s else enterStopped s
  else s

/-- 50 ms have passed with no pulse (R4): a stop is confirmed (R159), or in FAULTED the channels go to IDLE and the
heads settle (R39, R116). -/
def beltStill (s : State) : State :=
  if s.trk.moving then
    let s := { s with trk := { s.trk with moving := false } }
    match s.lnc.line with
    | .stopping => if s.lnc.stopTimer.isSome then enterStopped s else s
    | .faulted => settleFaulted s
    | .loading | .stopped | .starting | .running | .standby => s
  else s

/-! ### Speed supervision (R151, R156) -/

/-- The window counts at the end of a window of speed `v` (R151, R156). -/
def superviseSpeed (s : State) : State :=
  let ok : Bool := decide (s.prl.profile.minSpeed ≤ s.trk.speed)
  let slow (s : State) : State :=
    let n := if ok then 0 else s.lnc.below + 1
    let s := updateLine (fun c => { c with below := n }) s
    if Config.windowsBelowSpeed ≤ n then enterFaulted .speedLow s else s
  match s.lnc.line with
  | .starting =>
    checkStart (updateLine (fun c => { c with
      atSpeed := if ok then min (c.atSpeed + 1) Config.windowsAtSpeed else 0 }) s)
  | .running => slow s
  | .stopping => if s.lnc.stopTimer.isNone then slow s else s
  | .loading | .stopped | .faulted | .standby => s

/-- A 10 ms window ends: its count times 100 becomes the belt speed (R3). -/
def endWindow (s : State) : State :=
  superviseSpeed { s with trk := { s.trk with speed := s.trk.windowCount * 100, windowCount := 0 } }

/-! ### Standby (R164, R165) -/

/-- The wake debounce begins when its three conditions hold and it is not running (R165). -/
def startWake (s : State) : State :=
  if s.lnc.line = .standby ∧ s.prl.profile.autowake ∧ s.inputs.feedload ∧ s.lnc.wake.isNone then
    updateLine (fun c => { c with wake := some s.prl.profile.wakeDebounce }) s
  else s

/-- The wake debounce stops (R165). -/
def stopWake (s : State) : State := updateLine (fun c => { c with wake := none }) s

/-- The wake debounce completes (R165). -/
def completeWake (s : State) : State :=
  if s.lnc.line = .standby ∧ s.lnc.wake.isSome then raise .wake (enterLine .stopped (stopWake s)) else s

end Sys2Proof.Machine
end

