-- ==== Sys2Proof/Machine/Sampling.lean ====
section
/-! DEFINITION. Travel flashes and their returns: the flash handed to the run formers with the scans it completes, the
classing of a return's two samples, and a face that does not return (R30 to R34, R41, R58, R63, R69). -/

namespace Sys2Proof.Machine

/-! ### The flash (R30, R32, R34, R58, R69) -/

/-- A face still outstanding at the next flash faults with OVERRUN before the flash is made (R32). -/
def overrun (f : Face) (s : State) : State := if s.lch.outstanding.get f then failFace f .overrun s else s

/-- A face is awaited at a flash (R31). -/
def faceAwaited (f : Face) (s : State) : Bool :=
  (s.lch.chans.get (upperChan f)).state.awaited || (s.lch.chans.get (lowerChan f)).state.awaited

/-- The flash is made: both lamps are pulsed, its position is kept, the awaited faces are outstanding, and the channels
in FAULT give no sample of it (R30, R31, R41, R58). -/
def pulseLamps (pos : Pos) (s : State) : State :=
  { s with lch := { s.lch with
      silent := s.lch.chans.map fun c => c.state.isFault
      lampPulses := s.lch.lampPulses + 1
      flashDue := none
      flashPos := some pos
      outstanding := ⟨faceAwaited .a s, faceAwaited .b s⟩ } }

/-- Channel `c` is known to have given no sample for the step before: it was a step without sample (R58, R63). -/
def settleStep (c : Chan) (s : State) : State :=
  match s.scan with
  | none => s
  | some x =>
    let k := x.ctx.get c
    if k.awaiting then
      let r := emptyStep s.prl.profile { k with awaiting := false }
      countSources c r.2 { s with scan := some { x with ctx := x.ctx.set c r.1 } }
    else s

/-- The letters whose scan the flash at `pos` completes, oldest first (R69). -/
def completedBy (pos : Pos) (s : State) : List LetterId :=
  (s.trk.letters.filter fun l => scanEndsBy s.prl.profile pos l && !l.flags.long).map (·.id)

/-- A channel in FAULT when the flash is made marks the letter BLIND (R41). -/
def blindIfFault (pos : Pos) (c : Chan) (s : State) : State :=
  if (s.lch.chans.get c).state.isFault then markBlindAt pos c s else s

/-- The flash is a step of the letter that covers it, on all four channels (R58). -/
def beginStep (pos : Pos) (s : State) : State :=
  match inLetterAt pos s with
  | none => s
  | some l =>
    let step (k : RunContext) : RunContext := { k with awaiting := true }
    let s := updateScan (fun x => { x with ctx := x.ctx.map step }) (ensureScan l.id s)
    blindIfFault pos .bl (blindIfFault pos .bu (blindIfFault pos .al (blindIfFault pos .au s)))

/-- The flash at position `pos`: overruns, the lamps, the steps left without sample, the scans it completes, and the
step it is of the letter over the scan station (R30, R32, R34). -/
def makeFlash (pos : Pos) (s : State) : State :=
  let s := pulseLamps pos (overrun .b (overrun .a s))
  let s := settleStep .bl (settleStep .bu (settleStep .al (settleStep .au s)))
  let s := (completedBy pos s).foldl (fun s id => completeScan id s) s
  beginStep pos s

/-! ### One sample (R31, R33, R68) -/

/-- A capture entry. -/
def entryOf (pos : Pos) (x : SamplePair) (k : SampleClass) (r : RunState) (inLetter : Bool) : CaptureEntry :=
  ⟨pos, x.e, x.l, k, r, inLetter⟩

/-- The counter source of a sample's class (R42). -/
def classSources : SampleClass → List CounterSource
  | .phos => [.phosSamples]
  | .fluo => [.fluoSamples]
  | .none => []

/-- The counter source of a saturated sample (R42). -/
def satSources (sat : Bool) : List CounterSource := if sat then [.satSamples] else []

/-- The sample passed through the channel's run state when its flash is a step of the letter; otherwise it is classed
NONE and moves no run (R58, R62; log entry 15). -/
def runStep (p : Profile) (ch : Channel) (gain : Nat) (offset : Nat) (x : SamplePair) (k : RunContext) :
    RunContext × SampleClass × List CounterSource :=
  if k.awaiting then
    sampleStep p offset (isSat x) (scaleSample x ch.baseE ch.baseL gain) { k with awaiting := false }
  else (k, .none, [])

/-- Channel `c` takes an in-letter sample of letter `l`: blind mark, run step, counters and capture (R34, R41, R42,
R47, R68). -/
def letterSample (c : Chan) (l : Letter) (pos : Pos) (x : SamplePair) (s : State) : State :=
  let s := ensureScan l.id s
  let ch := s.lch.chans.get c
  let s := if ch.state = .search ∨ ch.state = .check then updateScan (·.markBlind c) s else s
  let sc := scanOf l.id s
  let k := sc.ctx.get c
  let r := runStep s.prl.profile ch (s.prl.profile.gain.get c) (scanOffset s.prl.profile l pos).toNat x k
  let s := { s with scan := some { sc with ctx := sc.ctx.set c { r.1 with sampled := true } } }
  let s := countSources c (r.2.2 ++ classSources r.2.1 ++ satSources (isSat x)) s
  captureSample c (some l.id) (entryOf pos x r.2.1 r.1.state true) s

/-- Channel `c` takes one sample of the flash at `pos` (R31, R33): in-letter, spent or dark. A pair for a channel in
FAULT, or for one that was in FAULT at the flash, is discarded (R31, R41, R46, R58; log entry 30). In STARTING a change
into or out of LOCKED is told to the line controller (R39, R151). -/
def takeSample (c : Chan) (pos : Pos) (x : SamplePair) (s : State) : State :=
  let before := (s.lch.chans.get c).state
  if before.isFault || s.lch.silent.get c then s
  else
    match coveringLetter pos s with
    | some l =>
      if l.flags.long then captureSample c none (entryOf pos x .none .noRun false) s
      else letterSample c l pos x s
    | none =>
      let s := darkSample c x (captureSample c none (entryOf pos x .none .noRun false) s)
      if (before == .locked) != ((s.lch.chans.get c).state == .locked) then checkStart s else s

/-- A face's completed return of a travel flash (R31): the upper band's pair, then the lower band's, with RUNNING
tested after each (DEDUCED, log entry 14: R31 gives no order of the two). -/
def travelReturn (f : Face) (upper lower : SamplePair) (s : State) : State :=
  match s.lch.flashPos with
  | none => s
  | some pos =>
    let s := { s with lch := { s.lch with outstanding := s.lch.outstanding.set f false } }
    takeSample (lowerChan f) pos lower (takeSample (upperChan f) pos upper s)

/-- A face's return is completed (R31): one from a face that is not outstanding is discarded. -/
def sampleReturn (f : Face) (upper lower : SamplePair) (s : State) : State :=
  if s.lch.outstanding.get f then
    match s.lch.calib with
    | some k => calibrationReturn k f upper lower s
    | none => travelReturn f upper lower s
  else s

/-- 200 µs have passed since the flash and the face's return is not complete (R32, R53). -/
def sampleTimeout (f : Face) (s : State) : State :=
  if s.lch.outstanding.get f then
    match s.lch.calib with
    | some k => calibrationTimeout k f s
    | none => failFace f .timeout s
  else s

end Sys2Proof.Machine
end

