-- ==== Sys2Proof/Machine/Tracking.lean ====
section
/-! DEFINITION. The transport tracker's events: pulses, induction and trailing edges at E0, the LONG and BLOCKED points,
arrivals and expiries at the later eyes, re-synchronisation, and the removal of delivered and lost letters (chapter 1).
-/

namespace Sys2Proof.Machine

/-- An encoder pulse: the counter advances, the window counts, the belt moves, and a multiple of PITCH reached while
sampling makes a flash due (R1, R3, R4, R30). -/
def encPulse (s : State) : State :=
  let belt := s.trk.belt + 1
  let hit := s.lnc.line.sampling && belt.toNat % s.prl.profile.pitch == 0
  { s with
    trk := { s.trk with belt := belt, windowCount := satSucc s.trk.windowCount, moving := true }
    lch := { s.lch with flashDue := if hit then some belt else s.lch.flashDue } }

/-! ### Removal (R26, R27) -/

/-- A record is removed in the ordinary course, and the drain may end (R26, R27, R158). -/
def retire (l : Letter) (d : Disposition) (s : State) : State := checkDrain (removeRecord l d s)

/-- The letter cannot be delivered: it bears the no-tray mark, or its pocket is in NO_TRAY (R26, R27). -/
def undeliverable (l : Letter) (s : State) : Bool :=
  l.noTray || match l.dest with
    | some d => s.pkm.pockets[d.pocket].state == .noTray
    | none => false

/-! ### E0 (R8 to R13) -/

/-- The new record of an induction (R9). -/
def newLetter (s : State) : Letter :=
  let gap := s.trk.lastTe.map fun te => posDiff te s.trk.belt
  let p := s.prl.profile
  { id := s.trk.nextId
    lePos := s.trk.belt
    length := none
    gap := gap
    flags := { LetterFlags.empty with close := match gap with
      | some g => decide (g < p.gmin)
      | none => false }
    resync := none, results := none, verdict := none, route := none, cancel := none, dest := none, noTray := false
    arrived := [], setupReached := [], owned := []
    longPoint := some (beyond s.trk.belt (p.lmax + 1))
    blockedPoint := some (beyond s.trk.belt (4 * p.lmax + 1))
    pdecPoint := none }

/-- The record joins the transport list (R9, R10). -/
def addRecord (l : Letter) (s : State) : State :=
  { s with trk := { s.trk with
      letters := s.trk.letters ++ [l], nextId := s.trk.nextId + 1, measuring := some l.id } }

/-- An induction (R9): the record is made and counted, the hold of its predecessor ends (R78), and a drain that had
ended resumes (R158). -/
def induct (s : State) : State :=
  let l := newLetter s
  resumeDrain (endHold l.flags.close (refreshListHigh (bump .inducted (addRecord l s))))

/-- A leading edge at E0 (R6, R8, R9). -/
def e0LeadingEdge (s : State) : State :=
  match s.lnc.line with
  | .loading | .faulted => s
  | .stopped | .standby | .starting => jam .stray .e0 none s
  | .running | .stopping =>
    if Config.listCapacity ≤ s.trk.letters.length then enterFaulted .trackOverflow s else induct s

/-- The letter is marked LONG: its sampling ends and its verdict is made (R12, R64, R70). -/
def markLong (id : LetterId) (s : State) : State :=
  completeScan id (updateLetter id (fun l => { l with flags := { l.flags with long := true }, longPoint := none }) s)

/-- The record being measured at E0. -/
def measuredLetter (s : State) : Option Letter := s.trk.measuring.bind fun id => findLetter id s

/-- A record whose LONG point has been reached and not taken. -/
def longDue (s : State) : Option Letter := s.trk.letters.find? fun l => due s.trk.belt l.longPoint

/-- The belt has reached a letter's LONG point (R12). -/
def reachLongPoint (s : State) : State :=
  match longDue s with
  | some l => markLong l.id s
  | none => s

/-- The letter's length is set from its trailing edge (R11). -/
def setLength (id : LetterId) (s : State) : State :=
  let te := s.trk.belt
  let lmin := s.prl.profile.lmin
  let s := updateLetter id (fun l =>
    let len := posDiff l.lePos te
    { l with
      length := some len, flags := { l.flags with short := l.flags.short || decide (len < lmin) }
      longPoint := none, blockedPoint := none }) s
  { s with trk := { s.trk with lastTe := some te, measuring := none } }

/-- The scan of a letter whose length has just become known completes when a flash at or beyond its completion
position has already been handed (R69). -/
def completeIfPassed (id : LetterId) (s : State) : State :=
  match findLetter id s, s.lch.flashPos with
  | some l, some pos => if scanEndsBy s.prl.profile pos l then completeScan id s else s
  | _, _ => s

/-- A trailing edge at E0 while a letter is measured (R11): a LONG point already reached is taken first (R12), then
the length, the release points of gates it owns (R23), and a scan it completes (R69). -/
def measureLetter (l : Letter) (s : State) : State :=
  let s := if due s.trk.belt l.longPoint then markLong l.id s else s
  let s := setLength l.id s
  let s := match findLetter l.id s with
    | some l => setReleasePoints l s
    | none => s
  completeIfPassed l.id s

/-- A trailing edge at E0 (R6, R9, R11). -/
def e0TrailingEdge (s : State) : State :=
  match s.lnc.line with
  | .loading | .faulted => s
  | .stopped | .standby | .starting | .running | .stopping =>
    match measuredLetter s with
    | some l => measureLetter l s
    | none => s

/-- The belt has reached the BLOCKED point of the letter being measured, with E0 blocked (R13). -/
def reachBlockedPoint (s : State) : State :=
  match measuredLetter s with
  | some l =>
    if due s.trk.belt l.blockedPoint ∧ s.inputs.e0 then
      jam .blocked .e0 (some l.id) (updateLetter l.id (fun l => { l with blockedPoint := none }) s)
    else s
  | none => s

/-! ### Arrivals and expiries (R17 to R20, R26, R27) -/

/-- The oldest record expected at eye `e` that has not arrived there (R17). -/
def waitingAt (e : Eye) (s : State) : Option Letter :=
  s.trk.letters.find? fun l => decide (e ∈ expectedEyes l) && !decide (e ∈ l.arrived)

/-- The eye at which the letter is delivered: its pocket eye, or EC for a culled letter (R18, R26). -/
def deliveryEye (l : Letter) (e : Eye) : Bool := ownPocketEye l == some e

/-- The correction of a letter's position at E3 (R20), with the points that move with it (R99, R121). A gate's
release point that the correction moves to the belt or behind it is taken by the RELEASE_POINT that follows (DESIGN
CHOICE, log entry 35). -/
def resynchronise (l : Letter) (s : State) : State :=
  let d := posDiff (beyond l.lePos s.prl.profile.e3Pos) s.trk.belt
  let s := updateLetter l.id (fun l => { l with
    lePos := moveBy l.lePos d, resync := some d
    flags := { l.flags with resynced := l.flags.resynced || decide (d ≠ 0) }
    pdecPoint := l.pdecPoint.map fun p => moveBy p d }) s
  movePrint l.id d (moveReleasePoints l.id d s)

/-- An arrival at eye `e` (R18): at E3 the position is corrected, at its pocket eye the letter is delivered unless it
cannot be (R26, R27). -/
def arrive (l : Letter) (e : Eye) (s : State) : State :=
  let s := updateLetter l.id (fun l => { l with arrived := l.arrived ++ [e] }) s
  if deliveryEye l e then
    if undeliverable l s then s
    else
      match findLetter l.id s with
      | some l => retire l .delivered s
      | none => s
  else if e = .e3 then resynchronise l s
  else s

/-- A record's expiry point at an eye is still set up: it has not arrived there, or has arrived at its own pocket eye
without being delivered (R18, R19). -/
def expiryStands (l : Letter) (e : Eye) : Bool :=
  decide (e ∈ expectedEyes l) && (!decide (e ∈ l.arrived) || deliveryEye l e)

/-- A record's expiry point at eye `e` (R19, R27): a letter that arrived and was not delivered, or that cannot be
delivered, is removed as LOST_NO_TRAY; any other is missing. -/
def expire (l : Letter) (e : Eye) (s : State) : State :=
  if deliveryEye l e && (decide (e ∈ l.arrived) || undeliverable l s) then retire l .lostNoTray s
  else jam .missing e (some l.id) s

/-- The belt has reached the expiry point of letter `id` at eye `e`. -/
def reachExpiry (id : LetterId) (e : Eye) (s : State) : State :=
  match findLetter id s with
  | some l =>
    if expiryStands l e && reached s.trk.belt (expiryPointAt s.prl.profile l e) then expire l e s else s
  | none => s

/-- The waiting records at eye `e` whose expiry point has been reached are taken before the edge (R17, R19); a jam
leaves the line FAULTED, and nothing is left to take. `fuel` bounds the records. -/
def expireWaiting : Nat → Eye → State → State
  | 0, _, s => s
  | fuel + 1, e, s =>
    match waitingAt e s with
    | some l =>
      if reached s.trk.belt (expiryPointAt s.prl.profile l e) then expireWaiting fuel e (expire l e s) else s
    | none => s

/-- The states in which the edges of the later eyes are taken (R6). -/
def eyeEdgesTaken (s : State) : Bool := s.lnc.line.sampling

/-- A leading edge at a later eye (R17): an arrival of the oldest waiting record, or stray. -/
def eyeLeadingEdge (e : Eye) (s : State) : State :=
  if eyeEdgesTaken s then
    let s := expireWaiting (s.trk.letters.length + 1) e s
    if eyeEdgesTaken s then
      match waitingAt e s with
      | none => jam .stray e none s
      | some l =>
        if reached s.trk.belt (openPoint s.prl.profile l e) then arrive l e s else jam .stray e (some l.id) s
    else s
  else s

/-! ### Gates and the pocket decision point (R23, R24, R121) -/

/-- The belt has reached a letter's setup point at a gate on its route (R23). -/
def reachSetupPoint (id : LetterId) (g : GateId) (s : State) : State :=
  match findLetter id s with
  | some l =>
    if g ∈ routeGates l ∧ g ∉ l.setupReached ∧ reached s.trk.belt (setupPointAt s.prl.profile l g) then
      reachSetup l g s
    else s
  | none => s

/-- The letter is assigned its pocket at its decision point (R121); BG1 already owned is driven to its setting
(R25). -/
def decidePocket (l : Letter) (s : State) : State :=
  let c := destClassOf l
  let k := choosePocket c s
  let s := updateLetter l.id (fun l => { l with dest := some ⟨k, some c⟩, pdecPoint := none }) (assignPocket k s)
  match findLetter l.id s with
  | some l => driveOwnedBank l s
  | none => s

/-- The fire end of the letter's print, when its point has been reached, is taken before the decision (R108). -/
def settlePrint (id : LetterId) (s : State) : State :=
  let f (h : Head) (s : State) : State := if (s.cnu.heads.get h).printing = some id then reachFireEnd h s else s
  f .lower (f .upper s)

/-- The belt has reached a letter's pocket decision point (R121). -/
def reachDecision (id : LetterId) (s : State) : State :=
  match findLetter id s with
  | some l =>
    if due s.trk.belt l.pdecPoint then
      let s := settlePrint id s
      match findLetter id s with
      | some l => decidePocket l s
      | none => s
    else s
  | none => s

end Sys2Proof.Machine
end

