-- ==== Sys2Proof/Machine/Link.lean ====
section
/-! DEFINITION. The link interface: the receiver, the request queue and its dispatch, the frames the part sends, and
the persistence of events (chapter 8). -/

namespace Sys2Proof.Machine

/-- The link interface is changed by `f`. -/
def updateLink (f : Link → Link) (s : State) : State := { s with lki := f s.lki }

/-! ### The receiver (R171) -/

/-- What a character leaves of the frame being gathered. -/
inductive RxEvent where
  | nothing
  | bad
  | good (f : Frame)
deriving DecidableEq, Repr

/-- The contents of a gathered body: KIND, TAG and payload (R169). -/
def frameOfBody : List Byte → Frame
  | kind :: tag :: payload => ⟨kind, tag, payload⟩
  | [kind] => ⟨kind, 0, []⟩
  | [] => ⟨0, 0, []⟩

/-- The CRC of a gathered frame equals the two bytes received (R170, R171). -/
def crcMatches (len : Nat) (got : List Byte) (hi lo : Byte) : Bool :=
  crc (BitVec.ofNat 8 len :: got) == hi ++ lo

/-- One character acts on the receiver (R171). -/
def Receiver.take (x : Byte) : Receiver → Receiver × RxEvent
  | .hunt => if x = sof then (.length, .nothing) else (.hunt, .nothing)
  | .length => if 2 ≤ x.toNat ∧ x.toNat ≤ 250 then (.body x.toNat [], .nothing) else (.hunt, .bad)
  | .body len got =>
    let got := got ++ [x]
    if len ≤ got.length then (.check len got none, .nothing) else (.body len got, .nothing)
  | .check len got none => (.check len got (some x), .nothing)
  | .check len got (some hi) =>
    if crcMatches len got hi x then (.hunt, .good (frameOfBody got)) else (.hunt, .bad)

/-- One more bad frame, saturating (R171). -/
def countBad (s : State) : State := updateLink (fun k => { k with badFrames := satSucc k.badFrames }) s

/-- The BUSY refusal of a good frame that finds the request queue full (R172). -/
def refuseBusy (f : Frame) (s : State) : State :=
  let s := updateLink (fun k => { k with busy := satSucc k.busy }) s
  if s.lki.replies.length < Config.replyCapacity then pushAnswer f.kind f.tag (.error .busy 0) s else s

/-- A good frame (R172): it joins the request queue, a START abandoning a calibration (R54), or is refused with BUSY;
between an accepted RESET and the reset's end it is discarded (R178). -/
def goodFrame (f : Frame) (s : State) : State :=
  if s.lki.resetPending then s
  else if s.lki.requests.length < Config.requestCapacity then
    let s := updateLink (fun k => { k with requests := k.requests ++ [⟨f.kind, f.tag, f.payload⟩] }) s
    if f.kind = ReqKind.start.code then abandonCalibration s else s
  else refuseBusy f s

/-- The receiver takes one character. -/
def receiveByte (s : State) (x : Byte) : State :=
  let r := s.lki.rx.take x
  let s := updateLink (fun k => { k with rx := r.1 }) s
  match r.2 with
  | .nothing => s
  | .bad => countBad s
  | .good f => goodFrame f s

/-- A character with a framing error: it abandons the frame being gathered and counts; in HUNT it is discarded
(R171). -/
def framingError (s : State) : State :=
  if s.lki.rx = .hunt then s else countBad (updateLink (fun k => { k with rx := .hunt }) s)

/-- A character on RXD: a byte, or none for one with a framing error. -/
def receiveChar (s : State) : Option Byte → State
  | some x => receiveByte s x
  | none => framingError s

/-- The receiver takes characters one after another. -/
def receive (cs : List (Option Byte)) (s : State) : State := cs.foldl receiveChar s

/-- The last stop bit of a frame being sent passes: in the HALF mode DE falls with it (R167). With no frame being sent
nothing changes. -/
def Link.frameEnd (k : Link) : Link :=
  { k with
    sending := false
    deFalls := if k.mode = .half ∧ k.sending = true then k.deFalls + 1 else k.deFalls }

/-- The stop bit of the frame being sent has passed (R167). -/
def endSending (s : State) : State := updateLink Link.frameEnd s

/-- Characters that come while the part is sending: in the HALF mode DE is raised and they are discarded, in the FULL
mode the receiver takes them (R168). -/
def receiveSending (cs : List (Option Byte)) (s : State) : State :=
  if s.lki.mode = .half then s else receive cs s

/-- Characters come on RXD, the first `overlap` of them while the frame that the part is sending is still under way;
a character after these shows that the frame has ended (R167, R168). -/
def receiveOver (overlap : Nat) (cs : List (Option Byte)) (s : State) : State :=
  if s.lki.sending then
    let s := receiveSending (cs.take overlap) s
    if overlap < cs.length then receive (cs.drop overlap) (endSending s) else s
  else receive cs s

/-- More than 2 ms without a character abandons the frame being gathered (R171). -/
def interByteTimeout (s : State) : State :=
  if s.lki.rx = .hunt then s
  else updateLink (fun k => { k with rx := .hunt, timeouts := satSucc k.timeouts }) s

/-! ### Dispatch (R173) -/

/-- An owner: its rule for one request, giving the state after it and the answer. -/
abbrev Owner := Request → State → State × Answer

/-- An owner refuses, changing nothing. -/
def refuse (e : ErrorCode) (s : State) : State × Answer := (s, .error e 0)

/-- The reply queue has room for the dispatch: it is empty for a RESET, else it has a free place (R173, R178). -/
def replyRoom (kind : Byte) (s : State) : Bool :=
  if kind = ReqKind.reset.code then s.lki.replies.isEmpty else s.lki.replies.length < Config.replyCapacity

/-- The request at the front of the queue can be dispatched (R173, R176). -/
def dispatchable (r : Request) (s : State) : Bool := !replyDeferred s && replyRoom r.kind s

/-- The link interface's own refusal of a request of kind `k`, in the order of R173. -/
def linkRefusal (k : ReqKind) (r : Request) (s : State) : Option ErrorCode :=
  if r.tag = 0 then some .badValue
  else
    match lengthRefusal k r.payload with
    | some e => some e
    | none => if s.lnc.line = .loading ∧ k.inLoading = false then some .notReady else none

/-- The request is decided: by the link interface's checks, or by its owner (R173). -/
def decideRequest (k : ReqKind) (owner : Owner) (r : Request) (s : State) : State × Answer :=
  match linkRefusal k r s with
  | some e => refuse e s
  | none => owner r s

/-- The front request leaves the queue, is decided, and its answer enters the reply queue (R173, R176). -/
def serve (k : ReqKind) (owner : Owner) (r : Request) (rest : List Request) (s : State) : State :=
  let x := decideRequest k owner r (updateLink (fun l => { l with requests := rest }) s)
  pushAnswer r.kind r.tag x.2 x.1

/-- The dispatch of a request of kind `k`, when it stands at the front of the queue and can be dispatched (R173). -/
def dispatch (k : ReqKind) (owner : Owner) (s : State) : State :=
  match s.lki.requests with
  | [] => s
  | r :: rest => if r.kind = k.code ∧ dispatchable r s then serve k owner r rest s else s

/-- The dispatch of a request whose KIND is no request kind (R173). -/
def dispatchUnknown (s : State) : State :=
  match s.lki.requests with
  | [] => s
  | r :: rest =>
    if !knownKind r.kind && dispatchable r s then
      pushAnswer r.kind r.tag (.error (if r.tag = 0 then .badValue else .unknownKind) 0)
        (updateLink (fun l => { l with requests := rest }) s)
    else s

/-! ### Frames sent (R177, R185) -/

/-- A frame begins to be sent on TXD; the one before it has ended, since the part sends one frame at a time (R167,
R177), so that in the HALF mode DE has fallen between the two, and rises again. -/
def transmit (f : Frame) (s : State) : State :=
  updateLink (fun k => { k.frameEnd with sending := true, txd := frameBytes f }) s

/-- The oldest composed reply, with the places that stay behind; reserved places are passed over (R177). -/
def takeComposed : List ReplyPlace → Option (Frame × List ReplyPlace)
  | [] => none
  | .composed f :: ps => some (f, ps)
  | .reserved k t :: ps => (takeComposed ps).map fun x => (x.1, .reserved k t :: x.2)

/-- The oldest composed reply is sent (R177); in the HALF mode only while the receiver hunts (R168). -/
def sendReply (s : State) : State :=
  match takeComposed s.lki.replies with
  | some (f, ps) =>
    if s.lki.mode = .full ∨ s.lki.rx = .hunt then
      transmit f (updateLink (fun k => { k with replies := ps }) s)
    else s
  | none => s

/-- The EVENT_NOTICE frame: pending set, mask and dropped count (R185). -/
def noticeFrame (s : State) : Frame :=
  ⟨0xE1, 0, eventBytes s.lki.events ++ eventBytes s.prl.profile.eventMask ++ be16 s.lki.dropped⟩

/-- A due notice in its turn (R177, R185): sent, or withdrawn when nothing enabled is pending. While an accepted RESET
waits it never has its turn: the reset acts at the last reply's stop bit and does not wait for it (R178). -/
def sendNotice (s : State) : State :=
  if s.lki.mode = .full ∧ s.lki.resetPending = false ∧ s.lki.noticeDue ∧ takeComposed s.lki.replies = none then
    let s' := updateLink (fun k => { k with noticeDue := false }) s
    if s.lki.events &&& s.prl.profile.eventMask = 0 then s' else transmit (noticeFrame s) s'
  else s

/-- The oldest letter report is sent in its turn, in the FULL mode (R177, R180); while an accepted RESET waits it never
has its turn, and the reset discards it (R178). -/
def sendReport (s : State) : State :=
  match s.lki.reports with
  | [] => s
  | r :: rest =>
    if s.lki.mode = .full ∧ s.lki.resetPending = false ∧ s.lki.noticeDue = false ∧
        takeComposed s.lki.replies = none then
      transmit ⟨0xE0, 0, r.bytes⟩ (updateLink (fun k => { k with reports := rest }) s)
    else s

/-! ### Polling (R182) -/

/-- The reports a POLL carries, taken while each with its size byte still fits in `room` bytes, and those left. -/
def takeReports : Nat → List LetterReport → List LetterReport × List LetterReport
  | _, [] => ([], [])
  | room, r :: rs =>
    if r.bytes.length + 1 ≤ room then
      let x := takeReports (room - (r.bytes.length + 1)) rs
      (r :: x.1, x.2)
    else ([], r :: rs)

/-- The fixed fields of a POLL reply take 6 bytes of the payload (R182). -/
def pollRoom : Nat := Config.payloadCapacity - 6

/-- POLL's reply fields after its result (R175, R182). -/
def pollFields (s : State) : List Byte :=
  let x := (takeReports pollRoom s.lki.reports).1
  eventBytes s.lki.events ++ be16 s.lki.dropped ++ u8 x.length
    ++ x.flatMap fun r => u8 r.bytes.length ++ r.bytes

/-! ### Event requests (R183, R184, R186) -/

/-- A kind persists through CLEAR_EVENTS while its condition holds (R183). -/
def persists (s : State) : EventKind → Bool
  | .fault => s.lnc.line == .faulted
  | .headFault => s.cnu.heads.upper.state == .fault || s.cnu.heads.lower.state == .fault
  | .channelFault => allChans.any fun c => (s.lch.chans.get c).state.isFault
  | _ => false

/-- The set of the persisting kinds whose condition holds. -/
def persisting (s : State) : EventSet :=
  ([.fault, .headFault, .channelFault].filter (persists s)).foldl (fun e k => e ||| k.bit) 0

/-- The named kinds leave the pending set, except the persisting ones; a cleared REPORTS_DROPPED zeroes the dropped
count (R186). -/
def clearEvents (named : EventSet) (s : State) : State :=
  let gone := named &&& s.lki.events &&& ~~~ persisting s
  updateLink (fun k => { k with
    events := k.events &&& ~~~ gone, dropped := if EventSet.has gone .reportsDropped then 0 else k.dropped }) s

end Sys2Proof.Machine
end

