-- ==== Sys2Proof/Machine/Loading.lean ====
section
/-! DEFINITION. The profile loader: the load and its fallbacks, the end of LOADING with every block's action, the store
write, and the soft reset (chapter 9). -/

namespace Sys2Proof.Machine

/-- The profile loader is changed by `f`. -/
def updateLoader (f : Loader → Loader) (s : State) : State := { s with prl := f s.prl }

/-- The working profile is changed by `f`. -/
def updateProfile (f : Profile → Profile) (s : State) : State := updateLoader (fun r => { r with profile := f r.profile }) s

/-! ### The store image (9.2, R190, R196) -/

/-- The image of a profile: format 1, body length 333, the body's CRC, and the body (9.2). -/
def imageOf (p : Profile) : List Byte :=
  [1] ++ be16 Config.bodySize ++ [crcHi (crc p.body), crcLo (crc p.body)] ++ p.body

/-- An image brought to its size: the bytes after its end read as 0xFF, those beyond 338 are not read (log entry 25). -/
def fullImage (bs : List Byte) : List Byte :=
  (bs ++ List.replicate (Config.imageSize - bs.length) 0xFF).take Config.imageSize

/-- The header passes step 2 (R190). -/
def headerGood (bs : List Byte) : Bool := byteAt bs 0 == 1 && ofBe16 (byteAt bs 1) (byteAt bs 2) == Config.bodySize

/-- Steps 2 to 5 of a store load on the image read (R190): the working profile and the load result. -/
def loadImage (bytes : List Byte) : Profile × LoadResult :=
  let bs := fullImage bytes
  let body := bs.drop 5
  if !headerGood bs then (.builtin, .defaulted .badFormat 0)
  else if crc body ≠ byteAt bs 3 ++ byteAt bs 4 then (.builtin, .defaulted .badChecksum 0)
  else
    match decodeFields fieldNumbers body .builtin false with
    | none => (.builtin, .defaulted .badFormat 0)
    | some (p, clamped) =>
      match p.firstFailing with
      | some n => (.builtin, .defaulted .inconsistent n)
      | none => (p, if clamped then .clamped else .ok)

/-- The load fell back to the built-in defaults. -/
def LoadResult.isDefaulted : LoadResult → Bool
  | .defaulted _ _ => true
  | _ => false

/-! ### The end of LOADING (R147) -/

/-- A pocket at the end of LOADING after a pin reset (R145). -/
def Pocket.begin (present : Bool) (cls : Option DestClass) (p : Pocket) : Pocket :=
  { p with state := if present then .open else .noTray, trayClass := cls, tray := present }

/-- The pockets after a pin reset take their sensors and classes (R145). -/
def beginPockets (s : State) : State :=
  allPockets.foldl (fun s k => updatePocket k (·.begin s.inputs.tray[k] (s.prl.profile.mappedClass k)) s) s

/-- A pocket's sensor is read against its state; a mismatch is the removal or insertion it reports (R146, R134). -/
def matchSensor (s : State) (k : PocketNo) : State :=
  if s.inputs.tray[k] then takeInsertion k s else takeRemoval k s

/-- The pockets after a soft reset: sensors, classes and limits (R146). R146 gives no order of the pockets; each pass
goes from pocket 0 to 9, and the tray records join the log in that order (DESIGN CHOICE, log entry 33). -/
def resumePockets (s : State) : State :=
  let s := allPockets.foldl matchSensor s
  let s := adoptClasses (fun _ => true) s
  let s := bankPockets.foldl (fun s k => raiseLimit k s) s
  allPockets.foldl (fun s k => applyLimit k s) s

/-- The load has ended: LOADING ends with every block's action, PROFILE_DEFAULTED becomes pending after a fallback, and
an active ESTOP_N is taken from STOPPED (R147, R188, R190). The hold set's changes raise no event while the line is
still LOADING (R153). -/
def endLoading (p : Profile) (r : LoadResult) (s : State) : State :=
  let s := updateLoader (fun x => { x with profile := p, result := r }) s
  let s := { s with lch := { s.lch with chans := s.lch.chans.map (Channel.nominal p) } }
  let s := if s.prl.afterPin then refreshCatchFull (beginPockets s) else resumePockets s
  let s := { s with pkm := { s.pkm with debounce := s.inputs.sweep } }
  let s := updateLine (fun c => { c with line := .stopped }) (applyHeadDown s)
  let s := if r.isDefaulted then raise .profileDefaulted s else s
  if s.inputs.estop then enterFaulted .estop s else s

/-- The load ends (R190): from the built-in defaults, or with the image read from the store. -/
def endLoad (image : List Byte) (s : State) : State :=
  if s.lnc.line = .loading then
    match s.prl.source with
    | .builtin => endLoading .builtin .ok s
    | .store => endLoading (loadImage image).1 (loadImage image).2 s
  else s

/-- No status byte shows the store not busy within 20 ms (R190, step 1). -/
def loadNoResponse (s : State) : State :=
  if s.lnc.line = .loading ∧ s.prl.source = .store then endLoading .builtin (.defaulted .noResponse 0) s else s

/-! ### The store write (R196) -/

/-- The bytes of page `p` of an image: 16, or the last 2 at page 21 (R196). -/
def pageBytes (p : Nat) (image : List Byte) : List Byte := (image.drop (16 * p)).take 16

/-- A write enable and then the page write of page `p` are sent to the store (R196). -/
def writePage (p : Nat) (image : List Byte) (s : State) : State :=
  updateLoader (fun r => { r with
    store := .page p image, spiOps := [.writeEnable, .pageWrite (16 * p) (pageBytes p image)] }) s

/-- A store write ends: the store write state returns to IDLE and the deferred reply is composed (R196). -/
def endWrite (a : Answer) (s : State) : State := fillDeferred a (updateLoader (fun r => { r with store := .idle }) s)

/-- A status read first shows the store not busy, and page 0 is written (R196, step 1). -/
def storeNotBusy (s : State) : State :=
  match s.prl.store with
  | .waiting image => writePage 0 image s
  | .idle | .page _ _ | .verifying _ => s

/-- The store shows a page write finished: the next page is written, or the read-back begins (R196). -/
def storePageDone (s : State) : State :=
  match s.prl.store with
  | .page p image =>
    if p < Config.lastPage then writePage (p + 1) image s
    else updateLoader (fun r => { r with store := .verifying image }) s
  | .idle | .waiting _ | .verifying _ => s

/-- The store is not ready before paging, or a page is not finished in time (R196). -/
def storeWriteNoResponse (s : State) : State :=
  match s.prl.store with
  | .waiting _ | .page _ _ => endWrite (.error .storeFail StoreReason.noResponse.code) s
  | .idle | .verifying _ => s

/-- The read-back ends and is compared with the image (R196, step 3). -/
def storeVerifyDone (readBack : List Byte) (s : State) : State :=
  match s.prl.store with
  | .verifying image =>
    if readBack = image then endWrite (.ok false (be16 Config.imageSize)) s
    else endWrite (.error .storeFail StoreReason.mismatch.code) s
  | .idle | .waiting _ | .page _ _ => s

/-! ### Resets (R29, R56, R117, R146, R166, R188, R198, R199) -/

/-- The soft reset (R198): each block takes its soft reset values and the reload begins. Kept are the belt position,
next letter id, speed and stillness, the postmark settings and sequence state, the pockets, trays, tray log and
tallies, and the straps and profile source. -/
def softReset (s : State) : State :=
  { s with
    trk := { s.trk with measuring := none, lastTe := none, gates := Vector.replicate 10 .atRest }
    lch := { Channels.initial with lampPulses := s.lch.lampPulses }
    scan := none
    held := none
    cnu := { s.cnu with heads := ⟨{ HeadUnit.initial s.inputs.headFault.upper with hdata := s.cnu.heads.upper.hdata },
                                  { HeadUnit.initial s.inputs.headFault.lower with hdata := s.cnu.heads.lower.hdata }⟩ }
    pkm := { s.pkm with debounce := Vector.replicate 10 false }
    lnc := { LineController.initial with hold := { s.lnc.hold with operator := false } }
    lki := { Link.initial s.lki.mode s.lki.rate with txd := s.lki.txd, deFalls := s.lki.frameEnd.deFalls }
    prl := { s.prl with profile := .builtin, result := .inProgress, afterPin := false, store := .idle } }

/-- The reset of an accepted RESET acts once its replies have all been sent (R178, R198). -/
def actReset (s : State) : State := if s.lki.resetPending ∧ s.lki.replies = [] then softReset s else s

/-- RESET_N becomes active (R199): outputs are negated, a write or a calibration in progress is cut off without reply,
and the part is held in reset; a frame being sent is cut off (R188). The output pins are negated by `inReset` itself. -/
def assertReset (s : State) : State :=
  { restGates s with
    inReset := true
    lki := { s.lki with sending := false }
    lch := { s.lch with calib := none, shutter := .all false, outstanding := .all false }
    prl := { s.prl with store := .idle } }

end Sys2Proof.Machine
end

