-- ==== Sys2Proof/Machine/TransportCommands.lean ====
section
/-! DEFINITION. The meanings of the commands of resets, the belt, the eyes, the letters' points of travel, the line's
timers and inputs. -/

namespace Sys2Proof.Machine

/-- A change of an input pin: the level is kept even while RESET_N is held active; the event it makes is taken only out
of reset (R199). -/
def onPin (level : Inputs → Inputs) (event : State → State) (s : State) : Host.Outcome State Fault Refusal :=
  let s := { s with inputs := level s.inputs }
  if s.inReset then .next s else .next (event s)

/-- RESET_N_ASSERT (R199). -/
def execResetNAssert (s : State) : Host.Outcome State Fault Refusal := .next (assertReset s)

/-- RESET_N_RELEASE (R199): the straps are sampled and every block takes its pin reset values. -/
def execResetNRelease (straps : Straps) (s : State) : Host.Outcome State Fault Refusal :=
  if s.inReset then .next (.pinReset s.inputs straps s.pending) else .next s

/-- PROFILE_LOAD_END (R190, R147). -/
def execProfileLoadEnd (image : List Byte) (s : State) : Host.Outcome State Fault Refusal := live (endLoad image) s

/-- STORE_LOAD_NO_RESPONSE (R190). -/
def execStoreLoadNoResponse (s : State) : Host.Outcome State Fault Refusal := live loadNoResponse s

/-- ENC_PULSE (R1, R3, R4). -/
def execEncPulse (s : State) : Host.Outcome State Fault Refusal := live encPulse s

/-- SPEED_WINDOW_END (R3, R151, R156). -/
def execSpeedWindowEnd (s : State) : Host.Outcome State Fault Refusal := live endWindow s

/-- BELT_STILL (R4, R159, R116). -/
def execBeltStill (s : State) : Host.Outcome State Fault Refusal := live beltStill s

/-- E0_LE_EDGE (R6, R8, R9): a change of the eye from clear to blocked. -/
def execE0LeEdge (s : State) : Host.Outcome State Fault Refusal :=
  if s.inputs.e0 then .next s else onPin (fun i => { i with e0 := true }) e0LeadingEdge s

/-- E0_TE_EDGE (R6, R11): a change of the eye from blocked to clear. -/
def execE0TeEdge (s : State) : Host.Outcome State Fault Refusal :=
  if s.inputs.e0 then onPin (fun i => { i with e0 := false }) e0TrailingEdge s else .next s

/-- EYE_LE_EDGE (R6, R17, R18) at one of the later eyes, with its new level: a change to blocked is a leading edge, a
change to clear a trailing edge, which is not used. The edges at E0 are commands of their own, and the operand E0 stops
the block (log entry 24). -/
def execEyeLeEdge (edge : EyeLevel) (s : State) : Host.Outcome State Fault Refusal :=
  if edge.eye = .e0 then .fault .notALaterEye
  else if s.inputs.blocked edge.eye = edge.blocked then .next s
  else onPin (Inputs.setEye edge.eye edge.blocked) (fun t => if edge.blocked then eyeLeadingEdge edge.eye t else t) s

/-- LONG_POINT (R12). -/
def execLongPoint (s : State) : Host.Outcome State Fault Refusal := live reachLongPoint s

/-- BLOCKED_POINT (R13). -/
def execBlockedPoint (s : State) : Host.Outcome State Fault Refusal := live reachBlockedPoint s

/-- EXPIRY_POINT (R19, R27) of letter `id` at eye `eye`. -/
def execExpiryPoint (id : LetterId) (eye : Eye) (s : State) : Host.Outcome State Fault Refusal :=
  live (reachExpiry id eye) s

/-- SETUP_POINT (R23) of letter `id` at gate `gate`. -/
def execSetupPoint (id : LetterId) (gate : GateId) (s : State) : Host.Outcome State Fault Refusal :=
  live (reachSetupPoint id gate) s

/-- RELEASE_POINT (R24) of the owner of gate `gate`. -/
def execReleasePoint (gate : GateId) (s : State) : Host.Outcome State Fault Refusal := live (releaseIfDue gate) s

/-- PAIR_POINT (R78). -/
def execPairPoint (s : State) : Host.Outcome State Fault Refusal := live reachPairPoint s

/-- VERDICT_LIMIT (R78). -/
def execVerdictLimit (s : State) : Host.Outcome State Fault Refusal := live reachVerdictLimit s

/-- POCKET_DECISION_POINT (R121) of letter `id`. -/
def execPocketDecisionPoint (id : LetterId) (s : State) : Host.Outcome State Fault Refusal := live (reachDecision id) s

/-- ESTOP (R162): the input becomes active or inactive; only its becoming active is a FAULTED cause. -/
def execEstop (active : Bool) (s : State) : Host.Outcome State Fault Refusal :=
  onPin (fun i => { i with estop := active }) (fun t => if active && !s.inputs.estop then enterFaulted .estop t else t) s

/-- FEEDLOAD_ACTIVE (R165). -/
def execFeedloadActive (s : State) : Host.Outcome State Fault Refusal :=
  onPin (fun i => { i with feedload := true }) startWake s

/-- FEEDLOAD_INACTIVE (R165). -/
def execFeedloadInactive (s : State) : Host.Outcome State Fault Refusal :=
  onPin (fun i => { i with feedload := false }) stopWake s

/-- WAKE (R165). -/
def execWake (s : State) : Host.Outcome State Fault Refusal := live completeWake s

/-- START_TIMEOUT (R152). -/
def execStartTimeout (s : State) : Host.Outcome State Fault Refusal := live startTimeout s

/-- DRAIN_TIMEOUT (R158). -/
def execDrainTimeout (s : State) : Host.Outcome State Fault Refusal := live drainTimeout s

/-- STOP_FAIL (R159). -/
def execStopFail (s : State) : Host.Outcome State Fault Refusal := live stopFail s

end Sys2Proof.Machine
end

