-- ==== Sys2Proof/Machine/CancelCommands.lean ====
section
/-! DEFINITION. The meanings of the commands of the cancel unit: the points of a print, the head fault inputs, and the
requests the cancel unit owns (chapter 5). -/

namespace Sys2Proof.Machine

/-- FIRE_START (R102) of the front entry of head `head`'s queue. -/
def execFireStart (head : Head) (s : State) : Host.Outcome State Fault Refusal := live (reachFireStart head) s

/-- FIRE_END (R106). -/
def execFireEnd (head : Head) (s : State) : Host.Outcome State Fault Refusal := live (reachFireEnd head) s

/-- RECOVERY_END (R107). -/
def execRecoveryEnd (head : Head) (s : State) : Host.Outcome State Fault Refusal := live (reachRecoveryEnd head) s

/-- HEAD_FAULT (R109): the fault input of `head` becomes active or inactive; becoming inactive changes no state but the
level. -/
def execHeadFault (head : Head) (active : Bool) (s : State) : Host.Outcome State Fault Refusal :=
  onPin (fun i => { i with headFault := i.headFault.set head active })
    (fun t => if active && !s.inputs.headFault.get head then faultHead head t else t) s

/-- The date a SET_POSTMARK payload gives. -/
def postmarkDate (bs : List Byte) : Date :=
  ⟨ofBe16 (byteAt bs 0) (byteAt bs 1), (byteAt bs 2).toNat, (byteAt bs 3).toNat⟩

/-- The start number a SET_POSTMARK payload of 11 bytes gives (R172). -/
def startNumberOf (bs : List Byte) : Option Nat := if bs.length = 11 then some (ofBytes (bs.drop 7)) else none

/-- The last number given for a date since the pin reset, if any (R95). -/
def lastNumberFor (d : Date) (c : CancelUnit) : Option Nat :=
  c.lastFire.bind fun f => if f.date = d then some f.seq else none

/-- A clamped start number is not greater than the last number given for its date (R95). -/
def startNumberRefused (d : Date) (n : Nat) (c : CancelUnit) : Bool :=
  match lastNumberFor d c with
  | some last => n ≤ last
  | none => false

/-- SET_POSTMARK's refusals (R94, R95); `n` is the clamped start number. -/
def postmarkRefused (d : Date) (office : Nat) (n : Option Nat) (s : State) : Bool :=
  !d.real
    || (match s.cnu.date with
      | some d0 => d.before d0
      | none => false)
    || 8 ≤ office
    || (s.prl.profile.office office).isEmpty
    || (match n with
      | some v => startNumberRefused d v s.cnu
      | none => false)

/-- SET_POSTMARK (R94, R95). -/
def ownSetPostmark : Owner := fun r s =>
  let d := postmarkDate r.payload
  let time := ofBe16 (byteAt r.payload 4) (byteAt r.payload 5)
  let office := (byteAt r.payload 6).toNat
  let n := startNumberOf r.payload
  let n' := n.map (clampTo 1 Config.seqCeiling)
  if postmarkRefused d office n' s then refuse .badValue s
  else
    let s := { s with cnu := { s.cnu with
      date := some d, timeMark := min time 1439, office := office
      waiting := match n' with
        | some v => some ⟨v, d⟩
        | none => s.cnu.waiting } }
    (s, .ok (decide (1439 < time) || n' != n) (postmarkFields s))

/-- SET_POSTMARK (R94). -/
def execSetPostmark (s : State) : Host.Outcome State Fault Refusal := live (dispatch .setPostmark ownSetPostmark) s

/-- GET_POSTMARK (R96). -/
def ownGetPostmark : Owner := fun _ s => (s, .ok false (postmarkFields s))

/-- GET_POSTMARK (R96). -/
def execGetPostmark (s : State) : Host.Outcome State Fault Refusal := live (dispatch .getPostmark ownGetPostmark) s

/-- The reply to a head request. -/
def headReply (h : Head) (s : State) : State × Answer := (s, .ok false (headFields h s))

/-- HEAD_RESET on one head (R111). -/
def resetHead (h : Head) (s : State) : State × Answer :=
  if (s.cnu.heads.get h).state ≠ .fault then refuse .wrongState s
  else if s.inputs.headFault.get h then refuse .conditionActive s
  else headReply h (refreshHeadDown (updateHead h (fun u => { u with state := u.backState }) s))

/-- HEAD_RESET (R111). -/
def ownHeadReset : Owner := fun r s =>
  match headOfCode (byteAt r.payload 0) with
  | none => refuse .badValue s
  | some h => resetHead h s

/-- HEAD_RESET (R111). -/
def execHeadReset (s : State) : Host.Outcome State Fault Refusal := live (dispatch .headReset ownHeadReset) s

/-- HEAD_DISABLE on one head (R112). A RECOVERING head without a pending OFF request goes OFF at once; one with it is
left to its recovery end. -/
def disableHead (h : Head) (s : State) : State × Answer :=
  let u := s.cnu.heads.get h
  match u.state with
  | .fault => refuse .wrongState s
  | .off => headReply h s
  | .ready =>
    headReply h (refreshHeadDown (emptyQueue h (updateHead h (fun u => { u with state := .off }) s)))
  | .recovering =>
    if u.offPending then headReply h s
    else headReply h (refreshHeadDown (emptyQueue h (updateHead h (fun u => { u with state := .off }) s)))
  | .printing =>
    if u.offPending then headReply h s
    else headReply h (refreshHeadDown (emptyQueue h (updateHead h (fun u => { u with offPending := true }) s)))

/-- HEAD_DISABLE (R112). -/
def ownHeadDisable : Owner := fun r s =>
  match headOfCode (byteAt r.payload 0) with
  | none => refuse .badValue s
  | some h => disableHead h s

/-- HEAD_DISABLE (R112). -/
def execHeadDisable (s : State) : Host.Outcome State Fault Refusal := live (dispatch .headDisable ownHeadDisable) s

/-- HEAD_ENABLE on one head (R113). -/
def enableHead (h : Head) (s : State) : State × Answer :=
  match (s.cnu.heads.get h).state with
  | .fault => refuse .wrongState s
  | .off => headReply h (refreshHeadDown (updateHead h (fun u => { u with state := u.backState }) s))
  | .ready | .printing | .recovering =>
    headReply h (refreshHeadDown (updateHead h (fun u => { u with offPending := false }) s))

/-- HEAD_ENABLE (R113). -/
def ownHeadEnable : Owner := fun r s =>
  match headOfCode (byteAt r.payload 0) with
  | none => refuse .badValue s
  | some h => enableHead h s

/-- HEAD_ENABLE (R113). -/
def execHeadEnable (s : State) : Host.Outcome State Fault Refusal := live (dispatch .headEnable ownHeadEnable) s

end Sys2Proof.Machine
end

