-- ==== Sys2Proof/Machine/LineCommands.lean ====
section
/-! DEFINITION. The meanings of the line requests (chapter 7). -/

namespace Sys2Proof.Machine

/-- The reply that gives the line state (R175). -/
def lineReply (s : State) : State × Answer := (s, .ok false (u8 s.lnc.line.code))

/-- The line enters STARTING (R150, R39). -/
def enterStarting (s : State) : State :=
  enterLine .starting (channelsStart (updateLine (fun c => { c with
    startTimer := some s.prl.profile.startTimeout, atSpeed := 0, blindAtStart := .all false, wake := none }) s))

/-- START (R149, R150). -/
def ownStart : Owner := fun _ s =>
  if s.lnc.line ≠ .stopped ∧ s.lnc.line ≠ .standby then refuse .wrongState s
  else
    match s.prl.profile.firstFailing with
    | some n => (s, .error .profileInvalid n)
    | none =>
      if s.cnu.date.isNone then refuse .noPostmark s
      else if s.inputs.estop then refuse .conditionActive s
      else lineReply (enterStarting s)

/-- START (R149, R150). -/
def execStart (s : State) : Host.Outcome State Fault Refusal := live (dispatch .start ownStart) s

/-- STOP (R157). The reply gives STOPPING, also where the belt is still and the stop is confirmed at once. -/
def ownStop : Owner := fun _ s =>
  let reply : Answer := .ok false (u8 LineState.stopping.code)
  match s.lnc.line with
  | .starting | .running => (enterStopping s, reply)
  | .stopping => (s, reply)
  | .loading | .stopped | .faulted | .standby => refuse .wrongState s

/-- STOP (R157). -/
def execStop (s : State) : Host.Outcome State Fault Refusal := live (dispatch .stop ownStop) s

/-- STANDBY (R164). -/
def ownStandby : Owner := fun _ s =>
  match s.lnc.line with
  | .stopped => lineReply (startWake (enterLine .standby s))
  | .standby => lineReply s
  | .loading | .starting | .running | .stopping | .faulted => refuse .wrongState s

/-- STANDBY (R164). -/
def execStandby (s : State) : Host.Outcome State Fault Refusal := live (dispatch .standby ownStandby) s

/-- CLEAR_FAULT (R163). -/
def ownClearFault : Owner := fun _ s =>
  if s.lnc.line ≠ .faulted then refuse .wrongState s
  else if s.trk.moving ∨ s.inputs.estop then refuse .conditionActive s
  else lineReply (enterLine .stopped (updateLine (fun c => { c with reason := none }) s))

/-- CLEAR_FAULT (R163). -/
def execClearFault (s : State) : Host.Outcome State Fault Refusal := live (dispatch .clearFault ownClearFault) s

/-- HOLD_FEED and RELEASE_FEED (R155): OPERATOR is put in or taken out of the feed hold set. -/
def setOperator (on : Bool) (s : State) : State × Answer :=
  let s := setHold { s.lnc.hold with operator := on } s
  (s, .ok false s.lnc.hold.byte)

/-- HOLD_FEED (R155). -/
def execHoldFeed (s : State) : Host.Outcome State Fault Refusal :=
  live (dispatch .holdFeed fun _ s => setOperator true s) s

/-- RELEASE_FEED (R155). -/
def execReleaseFeed (s : State) : Host.Outcome State Fault Refusal :=
  live (dispatch .releaseFeed fun _ s => setOperator false s) s

end Sys2Proof.Machine
end

