-- ==== Sys2Proof/Machine/LinkCommands.lean ====
section
/-! DEFINITION. The meanings of the commands of the link interface: frames received, frames sent, and the requests the
link interface owns (chapter 8). -/

namespace Sys2Proof.Machine

/-- GOOD_FRAME (R168, R171, R172): the characters of the frame on RXD. -/
def execGoodFrame (rx : RxChars) (s : State) : Host.Outcome State Fault Refusal :=
  live (receiveOver rx.overlap (rx.bytes.map some)) s

/-- BAD_FRAME (R168, R171): the characters on RXD, and whether one with a framing error follows them. -/
def execBadFrame (rx : RxChars) (framingErr : Bool) (s : State) : Host.Outcome State Fault Refusal :=
  live (receiveOver rx.overlap (rx.bytes.map some ++ if framingErr then [none] else [])) s

/-- INTER_BYTE_TIMEOUT (R171). -/
def execInterByteTimeout (s : State) : Host.Outcome State Fault Refusal := live interByteTimeout s

/-- UNKNOWN_KIND (R173). -/
def execUnknownKind (s : State) : Host.Outcome State Fault Refusal := live dispatchUnknown s

/-- REPLY_SEND (R177). -/
def execReplySend (s : State) : Host.Outcome State Fault Refusal := live sendReply s

/-- EVENT_NOTICE (R185). -/
def execEventNotice (s : State) : Host.Outcome State Fault Refusal := live sendNotice s

/-- LETTER_REPORT_SEND (R177, R180). -/
def execLetterReportSend (s : State) : Host.Outcome State Fault Refusal := live sendReport s

/-- GET_STATUS (R187). -/
def ownGetStatus : Owner := fun _ s => (s, .ok false (statusFields s))

/-- GET_STATUS (R187). -/
def execGetStatus (s : State) : Host.Outcome State Fault Refusal := live (dispatch .getStatus ownGetStatus) s

/-- POLL (R182): the reports carried leave the report queue. -/
def ownPoll : Owner := fun _ s =>
  (updateLink (fun k => { k with reports := (takeReports pollRoom k.reports).2 }) s, .ok false (pollFields s))

/-- POLL (R182). -/
def execPoll (s : State) : Host.Outcome State Fault Refusal := live (dispatch .poll ownPoll) s

/-- The event mask becomes `m` (R184). -/
def setMask (m : EventSet) (s : State) : State := updateProfile (fun p => { p with eventMask := m }) s

/-- SET_EVENT_MASK (R184). -/
def ownSetEventMask : Owner := fun r s =>
  match maskOfNat (ofBytes r.payload) with
  | none => refuse .badValue s
  | some m => (setMask m s, .ok false (eventBytes m ++ eventBytes s.lki.events))

/-- SET_EVENT_MASK (R184). -/
def execSetEventMask (s : State) : Host.Outcome State Fault Refusal := live (dispatch .setEventMask ownSetEventMask) s

/-- CLEAR_EVENTS (R186). -/
def ownClearEvents : Owner := fun r s =>
  match maskOfNat (ofBytes r.payload) with
  | none => refuse .badValue s
  | some m =>
    let s := clearEvents m s
    (s, .ok false (eventBytes s.lki.events))

/-- CLEAR_EVENTS (R186). -/
def execClearEvents (s : State) : Host.Outcome State Fault Refusal := live (dispatch .clearEvents ownClearEvents) s

/-- SET_REPORT_MODE (R181). -/
def ownSetReportMode : Owner := fun r s =>
  match modeOfCode (byteAt r.payload 0) with
  | none => refuse .badValue s
  | some m => (updateProfile (fun p => { p with reportMode := m }) s, .ok false (u8 m.code))

/-- SET_REPORT_MODE (R181). -/
def execSetReportMode (s : State) : Host.Outcome State Fault Refusal :=
  live (dispatch .setReportMode ownSetReportMode) s

end Sys2Proof.Machine
end

