-- ==== Sys2Proof/Machine/LuminescenceCommands.lean ====
section
/-! DEFINITION. The meanings of the commands of the luminescence channels: flashes, returns, calibration, and the
requests the channels own (chapter 2). -/

namespace Sys2Proof.Machine

/-- FLASH (R30): a flash position reached while sampling is taken. -/
def takeFlash (s : State) : State :=
  match s.lch.flashDue with
  | some pos => if s.lnc.line.sampling then makeFlash pos s else s
  | none => s

/-- FLASH (R30). -/
def execFlash (s : State) : Host.Outcome State Fault Refusal := live takeFlash s

/-- SAMPLE_RETURN (R31): `upper` is the upper band's pair of the face, `lower` the lower band's. -/
def execSampleReturn (face : Face) (upper lower : SamplePair) (s : State) : Host.Outcome State Fault Refusal :=
  live (sampleReturn face upper lower) s

/-- TIMEOUT (R32, R53). -/
def execTimeout (face : Face) (s : State) : Host.Outcome State Fault Refusal := live (sampleTimeout face) s

/-- CALIBRATION_FLASH (R51). -/
def execCalibrationFlash (s : State) : Host.Outcome State Fault Refusal := live calibrationFlash s

/-- SETTLE_END (R52). -/
def execSettleEnd (s : State) : Host.Outcome State Fault Refusal := live endSettle s

/-- CALIBRATE (R50): deferred while channels are calibrated; with no named channel to calibrate it ends at once. -/
def ownCalibrate : Owner := fun r s =>
  if s.lnc.line ≠ .stopped then refuse .wrongState s
  else
    match chansOfCode (byteAt r.payload 0) with
    | none => refuse .badValue s
    | some named =>
      let k := Calibration.start named s
      if k.anyUsed then ({ s with lch := { s.lch with calib := some k } }, .deferred)
      else (s, .ok false (calFields k))

/-- CALIBRATE (R50). -/
def execCalibrate (s : State) : Host.Outcome State Fault Refusal := live (dispatch .calibrate ownCalibrate) s

/-- The letter a capture armed now on channel `c` passes over: one the channel has already sampled (R47). A letter whose
scan has begun but of which the channel has taken no in-letter sample yet, its first return still awaited or the channel in
FAULT so far, is not passed over: R47's two sentences leave that open (DESIGN CHOICE, log entry 37). -/
def passedOver (c : Chan) (s : State) : Option LetterId :=
  s.scan.bind fun x => if (x.ctx.get c).sampled then some x.letter else none

/-- ARM_CAPTURE (R45). -/
def ownArmCapture : Owner := fun r s =>
  match chanOfCode (byteAt r.payload 0), triggerOfCode (byteAt r.payload 1) with
  | some c, some t =>
    let s := { s with lch := { s.lch with capture := ⟨.armed, some (c, t), none, passedOver c s, []⟩ } }
    (s, .ok false (armFields s))
  | _, _ => refuse .badValue s

/-- ARM_CAPTURE (R45). -/
def execArmCapture (s : State) : Host.Outcome State Fault Refusal := live (dispatch .armCapture ownArmCapture) s

/-- READ_CAPTURE (R49): first index 0..127 and count 1..48, clamped. -/
def ownReadCapture : Owner := fun r s =>
  if s.lch.capture.state ≠ .full then refuse .wrongState s
  else
    let first := (byteAt r.payload 0).toNat
    let count := (byteAt r.payload 1).toNat
    let first' := clampTo 0 127 first
    let count' := clampTo 1 48 count
    (s, .ok (first' != first || count' != count) (readCaptureFields first' count' s))

/-- READ_CAPTURE (R49). -/
def execReadCapture (s : State) : Host.Outcome State Fault Refusal := live (dispatch .readCapture ownReadCapture) s

/-- The named channels are changed by `f`. -/
def updateChans (named : List Chan) (f : Channel → Channel) (s : State) : State :=
  named.foldl (fun s c => updateChan c f s) s

/-- SET_COUNTER_SOURCE (R43). -/
def ownSetCounterSource : Owner := fun r s =>
  match chansOfCode (byteAt r.payload 0), sourceOfCode (byteAt r.payload 1) with
  | some named, some src =>
    let s := updateChans named (fun c => { c with source := src, counter := 0 }) s
    (s, .ok false (sourceFields named s))
  | _, _ => refuse .badValue s

/-- SET_COUNTER_SOURCE (R43). -/
def execSetCounterSource (s : State) : Host.Outcome State Fault Refusal :=
  live (dispatch .setCounterSource ownSetCounterSource) s

/-- READ_CHANNELS (R44). -/
def ownReadChannels : Owner := fun _ s => (s, .ok false (channelsFields s))

/-- READ_CHANNELS (R44). -/
def execReadChannels (s : State) : Host.Outcome State Fault Refusal := live (dispatch .readChannels ownReadChannels) s

/-- CHANNEL_RESET on one named channel (R40): out of FAULT to SEARCH while sampling, to IDLE otherwise. -/
def Channel.resetFault (sampling : Bool) (p : Profile) (c : Channel) : Channel :=
  if c.state.isFault then
    if sampling then c.toSearch p else { c with state := .idle, quiet := 0, noisy := 0 }
  else c

/-- CHANNEL_RESET (R40). -/
def ownChannelReset : Owner := fun r s =>
  match chansOfCode (byteAt r.payload 0) with
  | none => refuse .badValue s
  | some named =>
    let s := updateChans named (Channel.resetFault s.lnc.line.sampling s.prl.profile) s
    (s, .ok false (chanStateFields s))

/-- CHANNEL_RESET (R40). -/
def execChannelReset (s : State) : Host.Outcome State Fault Refusal := live (dispatch .channelReset ownChannelReset) s

end Sys2Proof.Machine
end

