-- ==== Sys2Proof/Machine/PocketCommands.lean ====
section
/-! DEFINITION. The meanings of the commands of the pocket manager: tray sensors, sweep buttons, and the requests the
pocket manager owns (chapter 6). -/

namespace Sys2Proof.Machine

/-- A sensor or button event after LOADING; during LOADING a change is taken up at its end (R134, R129). -/
def afterLoading (f : State → State) (s : State) : State := if s.lnc.line = .loading then s else f s

/-- TRAY_REMOVED (R134): the sensor of pocket `pocket` reports the tray absent. -/
def execTrayRemoved (pocket : PocketNo) (s : State) : Host.Outcome State Fault Refusal :=
  onPin (fun i => { i with tray := i.tray.set pocket false })
    (fun t => if s.inputs.tray[pocket] then afterLoading (takeRemoval pocket) t else t) s

/-- TRAY_INSERTED (R134): the sensor of pocket `pocket` reports a tray present. -/
def execTrayInserted (pocket : PocketNo) (s : State) : Host.Outcome State Fault Refusal :=
  onPin (fun i => { i with tray := i.tray.set pocket true })
    (fun t => if s.inputs.tray[pocket] then t else afterLoading (takeInsertion pocket) t) s

/-- The debounce of a sweep button starts or stops (R129). -/
def setDebounce (k : PocketNo) (running : Bool) (s : State) : State :=
  { s with pkm := { s.pkm with debounce := s.pkm.debounce.set k running } }

/-- SWEEP_BUTTON_CHANGE (R129): the button's input becomes active or inactive. -/
def execSweepButtonChange (pocket : PocketNo) (active : Bool) (s : State) : Host.Outcome State Fault Refusal :=
  onPin (fun i => { i with sweep := i.sweep.set pocket active })
    (fun t => if s.inputs.sweep[pocket] = active then t else afterLoading (setDebounce pocket active) t) s

/-- A press held for 50 ms (R129): a sweep of its pocket, ignored where the request would be refused. -/
def pressSweep (k : PocketNo) (s : State) : State :=
  if s.pkm.debounce[k] then
    let s := setDebounce k false s
    match sweepRefusal k s with
    | none => beginDraining k .sweepButton s
    | some _ => s
  else s

/-- SWEEP_BUTTON (R129). -/
def execSweepButton (pocket : PocketNo) (s : State) : Host.Outcome State Fault Refusal := live (pressSweep pocket) s

/-- SWEEP (R128). -/
def ownSweep : Owner := fun r s =>
  match pocketOfByte (byteAt r.payload 0) with
  | none => refuse .badValue s
  | some k =>
    match sweepRefusal k s with
    | some e => refuse e s
    | none =>
      let s := beginDraining k .sweepRequest s
      (s, .ok false (sweepFields k s))

/-- SWEEP (R128). -/
def execSweep (s : State) : Host.Outcome State Fault Refusal := live (dispatch .sweep ownSweep) s

/-- POCKET_OUT on a bank pocket (R137). -/
def takeOut (k : PocketNo) (s : State) : State × Answer :=
  match s.pkm.pockets[k].state with
  | .draining | .closed => refuse .wrongState s
  | .out => (s, .ok false (pocketOutFields k s))
  | .open | .full | .noTray =>
    let s := updatePocket k (fun p => { p with state := .out }) s
    (s, .ok false (pocketOutFields k s))

/-- POCKET_OUT (R137). -/
def ownPocketOut : Owner := fun r s =>
  match pocketOfByte (byteAt r.payload 0) with
  | none => refuse .badValue s
  | some k => if isBank k then takeOut k s else refuse .badValue s

/-- POCKET_OUT (R137). -/
def execPocketOut (s : State) : Host.Outcome State Fault Refusal := live (dispatch .pocketOut ownPocketOut) s

/-- POCKET_IN on a bank pocket in OUT (R138). -/
def bringIn (k : PocketNo) (s : State) : State :=
  let p := s.pkm.pockets[k]
  if p.state ≠ .out then s
  else if !p.tray then updatePocket k (fun p => { p with state := .noTray }) s
  else if s.prl.profile.limits[k] ≤ p.delivered then becomeFull k s
  else updatePocket k (fun p => { p with state := .open }) s

/-- POCKET_IN (R138). -/
def ownPocketIn : Owner := fun r s =>
  match pocketOfByte (byteAt r.payload 0) with
  | none => refuse .badValue s
  | some k =>
    if isBank k then
      let s := bringIn k s
      (s, .ok false (pocketInFields k s))
    else refuse .badValue s

/-- POCKET_IN (R138). -/
def execPocketIn (s : State) : Host.Outcome State Fault Refusal := live (dispatch .pocketIn ownPocketIn) s

/-- READ_POCKETS (R143). -/
def ownReadPockets : Owner := fun _ s => (s, .ok false (pocketsFields s))

/-- READ_POCKETS (R143). -/
def execReadPockets (s : State) : Host.Outcome State Fault Refusal := live (dispatch .readPockets ownReadPockets) s

/-- TAKE_TRAY (R133). -/
def ownTakeTray : Owner := fun _ s =>
  match s.pkm.log with
  | [] => (s, .ok false (u8 0))
  | t :: rest => ({ s with pkm := { s.pkm with log := rest } }, .ok false (1 :: trayBytes t))

/-- TAKE_TRAY (R133). -/
def execTakeTray (s : State) : Host.Outcome State Fault Refusal := live (dispatch .takeTray ownTakeTray) s

/-- READ_TALLIES (R142). -/
def ownReadTallies : Owner := fun _ s => (s, .ok false (tallyFields s))

/-- READ_TALLIES (R142). -/
def execReadTallies (s : State) : Host.Outcome State Fault Refusal := live (dispatch .readTallies ownReadTallies) s

/-- CLEAR_SHIFT (R142). -/
def ownClearShift : Owner := fun _ s =>
  if s.lnc.line.sampling then refuse .wrongState s
  else ({ s with pkm := { s.pkm with tallies := Vector.replicate 34 0 } }, .ok false [])

/-- CLEAR_SHIFT (R142). -/
def execClearShift (s : State) : Host.Outcome State Fault Refusal := live (dispatch .clearShift ownClearShift) s

end Sys2Proof.Machine
end

