-- ==== Sys2Proof/Machine/ProfileCommands.lean ====
section
/-! DEFINITION. The meanings of the commands of the profile loader: identification, the RESET request and its reset,
reading and writing fields, and the store write (chapter 9). -/

namespace Sys2Proof.Machine

/-- IDENTIFY (R200). -/
def ownIdentify : Owner := fun _ s => (s, .ok false (identifyFields s))

/-- IDENTIFY (R200). -/
def execIdentify (s : State) : Host.Outcome State Fault Refusal := live (dispatch .identify ownIdentify) s

/-- RESET (R198): accepted in STOPPED, STANDBY, and FAULTED with the belt still. -/
def ownReset : Owner := fun _ s =>
  let accepted := match s.lnc.line with
    | .stopped | .standby => true
    | .faulted => !s.trk.moving
    | .loading | .starting | .running | .stopping => false
  if accepted then (updateLink (fun k => { k with resetPending := true }) s, .ok false []) else refuse .wrongState s

/-- Behind an accepted RESET every waiting request is answered NOT_READY in its arrival order, and the request queue is
emptied (R178). -/
def answerBehind (s : State) : State :=
  if s.lki.resetPending then
    s.lki.requests.foldl (fun s r => pushAnswer r.kind r.tag (.error .notReady 0) s)
      (updateLink (fun k => { k with requests := [] }) s)
  else s

/-- RESET (R178, R198). -/
def execReset (s : State) : Host.Outcome State Fault Refusal :=
  live (fun s => answerBehind (dispatch .reset ownReset s)) s

/-- SOFT_RESET (R178, R198). -/
def execSoftReset (s : State) : Host.Outcome State Fault Refusal := live actReset s

/-- The fields of a GET_FIELD or SET_FIELD reply: the field number and the value in its link coding (R175). -/
def fieldReply (n : Nat) (p : Profile) : List Byte :=
  u8 n ++ match p.field n with
    | some v => v.linkBytes
    | none => []

/-- GET_FIELD (R194). -/
def ownGetField : Owner := fun r s => (s, .ok false (fieldReply (byteAt r.payload 0).toNat s.prl.profile))

/-- GET_FIELD (R194). -/
def execGetField (s : State) : Host.Outcome State Fault Refusal := live (dispatch .getField ownGetField) s

/-- The line states in which a field can be written (R195): F71 and F72 in every state after LOADING, F49 to F64 in
STOPPED, the others in STOPPED and STANDBY. -/
def fieldWritable (n : Nat) (line : LineState) : Bool :=
  if n = 71 ∨ n = 72 then line != .loading
  else if 49 ≤ n ∧ n ≤ 64 then line == .stopped
  else line == .stopped || line == .standby

/-- A class list field (F60 to F64). -/
def isClassField (n : Nat) : Bool := 60 ≤ n && n ≤ 64

/-- The pocket of a limit field (F49 to F58). -/
def limitPocket (n : Nat) : Option PocketNo := if h : 49 ≤ n ∧ n ≤ 58 then some ⟨n - 49, by omega⟩ else none

/-- The wake debounce after a write of AUTOWAKE (R165): turned on it may start, turned off it stops. -/
def refreshWake (s : State) : State := if s.prl.profile.autowake then startWake s else stopWake s

/-- The owners' follow-on effects of a field's new value (R195); `old` is the profile before the write. -/
def fieldEffects (n : Nat) (old : Profile) (s : State) : State :=
  match limitPocket n with
  | some k => applyLimit k (raiseLimit k s)
  | none =>
    if isClassField n then adoptClasses (fun k => s.prl.profile.mappedClass k != old.mappedClass k) s
    else if n = 48 then refreshHeadDown s
    else if n = 69 then refreshWake s
    else s

/-- The stored value of field `n` differs from the value `v` that was to be stored: a limit has been raised (R140). -/
def raisedFrom (n : Nat) (v : FieldValue) (s : State) : Bool := s.prl.profile.field n != some v

/-- SET_FIELD on a field of a known shape (R195). -/
def writeField (n : Nat) (sh : FieldShape) (bs : List Byte) (s : State) : State × Answer :=
  if !fieldWritable n s.lnc.line then refuse .wrongState s
  else
    match sh.ofLink bs with
    | none => refuse .badValue s
    | some (v, clamped) =>
      let old := s.prl.profile
      let new := old.setField n v
      if isClassField n && classInUse new s then refuse .inUse s
      else
        let s := fieldEffects n old (updateProfile (fun _ => new) s)
        (s, .ok (clamped || raisedFrom n v s) (fieldReply n s.prl.profile))

/-- SET_FIELD (R195). -/
def ownSetField : Owner := fun r s =>
  let n := (byteAt r.payload 0).toNat
  match fieldShape n with
  | none => refuse .badValue s
  | some sh => writeField n sh (r.payload.drop 1) s

/-- SET_FIELD (R195). -/
def execSetField (s : State) : Host.Outcome State Fault Refusal := live (dispatch .setField ownSetField) s

/-- WRITE_PROFILE (R196): the image is composed from the working profile as it stands, and its reply is deferred. -/
def ownWriteProfile : Owner := fun _ s =>
  if s.prl.source = .builtin then refuse .noStore s
  else if s.lnc.line ≠ .stopped ∧ s.lnc.line ≠ .standby then refuse .wrongState s
  else (updateLoader (fun r => { r with store := .waiting (imageOf r.profile) }) s, .deferred)

/-- WRITE_PROFILE (R196). -/
def execWriteProfile (s : State) : Host.Outcome State Fault Refusal := live (dispatch .writeProfile ownWriteProfile) s

/-- STORE_NOT_BUSY (R196). -/
def execStoreNotBusy (s : State) : Host.Outcome State Fault Refusal := live storeNotBusy s

/-- STORE_PAGE_DONE (R196). -/
def execStorePageDone (s : State) : Host.Outcome State Fault Refusal := live storePageDone s

/-- STORE_WRITE_NO_RESPONSE (R196). -/
def execStoreWriteNoResponse (s : State) : Host.Outcome State Fault Refusal := live storeWriteNoResponse s

/-- STORE_VERIFY_DONE (R196). -/
def execStoreVerifyDone (readBack : List Byte) (s : State) : Host.Outcome State Fault Refusal :=
  live (storeVerifyDone readBack) s

end Sys2Proof.Machine
end

