-- ==== Sys2Proof/Machine/Dispatch.lean ====
section
/-! DEFINITION. One arm for each command: the call of its meaning. -/

namespace Sys2Proof.Machine

/-- The effect of a command on everything but the queue of waiting commands. -/
def exec (i : Instr) (s : State) : Host.Outcome State Fault Refusal :=
  match i with
  | .resetNAssert => Sys2Proof.Machine.execResetNAssert s
  | .resetNRelease straps => Sys2Proof.Machine.execResetNRelease straps s
  | .profileLoadEnd image => Sys2Proof.Machine.execProfileLoadEnd image s
  | .storeLoadNoResponse => Sys2Proof.Machine.execStoreLoadNoResponse s
  | .encPulse => Sys2Proof.Machine.execEncPulse s
  | .speedWindowEnd => Sys2Proof.Machine.execSpeedWindowEnd s
  | .beltStill => Sys2Proof.Machine.execBeltStill s
  | .e0LeEdge => Sys2Proof.Machine.execE0LeEdge s
  | .e0TeEdge => Sys2Proof.Machine.execE0TeEdge s
  | .eyeLeEdge eye => Sys2Proof.Machine.execEyeLeEdge eye s
  | .longPoint => Sys2Proof.Machine.execLongPoint s
  | .blockedPoint => Sys2Proof.Machine.execBlockedPoint s
  | .expiryPoint id eye => Sys2Proof.Machine.execExpiryPoint id eye s
  | .setupPoint id gate => Sys2Proof.Machine.execSetupPoint id gate s
  | .releasePoint gate => Sys2Proof.Machine.execReleasePoint gate s
  | .flash => Sys2Proof.Machine.execFlash s
  | .pairPoint => Sys2Proof.Machine.execPairPoint s
  | .verdictLimit => Sys2Proof.Machine.execVerdictLimit s
  | .fireStart head => Sys2Proof.Machine.execFireStart head s
  | .fireEnd head => Sys2Proof.Machine.execFireEnd head s
  | .recoveryEnd head => Sys2Proof.Machine.execRecoveryEnd head s
  | .pocketDecisionPoint id => Sys2Proof.Machine.execPocketDecisionPoint id s
  | .sampleReturn face upper lower => Sys2Proof.Machine.execSampleReturn face upper lower s
  | .timeout face => Sys2Proof.Machine.execTimeout face s
  | .calibrationFlash => Sys2Proof.Machine.execCalibrationFlash s
  | .settleEnd => Sys2Proof.Machine.execSettleEnd s
  | .headFault head active => Sys2Proof.Machine.execHeadFault head active s
  | .estop active => Sys2Proof.Machine.execEstop active s
  | .feedloadActive => Sys2Proof.Machine.execFeedloadActive s
  | .feedloadInactive => Sys2Proof.Machine.execFeedloadInactive s
  | .wake => Sys2Proof.Machine.execWake s
  | .startTimeout => Sys2Proof.Machine.execStartTimeout s
  | .drainTimeout => Sys2Proof.Machine.execDrainTimeout s
  | .stopFail => Sys2Proof.Machine.execStopFail s
  | .trayRemoved pocket => Sys2Proof.Machine.execTrayRemoved pocket s
  | .trayInserted pocket => Sys2Proof.Machine.execTrayInserted pocket s
  | .sweepButtonChange pocket active => Sys2Proof.Machine.execSweepButtonChange pocket active s
  | .sweepButton pocket => Sys2Proof.Machine.execSweepButton pocket s
  | .goodFrame bytes => Sys2Proof.Machine.execGoodFrame bytes s
  | .badFrame bytes framingError => Sys2Proof.Machine.execBadFrame bytes framingError s
  | .interByteTimeout => Sys2Proof.Machine.execInterByteTimeout s
  | .unknownKind => Sys2Proof.Machine.execUnknownKind s
  | .replySend => Sys2Proof.Machine.execReplySend s
  | .eventNotice => Sys2Proof.Machine.execEventNotice s
  | .letterReportSend => Sys2Proof.Machine.execLetterReportSend s
  | .softReset => Sys2Proof.Machine.execSoftReset s
  | .identify => Sys2Proof.Machine.execIdentify s
  | .getStatus => Sys2Proof.Machine.execGetStatus s
  | .poll => Sys2Proof.Machine.execPoll s
  | .reset => Sys2Proof.Machine.execReset s
  | .start => Sys2Proof.Machine.execStart s
  | .stop => Sys2Proof.Machine.execStop s
  | .standby => Sys2Proof.Machine.execStandby s
  | .clearFault => Sys2Proof.Machine.execClearFault s
  | .holdFeed => Sys2Proof.Machine.execHoldFeed s
  | .releaseFeed => Sys2Proof.Machine.execReleaseFeed s
  | .setPostmark => Sys2Proof.Machine.execSetPostmark s
  | .getPostmark => Sys2Proof.Machine.execGetPostmark s
  | .headReset => Sys2Proof.Machine.execHeadReset s
  | .headDisable => Sys2Proof.Machine.execHeadDisable s
  | .headEnable => Sys2Proof.Machine.execHeadEnable s
  | .calibrate => Sys2Proof.Machine.execCalibrate s
  | .armCapture => Sys2Proof.Machine.execArmCapture s
  | .readCapture => Sys2Proof.Machine.execReadCapture s
  | .setCounterSource => Sys2Proof.Machine.execSetCounterSource s
  | .readChannels => Sys2Proof.Machine.execReadChannels s
  | .channelReset => Sys2Proof.Machine.execChannelReset s
  | .sweep => Sys2Proof.Machine.execSweep s
  | .pocketOut => Sys2Proof.Machine.execPocketOut s
  | .pocketIn => Sys2Proof.Machine.execPocketIn s
  | .readPockets => Sys2Proof.Machine.execReadPockets s
  | .takeTray => Sys2Proof.Machine.execTakeTray s
  | .readTallies => Sys2Proof.Machine.execReadTallies s
  | .clearShift => Sys2Proof.Machine.execClearShift s
  | .getField => Sys2Proof.Machine.execGetField s
  | .setField => Sys2Proof.Machine.execSetField s
  | .writeProfile => Sys2Proof.Machine.execWriteProfile s
  | .storeWriteNoResponse => Sys2Proof.Machine.execStoreWriteNoResponse s
  | .storePageDone => Sys2Proof.Machine.execStorePageDone s
  | .storeVerifyDone readBack => Sys2Proof.Machine.execStoreVerifyDone readBack s
  | .setEventMask => Sys2Proof.Machine.execSetEventMask s
  | .clearEvents => Sys2Proof.Machine.execClearEvents s
  | .setReportMode => Sys2Proof.Machine.execSetReportMode s
  | .storeNotBusy => Sys2Proof.Machine.execStoreNotBusy s

end Sys2Proof.Machine
end

