-- ==== Sys2Proof/Machine/Step.lean ====
section
/-! DEFINITION. One step of the block: the command at the front of the queue is taken, and on an empty queue the block
idles while a frame being sent comes to its end (log entry 4). -/

namespace Sys2Proof.Machine

/-- The state with the queue `q`. -/
def State.withPending (s : State) (q : List Instr) : State := { s with pending := q }

/-- The command `c` put at the front of the queue. -/
def State.push (c : Instr) (s : State) : State := s.withPending (c :: s.pending)

/-- One step: the command at the front of the queue is run on the state with the queue's rest. With no command waiting,
time passes until a frame being sent on TXD has ended; nothing else changes (DESIGN CHOICE, log entry 4). -/
def step (s : State) : Host.Outcome State Fault Refusal :=
  match s.pending with
  | [] => .next (endSending s)
  | c :: rest => exec c (s.withPending rest)

/-- The state with the command a word spells put at the front of its queue; unchanged where the word spells none (log
entry 23). -/
def State.withFetchWord (s : State) (nbits w : Nat) : State :=
  match Sys2Proof.decodeTableWord nbits w with
  | some c => s.push c
  | none => s

end Sys2Proof.Machine
end

