-- ==== Sys2Proof/Safety.lean ====
section
/-! DEFINITION. The words that claims about the LF-240 are stated in: what a command leaves as it was, what a request
needs to be served, what an entry to FAULTED does, and what holds in every state a run reaches. -/

namespace Sys2Proof.Machine

/-! ### What stays as it was -/

/-- A part of the state: the pins, one of the nine blocks (the run formers as `scan`, the facing unit as `held`), the
held reset, or the queue of waiting commands. -/
inductive Block where
  | inReset | inputs | trk | lch | scan | held | cnu | pkm | lnc | lki | prl | pending
deriving DecidableEq, Repr

/-- The part `b` is the same in both states. -/
def Same (b : Block) (s t : State) : Prop :=
  match b with
  | .inReset => t.inReset = s.inReset
  | .inputs => t.inputs = s.inputs
  | .trk => t.trk = s.trk
  | .lch => t.lch = s.lch
  | .scan => t.scan = s.scan
  | .held => t.held = s.held
  | .cnu => t.cnu = s.cnu
  | .pkm => t.pkm = s.pkm
  | .lnc => t.lnc = s.lnc
  | .lki => t.lki = s.lki
  | .prl => t.prl = s.prl
  | .pending => t.pending = s.pending

/-- Every part but those of `changed` is as it was. -/
def ChangesOnly (changed : List Block) (s t : State) : Prop := ∀ b, b ∉ changed → Same b s t

/-- The link interface is as it was but for its pending events and the notice that they make due. -/
def OnlyEvents (s t : State) : Prop :=
  t.lki = { s.lki with events := t.lki.events, noticeDue := t.lki.noticeDue }

/-- The kinds `ks` have become pending and no other kind has changed; the rest of the link interface is as it was but
for the notice due (R183, R185). -/
def Raised (ks : List EventKind) (s t : State) : Prop :=
  OnlyEvents s t ∧ t.lki.events = ks.foldl (fun e k => e ||| k.bit) s.lki.events

/-! ### Requests (R173, R176) -/

/-- The command whose row is the request kind `k`. -/
def ReqKind.command : ReqKind → Instr
  | .identify => .identify
  | .getStatus => .getStatus
  | .poll => .poll
  | .reset => .reset
  | .start => .start
  | .stop => .stop
  | .standby => .standby
  | .clearFault => .clearFault
  | .holdFeed => .holdFeed
  | .releaseFeed => .releaseFeed
  | .setPostmark => .setPostmark
  | .getPostmark => .getPostmark
  | .headReset => .headReset
  | .headDisable => .headDisable
  | .headEnable => .headEnable
  | .calibrate => .calibrate
  | .armCapture => .armCapture
  | .readCapture => .readCapture
  | .setCounterSource => .setCounterSource
  | .readChannels => .readChannels
  | .channelReset => .channelReset
  | .sweep => .sweep
  | .pocketOut => .pocketOut
  | .pocketIn => .pocketIn
  | .readPockets => .readPockets
  | .takeTray => .takeTray
  | .readTallies => .readTallies
  | .clearShift => .clearShift
  | .getField => .getField
  | .setField => .setField
  | .writeProfile => .writeProfile
  | .setEventMask => .setEventMask
  | .clearEvents => .clearEvents
  | .setReportMode => .setReportMode

/-- The request `r`, of kind `k`, stands at the front of the request queue and can be dispatched: no reset is held or
waits, no reply is deferred, and the reply queue has room (R173, R176, R178). -/
structure Ready (k : ReqKind) (r : Request) (rest : List Request) (s : State) : Prop where
  out : s.inReset = false
  front : s.lki.requests = r :: rest
  kind : r.kind = k.code
  room : dispatchable r s = true
  noReset : s.lki.resetPending = false

/-- The request is ready, and the link interface finds its tag, its length and the line state in order, so that its
owner decides it (R173). -/
structure Served (k : ReqKind) (r : Request) (rest : List Request) (s : State) : Prop extends Ready k r rest s where
  taken : linkRefusal k r s = none

/-- The place that an answer to `r` takes in the reply queue (R176, R177). -/
def placeOf (r : Request) : Answer → ReplyPlace
  | .ok clamped fields => .composed (answerFrame r.kind r.tag (.ok clamped fields))
  | .error code detail => .composed (answerFrame r.kind r.tag (.error code detail))
  | .deferred => .reserved r.kind r.tag

/-- The front request has left the request queue, and its answer stands last in the reply queue (R173, R176). -/
def answered (r : Request) (rest : List Request) (a : Answer) (s : State) : State :=
  { s with lki := { s.lki with requests := rest, replies := s.lki.replies ++ [placeOf r a] } }

/-- The request is refused with the error code and the detail byte 0, and nothing else changes (R173). -/
def refused (r : Request) (rest : List Request) (e : ErrorCode) (s : State) : State :=
  answered r rest (.error e 0) s

/-- The part of the link interface that a request's own effect and its reply leave as they were: all but the two
queues, the pending events and the notice. -/
def LinkKept (s t : State) : Prop :=
  t.lki = { s.lki with requests := t.lki.requests, replies := t.lki.replies, events := t.lki.events,
                       noticeDue := t.lki.noticeDue }

/-! ### Characters on RXD (R168) -/

/-- The receiver hears the characters: the part is not sending, or the wiring mode is FULL, or none of them comes while
the part is sending. -/
def Heard (rx : RxChars) (s : State) : Prop :=
  s.lki.sending = true → s.lki.mode = .half → rx.overlap = 0

/-- How often DE has fallen at the end of a frame once the frame being sent, if there is one, has ended (R167). -/
def fallsAfter (k : Link) : Nat := if k.mode = .half ∧ k.sending = true then k.deFalls + 1 else k.deFalls

/-- The link interface after `n` characters have been heard: a frame that was being sent is still under way when all of
them came during it (R167). -/
def afterChars (n : Nat) (rx : RxChars) (s : State) : Link :=
  { s.lki with
    sending := s.lki.sending && decide (n ≤ rx.overlap)
    deFalls := if n ≤ rx.overlap then s.lki.deFalls else fallsAfter s.lki }

/-! ### Verdicts (R76 to R88) -/

/-- The print of STAMP letter `l`, of orientation `o` with the chosen run `run`, has been placed with the impression of the
postmark settings, dated `d`, and handed to the head of its orientation, which answers in the order of R101 (R87, R97, R98,
R99, R101, R120). `m` is the letter's record in `t`. -/
def PrintPlaced (o : Orientation) (run : ChosenRun) (d : Date) (l m : Letter) (s t : State) : Prop :=
  ∀ (span : Nat × Nat) (x : PrintPart) (u : HeadUnit) (start : Pos),
    span = printSpan s.prl.profile o.cls (l.length.getD 0).toNat run.start run.length →
    x = ⟨o.head, span.1, span.2, ⟨d, s.cnu.timeMark, s.cnu.office⟩⟩ →
    u = s.cnu.heads.get o.head → start = l.lePos + BitVec.ofNat 32 (s.prl.profile.cPos + x.ps) →
    (u.state = .fault ∨ u.state = .off ∨ u.offPending = true →
      m.cancel = some ⟨.headDown, none, some x, none⟩ ∧ t.cnu = s.cnu ∧
      tally .headDown t = min (tally .headDown s + 1) 4294967295) ∧
    (u.state ≠ .fault → u.state ≠ .off → u.offPending = false →
      (16 ≤ u.queue.length →
        m.cancel = some ⟨.missed, some .queueFull, some x, none⟩ ∧ t.cnu = s.cnu ∧
        tally .missed t = min (tally .missed s + 1) 4294967295) ∧
      (∀ e, u.queue.length < 16 → previousEnd u s = some e →
        reached start (e + BitVec.ofNat 32 s.prl.profile.h) = false →
        m.cancel = some ⟨.missed, some .tooClose, some x, none⟩ ∧ t.cnu = s.cnu ∧
        tally .missed t = min (tally .missed s + 1) 4294967295) ∧
      (u.queue.length < 16 →
        (∀ e, previousEnd u s = some e → reached start (e + BitVec.ofNat 32 s.prl.profile.h) = true) →
        m.cancel = some ⟨.scheduled, none, some x, none⟩ ∧
        t.cnu = { s.cnu with heads := s.cnu.heads.set o.head { u with queue := u.queue ++ [l.id] } } ∧
        tally .missed t = tally .missed s ∧ tally .headDown t = tally .headDown s))

/-- Pocket `k` once it has been given `n` more letters: they are pending, and a CLOSED pocket 0 or 9 has reopened as a
fresh tray without a class, with the tray number advanced at its close (R121, R122). -/
def givenLetters (k : PocketNo) (n : Nat) (p : Pocket) : Pocket :=
  if n = 0 then p
  else if p.state = .closed ∧ (k = 0 ∨ k = 9) then
    ⟨.open, 0, p.pending + n, p.trayNo, none, none, none, none, none, none, none, p.tray⟩
  else { p with pending := p.pending + n }

/-- The verdict `v` of letter `l` has been written and counted, and the letter handed on: a STAMP to its head, any other
without a print, and a culled one to pocket 0; the pocket decision point of a MAIN letter is set up (R75, R85, R86, R87,
R88, R121, R122). `m` is the letter's record in `t`. -/
structure VerdictWritten (v : Verdict) (l m : Letter) (s t : State) : Prop where
  verdict : m.verdict = some v ∧ m.route = some (routeOf v)
  held : t.held ≠ some l.id
  counted : tally v.tally t = min (tally v.tally s + 1) 4294967295
  print : ∀ o run d, v.kind = .stamp → v.orientation = some o → v.chosen = some run → s.cnu.date = some d →
    PrintPlaced o run d l m s t
  notRequired : v.kind ≠ .stamp → m.cancel = some ⟨.notRequired, none, none, none⟩ ∧ t.cnu = s.cnu
  culled : routeOf v = .cull → m.dest = some ⟨0, none⟩ ∧ m.pdecPoint = none ∧
    t.pkm.pockets = s.pkm.pockets.set 0 (givenLetters 0 1 s.pkm.pockets[0])
  main : routeOf v ≠ .cull → m.dest = l.dest ∧ t.pkm.pockets = s.pkm.pockets ∧
    m.pdecPoint = some (l.lePos + BitVec.ofNat 32 s.prl.profile.pdecPos)

/-- The verdict REJECT with CLOSE_PAIR (R78). -/
def closePairReject : Verdict := ⟨.reject, none, ⟨false, false, false, true, false, false, false, false⟩, none⟩

/-- The scan of letter `l` has completed with the channel results `res`, and its verdict is made or held: rejected by its
flags, by a successor that carries CLOSE, or at its verdict limit; judged by its runs with another successor or at its
pair point; and held otherwise (R70, R76, R77, R78). -/
def ScanJudged (res : PerChan ChanResult) (l : Letter) (s t : State) : Prop :=
  ∃ m, findLetter l.id t = some m ∧ m.results = some res ∧ m.length = l.length ∧ m.flags = l.flags ∧
    (l.flags.short = true ∨ l.flags.long = true ∨ l.flags.close = true → VerdictWritten
      ⟨.reject, none, ⟨l.flags.short, l.flags.long, l.flags.close, false, false, false, false, false⟩, none⟩ l m s t) ∧
    (l.flags.short = false → l.flags.long = false → l.flags.close = false →
      (∀ n, successor l.id s.trk.letters = some n → n.flags.close = true → VerdictWritten closePairReject l m s t) ∧
      (∀ n, successor l.id s.trk.letters = some n → n.flags.close = false →
        VerdictWritten (judgeRuns s.prl.profile res (l.length.getD 0)) l m s t) ∧
      (successor l.id s.trk.letters = none → due s.trk.belt (pairPointOf s.prl.profile l) = true →
        VerdictWritten (judgeRuns s.prl.profile res (l.length.getD 0)) l m s t) ∧
      (successor l.id s.trk.letters = none → due s.trk.belt (pairPointOf s.prl.profile l) = false →
        (reached s.trk.belt (verdictLimitOf s.prl.profile l) = true → VerdictWritten closePairReject l m s t) ∧
        (reached s.trk.belt (verdictLimitOf s.prl.profile l) = false →
          t.held = some l.id ∧ m.verdict = l.verdict ∧ m.route = l.route ∧ m.cancel = l.cancel ∧ m.dest = l.dest ∧
          t.cnu = s.cnu ∧ t.pkm = s.pkm)))

/-- The result of a channel whose letter context stands as `k` once its open run is closed (R64, R70). -/
def resultAfter (p : Profile) (blind : Bool) (k : RunContext) : ChanResult :=
  ⟨blind, (closeRun p k).1.runs, (closeRun p k).1.overflow, (closeRun p k).1.coated, (closeRun p k).1.bright⟩

/-- The context once its last step has passed without a sample (R58, R63). -/
def lastStep (p : Profile) (k : RunContext) : RunContext := if k.awaiting then (emptyStep p k).1 else k

/-- A channel with each of the fates and classes counted that is its counter's source (R42, R68). -/
def counted (fates : List CounterSource) (c : Channel) : Channel :=
  fates.foldl (fun c src => if c.source = src then { c with counter := min (c.counter + 1) 65535 } else c) c

/-! ### Gates (R23, R24) -/

/-- Letter `id` has given gate `g` up: the oldest other letter that has reached its setup point and not owned it takes it,
or it is driven to rest (R24). That a taker whose own release point is reached releases the gate in its turn is stated of
the releases themselves. -/
def GateGivenUp (g : GateId) (id : LetterId) (s t : State) : Prop :=
  ((∀ x ∈ s.trk.letters, x.id ≠ id → g ∈ x.setupReached → g ∈ x.owned) → gateOf g t = ⟨none, false⟩) ∧
  ∀ n, (s.trk.letters.find? fun x => x.id != id && decide (g ∈ x.setupReached) && !decide (g ∈ x.owned)) = some n →
    due s.trk.belt (releasePointOf s.prl.profile n g) = false →
    gateOf g t = ⟨some ⟨n.id, requiredSetting n g, releasePointOf s.prl.profile n g⟩, requiredSetting n g⟩

/-- Letter `l` has been removed: a gate that it owns keeps its owner where that has a release point, and is released
otherwise (R24). -/
def GatesLeft (l : Letter) (s t : State) : Prop :=
  ∀ g o, (gateOf g s).owner = some o → o.id = l.id →
    (o.release ≠ none → gateOf g t = gateOf g s) ∧ (o.release = none → GateGivenUp g l.id s t)

/-- The length `len` of letter `l` has become known: each gate that it owns has its release point set, and is released at
once where the belt has reached that point (R2, R23). The letter is taken as one that has owned the gates it owns. -/
def GatesMeasured (l : Letter) (len : Int) (s t : State) : Prop :=
  ∀ g o point, (gateOf g s).owner = some o → o.id = l.id → (∀ x ∈ s.trk.letters, x.id = l.id → g ∈ x.owned) →
    point = l.lePos + BitVec.ofNat 32 (s.prl.profile.gateOffset g) + BitVec.ofInt 32 len →
    (reached s.trk.belt point = false →
      gateOf g t = { gateOf g s with owner := some { o with release := some point } }) ∧
    (reached s.trk.belt point = true → GateGivenUp g l.id s t)

/-! ### Trays (R124, R130, R131) -/

/-- The pocket after the close of its tray: CLOSED, its counts and letters cleared, its tray number counted up
(R118, R130). -/
def Pocket.closedTray (p : Pocket) : Pocket :=
  { p with
    state := .closed
    trayNo := if p.trayNo = 65535 then 1 else p.trayNo + 1
    delivered := 0, firstId := none, lastId := none, firstSeq := none, lastSeq := none, firstDate := none
    reason := none }

/-- The tray log has a free slot (R132). -/
def SlotFree (s : State) : Prop := s.pkm.log.length + reservations s < 16

/-- Bank pocket `k`, standing as `p`, has become FULL (R124): POCKET_FULL is pending, and with AUTO_CLOSE on and a free
slot its tray is drained, and closed at once where nothing is pending. -/
structure BecameFull (k : PocketNo) (p : Pocket) (s t : State) : Prop where
  event : EventSet.has t.lki.events .pocketFull = true
  stays : s.prl.profile.autoClose = false ∨ ¬ SlotFree s →
    t.pkm.pockets[k] = { p with state := .full } ∧ t.pkm.log = s.pkm.log ∧ tally .traysClosed t = tally .traysClosed s
  closes : s.prl.profile.autoClose = true → SlotFree s → p.pending = 0 →
    t.pkm.pockets[k] = p.closedTray ∧ t.pkm.log = s.pkm.log ++ [makeTrayRecord k p .full] ∧
    tally .traysClosed t = min (tally .traysClosed s + 1) 4294967295 ∧
    EventSet.has t.lki.events .trayClosed = true
  drains : s.prl.profile.autoClose = true → SlotFree s → p.pending ≠ 0 →
    t.pkm.pockets[k] = { p with state := .draining, reason := some .full } ∧ t.pkm.log = s.pkm.log

/-- Pocket `k`, standing as `p` after a letter of it has been counted, has stayed as it is, or has closed where it was
DRAINING and `p` has nothing pending (R130). -/
structure SettledDraining (k : PocketNo) (p : Pocket) (s t : State) : Prop where
  stays : p.state ≠ .draining ∨ p.pending ≠ 0 →
    t.pkm.pockets[k] = p ∧ t.pkm.log = s.pkm.log ∧ tally .traysClosed t = tally .traysClosed s
  closes : p.state = .draining → p.pending = 0 →
    t.pkm.pockets[k] = p.closedTray ∧
    t.pkm.log = s.pkm.log ++ [makeTrayRecord k p (p.reason.getD .sweepRequest)] ∧
    tally .traysClosed t = min (tally .traysClosed s + 1) 4294967295 ∧
    EventSet.has t.lki.events .trayClosed = true

/-! ### FAULTED (R160, R161) -/

/-- The letters of the transport list whose destination is pocket `k`. -/
def lettersTo (k : PocketNo) (s : State) : Nat :=
  (s.trk.letters.filter fun l => l.dest.map Destination.pocket == some k).length

/-- Pocket `k` is DRAINING, and the loss of every letter of the list takes its pending count to 0 (R130, R144). -/
def closesAtFault (k : PocketNo) (s : State) : Prop :=
  (s.pkm.pockets[k]).state = .draining ∧ 0 < lettersTo k s ∧ (s.pkm.pockets[k]).pending ≤ lettersTo k s

/-- The reports that the report mode calls for when every letter of the list is lost at FAULTED entry, oldest first
(R28, R179). -/
def lossReports (s : State) : List LetterReport :=
  (s.trk.letters.filter fun l => reportCalled s.prl.profile.reportMode l .lostFault).map fun l => reportOf l .lostFault

/-- A head after FAULTED entry: its queue empty, and a print in progress aborted, with the head RECOVERING until H
beyond the belt position (R115); with the belt still it takes R116 at once (R161). -/
def HeadUnit.atFault (s : State) (u : HeadUnit) : HeadUnit :=
  let v : HeadUnit :=
    if u.state = .printing then { u with
      state := .recovering, queue := [], printing := none, fireEnd := none
      recoveryEnd := some (s.trk.belt + BitVec.ofNat 32 s.prl.profile.h), recoveringFrom := u.printing }
    else { u with queue := [] }
  if s.trk.moving then v
  else if v.state = .recovering then
    { v with
      recoveryEnd := none, recoveringFrom := none, state := if v.offPending then .off else .ready, offPending := false }
  else { v with recoveryEnd := none, recoveringFrom := none }

/-- The line has entered FAULTED with the cause, and every block has taken the entry (R28, R48, R55, R73, R91, R115,
R125, R144, R160, R161, R179, R180). -/
structure FaultedEntry (cause : LineCause) (s t : State) : Prop where
  line : t.lnc.line = .faulted
  reason : t.lnc.reason = some ⟨cause, s.lnc.line⟩
  timers : t.lnc.startTimer = none ∧ t.lnc.drainTimer = .off ∧ t.lnc.stopTimer = none ∧ t.lnc.wake = none
  operator : t.lnc.hold.operator = s.lnc.hold.operator
  events : EventSet.has t.lki.events .lineState = true ∧ EventSet.has t.lki.events .fault = true
  letters : t.trk.letters = []
  measuring : t.trk.measuring = none
  gates : t.trk.gates = Vector.replicate 10 .atRest
  belt : t.trk.belt = s.trk.belt ∧ t.trk.nextId = s.trk.nextId ∧ t.trk.lastTe = s.trk.lastTe ∧
    t.trk.speed = s.trk.speed ∧ t.trk.windowCount = s.trk.windowCount ∧ t.trk.moving = s.trk.moving
  contexts : t.scan = none ∧ t.held = none
  sampling : t.lch.outstanding = .all false ∧ t.lch.flashDue = none ∧ t.lch.calib = none
  channels : ∀ c, t.lch.chans.get c =
    if s.trk.moving = true ∨ (s.lch.chans.get c).state.isFault = true then s.lch.chans.get c
    else { s.lch.chans.get c with state := .idle, quiet := 0, noisy := 0 }
  capture : t.lch.capture = if s.lch.capture.state = .armed ∨ s.lch.capture.state = .filling
    then ⟨.empty, none, none, none, []⟩ else s.lch.capture
  heads : ∀ h, t.cnu.heads.get h = (s.cnu.heads.get h).atFault s
  postmark : t.cnu.date = s.cnu.date ∧ t.cnu.timeMark = s.cnu.timeMark ∧ t.cnu.office = s.cnu.office ∧
    t.cnu.waiting = s.cnu.waiting ∧ t.cnu.lastFire = s.cnu.lastFire
  losses : tally .lostFault t = s.trk.letters.foldl (fun n _ => min (n + 1) 4294967295) (tally .lostFault s)
  tallies : ∀ x, x ≠ .lostFault → x ≠ .traysClosed → tally x t = tally x s
  pockets : ∀ k : PocketNo,
    (closesAtFault k s → t.pkm.pockets[k] = { (s.pkm.pockets[k]).closedTray with pending := 0 }) ∧
    (¬ closesAtFault k s → t.pkm.pockets[k] =
      { s.pkm.pockets[k] with pending := (s.pkm.pockets[k]).pending - lettersTo k s })
  log : ∃ xs, t.pkm.log = s.pkm.log ++ xs ∧ ∀ x, x ∈ xs ↔ ∃ k : PocketNo, closesAtFault k s ∧
    x = makeTrayRecord k s.pkm.pockets[k] ((s.pkm.pockets[k]).reason.getD .sweepRequest)
  reports : t.lki.reports = s.lki.reports ++ (lossReports s).take (64 - s.lki.reports.length)
  dropped : t.lki.dropped =
      ((lossReports s).drop (64 - s.lki.reports.length)).foldl (fun n _ => min (n + 1) 65535) s.lki.dropped ∧
    (64 - s.lki.reports.length < (lossReports s).length → EventSet.has t.lki.events .reportsDropped = true)
  kept : ChangesOnly [.trk, .lch, .scan, .held, .cnu, .pkm, .lnc, .lki] s t

/-! ### Calibration (R54) -/

/-- An abandoned calibration: each channel not yet decided has the result ABORTED and its old gain (R54). -/
def Calibration.aborted (k : Calibration) : Calibration :=
  { k with chans := k.chans.map fun c =>
      if c.active then { c with active := false, result := some .aborted, newGain := c.oldGain, meanL := none,
                                mismatch := none } else c }

/-! ### The end of a load (R145, R146, R147) -/

/-- A load with the profile `p` and the result `r` has ended after a pin reset, with ESTOP_N inactive (R36, R145, R147,
R190): the line is STOPPED, every channel has its nominal baseline, every pocket shows its sensor and its mapped class,
and the two hold reasons of the counts and the heads are tested. -/
structure LoadedAfterPin (p : Profile) (r : LoadResult) (s t : State) : Prop where
  line : t.lnc = { s.lnc with
    line := .stopped
    hold := { s.lnc.hold with
      catchFull := atLimit 0 t || atLimit 9 t
      headDown := p.headDownPolicy == .hold && (s.cnu.heads.upper.down || s.cnu.heads.lower.down) } }
  profile : t.prl = { s.prl with profile := p, result := r }
  baseline : ∀ c, t.lch.chans.get c =
    { s.lch.chans.get c with baccE := 16 * p.nominalBase, baccL := 16 * p.nominalBase }
  pockets : ∀ k : PocketNo, t.pkm.pockets[k] = { s.pkm.pockets[k] with
    state := if s.inputs.tray[k] then .open else .noTray
    trayClass := p.mappedClass k
    tray := s.inputs.tray[k] }
  debounce : t.pkm.debounce = s.inputs.sweep
  defaulted : Raised (if r.isDefaulted then [.profileDefaulted] else []) s t
  kept : ChangesOnly [.lch, .pkm, .lnc, .lki, .prl] s t

/-- A pocket, with its sensor read against its state at the end of LOADING after a soft reset (R134, R146). -/
def Pocket.matched (present : Bool) (cls : Option DestClass) (p : Pocket) : Pocket :=
  let cleared : Pocket :=
    { p with delivered := 0, firstId := none, lastId := none, firstSeq := none, lastSeq := none, firstDate := none
             reason := none }
  let next := if p.trayNo = 65535 then 1 else p.trayNo + 1
  match present, p.state with
  | true, .open | true, .full | true, .draining | true, .closed => { p with tray := true }
  | true, .noTray => { cleared with state := .open, trayClass := cls, tray := true }
  | true, .out => if p.tray then p else { cleared with trayClass := cls, tray := true }
  | false, .open | false, .full | false, .draining =>
    { cleared with state := .noTray, trayNo := next, tray := false }
  | false, .closed => { p with state := .noTray, tray := false }
  | false, .noTray => { p with tray := false }
  | false, .out => if p.tray then { cleared with trayNo := next, tray := false } else p

/-- The pocket then takes its mapped class where it is a bank pocket that holds a tray without a letter (R146). -/
def Pocket.classed (bank : Bool) (cls : Option DestClass) (p : Pocket) : Pocket :=
  if bank ∧ (p.state = .open ∨ p.state = .full ∨ (p.state = .out ∧ p.tray = true)) ∧ p.delivered = 0 then
    { p with trayClass := cls }
  else p

/-- The pockets and limits at the end of LOADING after a soft reset, with the profile `p` loaded (R140, R146): `q` is
pocket `k` with its sensor and its class taken. -/
structure PocketResumed (p : Profile) (k : PocketNo) (q : Pocket) (t : State) : Prop where
  limit : t.prl.profile.limits[k] = if isBank k then max p.limits[k] q.delivered else p.limits[k]
  other : isBank k = false ∨ (q.state ≠ .open ∧ q.state ≠ .full) → t.pkm.pockets[k] = q
  opened : isBank k = true → q.state = .full → q.delivered < t.prl.profile.limits[k] →
    t.pkm.pockets[k] = { q with state := .open }
  full : isBank k = true → q.state = .full → q.delivered = t.prl.profile.limits[k] → t.pkm.pockets[k] = q
  below : isBank k = true → q.state = .open → q.delivered < t.prl.profile.limits[k] → t.pkm.pockets[k] = q
  reached : isBank k = true → q.state = .open → q.delivered = t.prl.profile.limits[k] →
    EventSet.has t.lki.events .pocketFull = true ∧
    (p.autoClose = false → t.pkm.pockets[k] = { q with state := .full }) ∧
    (p.autoClose = true →
      (t.pkm.pockets[k] = { q with state := .full } ∧ ¬ SlotFree t) ∨
      (q.pending = 0 ∧ t.pkm.pockets[k] = q.closedTray ∧ makeTrayRecord k q .full ∈ t.pkm.log ∧
        EventSet.has t.lki.events .trayClosed = true) ∨
      (q.pending ≠ 0 ∧ t.pkm.pockets[k] = { q with state := .draining, reason := some .full }))

/-- What every end of a load with the profile `p` and the result `r` does after a soft reset with an empty transport
list (R146, R190). -/
structure LoadTakenAgain (p : Profile) (r : LoadResult) (s t : State) : Prop where
  profile : t.prl = { s.prl with profile := { p with limits := t.prl.profile.limits }, result := r }
  pockets : ∀ k : PocketNo, PocketResumed p k
    (((s.pkm.pockets[k]).matched s.inputs.tray[k] (p.mappedClass k)).classed (isBank k) (p.mappedClass k)) t
  log : ∃ xs, t.pkm.log = s.pkm.log ++ xs
  debounce : t.pkm.debounce = s.inputs.sweep
  defaulted : r.isDefaulted = true → EventSet.has t.lki.events .profileDefaulted = true

/-- A load with the profile `p` and the result `r` has ended after a soft reset, with ESTOP_N inactive (R36, R146,
R147, R190): the line is STOPPED, and the channels and the hold reasons are as after a pin reset. -/
structure LoadedAfterSoft (p : Profile) (r : LoadResult) (s t : State) : Prop extends LoadTakenAgain p r s t where
  line : t.lnc = { s.lnc with
    line := .stopped
    hold := { s.lnc.hold with
      catchFull := atLimit 0 t || atLimit 9 t
      headDown := p.headDownPolicy == .hold && (s.cnu.heads.upper.down || s.cnu.heads.lower.down) } }
  baseline : ∀ c, t.lch.chans.get c =
    { s.lch.chans.get c with baccE := 16 * p.nominalBase, baccL := 16 * p.nominalBase }
  kept : ChangesOnly [.lch, .pkm, .lnc, .lki, .prl] s t

/-- The command `c` ends the load that is in progress, with the profile `p` and the result `r` (R190). -/
def EndsLoad (c : Instr) (s : State) (p : Profile) (r : LoadResult) : Prop :=
  (∃ image, c = .profileLoadEnd image ∧
    ((s.prl.source = .builtin ∧ p = .builtin ∧ r = .ok) ∨ (s.prl.source = .store ∧ (p, r) = loadImage image))) ∨
  (c = .storeLoadNoResponse ∧ s.prl.source = .store ∧ p = .builtin ∧ r = .defaulted .noResponse 0)

/-! ### The line -/

/-- The changes of line state that the line controller makes (chapter 7), the pin reset and the soft reset apart; the
last three are two changes that one command makes, one right after the other (R147, R158, R159, R162). -/
def lineMoves : List (LineState × LineState) :=
  [(.loading, .stopped),
   (.stopped, .starting), (.standby, .starting), (.stopped, .standby), (.standby, .stopped),
   (.starting, .running), (.starting, .stopping), (.running, .stopping), (.stopping, .stopped),
   (.stopped, .faulted), (.standby, .faulted), (.starting, .faulted), (.running, .faulted), (.stopping, .faulted),
   (.faulted, .stopped),
   (.loading, .faulted), (.starting, .stopped), (.running, .stopped)]

/-! ### What holds in every state a run reaches -/

/-- The fault reason is present exactly while the line is FAULTED (R160). -/
def FaultReasonKept (s : State) : Prop := s.lnc.reason.isSome = true ↔ s.lnc.line = .faulted

/-- The lists and queues of the part stay within their capacities: the transport list (R16), the tray log with its
reservations (R132), the request, reply and report queues (R172, R177, R180), the head queues (R100, R101), the capture
buffer, which is FULL at its 128th entry (R45, R46, R47), and the run lists of the letter being scanned (R67). A request
waits behind no accepted RESET (R178). -/
structure WithinCapacity (s : State) : Prop where
  letters : s.trk.letters.length ≤ Config.listCapacity
  log : s.pkm.log.length + reservations s ≤ Config.trayLogCapacity
  requests : s.lki.requests.length ≤ Config.requestCapacity
  replies : s.lki.replies.length ≤ Config.replyCapacity
  reports : s.lki.reports.length ≤ Config.reportCapacity
  heads : ∀ h, (s.cnu.heads.get h).queue.length ≤ Config.headQueueCapacity
  capture : s.lch.capture.entries.length ≤ Config.captureCapacity ∧
    (s.lch.capture.state ≠ .full → s.lch.capture.entries.length < Config.captureCapacity)
  runs : ∀ x, s.scan = some x → ∀ c, (x.ctx.get c).runs.length ≤ Config.runListCapacity
  reset : s.lki.resetPending = true → s.lki.requests = []

/-- The feed hold set follows its owners' conditions: LIST_HIGH in every line state (R16), CATCH_FULL (R127) and
HEAD_DOWN (R114) in every state after LOADING (R153). OUT is a state of the bank pockets alone (R137). -/
structure HoldSetKept (s : State) : Prop where
  listHigh : s.lnc.hold.listHigh = decide (44 ≤ s.trk.letters.length)
  catchFull : s.lnc.line ≠ .loading → (s.lnc.hold.catchFull = true ↔
    s.prl.profile.limits[0] ≤ (s.pkm.pockets[0]).delivered + (s.pkm.pockets[0]).pending ∨
    s.prl.profile.limits[9] ≤ (s.pkm.pockets[9]).delivered + (s.pkm.pockets[9]).pending)
  headDown : s.lnc.line ≠ .loading → (s.lnc.hold.headDown = true ↔
    s.prl.profile.headDownPolicy = .hold ∧ ∃ h, (s.cnu.heads.get h).state = .fault ∨
      (s.cnu.heads.get h).state = .off ∨ (s.cnu.heads.get h).offPending = true)
  service : ∀ k : PocketNo, isBank k = false → (s.pkm.pockets[k]).state ≠ .out

/-- The transport list is empty outside RUNNING and STOPPING (R8, R28, R158, R159), and while the stop timer runs, which
it does in STOPPING alone, with the drain timer held. An accepted RESET waits in STOPPED, STANDBY or FAULTED, with no
request behind it (R178, R198). -/
structure ListKept (s : State) : Prop where
  empty : s.lnc.line ≠ .running → s.lnc.line ≠ .stopping → s.trk.letters = []
  stopped : s.lnc.stopTimer.isSome = true →
    s.lnc.line = .stopping ∧ s.trk.letters = [] ∧ ∃ ms, s.lnc.drainTimer = .held ms
  reset : s.lki.resetPending = true → s.lki.requests = [] ∧
    (s.lnc.line = .stopped ∨ s.lnc.line = .standby ∨ s.lnc.line = .faulted)

/-- The parts of a letter's record come in their order: the LONG point stands only before the length and the results are
known, a verdict needs results, a destination or a pocket decision point needs a verdict, and the decision point is gone
once the destination is written (R11, R12, R70, R76, R121, R122). -/
structure RecordInOrder (l : Letter) : Prop where
  longPoint : l.longPoint ≠ none → l.length = none ∧ l.results = none
  verdict : l.results = none → l.verdict = none
  dest : l.verdict = none → l.dest = none ∧ l.pdecPoint = none
  decided : l.dest ≠ none → l.pdecPoint = none

/-- The account of the letters (R126): the ids in the transport list are distinct (R10); each pocket's pending count is the
number of its letters in the list (R118); outside LOADING no bank pocket holds and awaits more than its limit (R121, R140,
R146); and INDUCTED is the sum of the deliveries, the losses and the list, while none of these tallies has reached its
ceiling. The records are in order, a held verdict is one still to be made (R78), and LOADING after a pin reset finds every
tray empty (R145). -/
structure AccountKept (s : State) : Prop where
  ids : (s.trk.letters.map (·.id)).Nodup
  records : ∀ l ∈ s.trk.letters, RecordInOrder l
  held : ∀ id, s.held = some id → ∃ l ∈ s.trk.letters, l.id = id ∧ l.results ≠ none ∧ l.verdict = none
  pending : ∀ k : PocketNo,
    (s.pkm.pockets[k]).pending = (s.trk.letters.filter fun l => l.dest.map Destination.pocket == some k).length
  limits : s.lnc.line ≠ .loading → ∀ k : PocketNo, isBank k = true →
    (s.pkm.pockets[k]).delivered + (s.pkm.pockets[k]).pending ≤ s.prl.profile.limits[k]
  fresh : s.lnc.line = .loading → s.prl.afterPin = true → ∀ k : PocketNo, (s.pkm.pockets[k]).delivered = 0
  tallies : tally .inducted s < 4294967295 → tally .lostFault s < 4294967295 → tally .lostNoTray s < 4294967295 →
    (∀ k, tally (.delivered k) s < 4294967295) → tally .inducted s =
      (allPockets.map fun k => tally (.delivered k) s).sum + tally .lostFault s + tally .lostNoTray s +
        s.trk.letters.length

/-- The postmark settings and the sequence state are in order: a date that is present is a real one, and the time
mark, the office index, a waiting start number and the last sequence number lie in their ranges (R93, R94, R95,
R104). -/
structure PostmarkInOrder (s : State) : Prop where
  date : ∀ d, s.cnu.date = some d → d.real = true
  timeMark : s.cnu.timeMark ≤ 1439
  office : s.cnu.office ≤ 7
  waiting : ∀ w, s.cnu.waiting = some w → 1 ≤ w.num ∧ w.num ≤ 9999999
  lastFire : ∀ f, s.cnu.lastFire = some f → 1 ≤ f.seq ∧ f.seq ≤ 9999999

/-- A run record kept on a channel has a length and a peak within the limits of R66. -/
def Run.inOrder (p : Profile) (r : Run) : Prop :=
  p.minRun * p.pitch ≤ r.length ∧ r.length ≤ p.maxRun * p.pitch

/-! ### Profiles (9.3, R193) -/

/-- A value lies in the range that the catalogue gives its field (9.3). -/
def FieldShape.holds (sh : FieldShape) (v : FieldValue) : Bool :=
  match sh, v with
  | .num lo hi, .num x => lo ≤ x && x ≤ hi
  | .code codes, .code c => c < codes
  | .text _, .text cs => cs.length ≤ 24 && cs.all printable
  | .pockets _, .pockets ps => ps.length ≤ 4 && ps.all isBank && decide ps.Nodup
  | .mask, .mask _ => true
  | _, _ => false

/-- Every field of the profile lies in its range, and every cross-field check passes (9.3, R193). -/
def Profile.valid (p : Profile) : Bool :=
  (fieldNumbers.all fun n =>
    match fieldShape n, p.field n with
    | some sh, some v => sh.holds v
    | _, _ => false) && p.firstFailing.isNone

end Sys2Proof.Machine
end

