-- ==== Sys2Proof/WellFormed.lean ====
section
/-! DEFINITION. What a command's operands must be for it to be the event its row names. The meanings are total: an
operand outside these forms is still given the effect that the part gives its bytes or its pin, but for the eye E0 of
EYE_LE_EDGE (log entry 24). -/

namespace Sys2Proof.Machine

/-- The bytes are one whole frame with a good CRC (R169, R170). -/
def wholeFrame : List Byte → Bool
  | s :: len :: rest =>
    s == sof && 2 ≤ len.toNat && len.toNat ≤ 250 && rest.length == len.toNat + 2
      && crc (len :: rest.take len.toNat) == byteAt rest len.toNat ++ byteAt rest (len.toNat + 1)
  | _ => false

/-- The bytes are a frame with a bad length (R171). -/
def badLengthFrame : List Byte → Bool
  | [s, len] => s == sof && (len.toNat < 2 || 250 < len.toNat)
  | _ => false

/-- The bytes are a frame of full length whose CRC differs (R171). -/
def badCrcFrame : List Byte → Bool
  | s :: len :: rest =>
    s == sof && 2 ≤ len.toNat && len.toNat ≤ 250 && rest.length == len.toNat + 2
      && crc (len :: rest.take len.toNat) != byteAt rest len.toNat ++ byteAt rest (len.toNat + 1)
  | _ => false

/-- The bytes are a frame begun and not ended (R171). -/
def openFrame : List Byte → Bool
  | [s] => s == sof
  | s :: len :: rest => s == sof && 2 ≤ len.toNat && len.toNat ≤ 250 && rest.length < len.toNat + 2
  | [] => false

/-- The eye stands after E0 (R6). -/
def laterEye (e : Eye) : Bool := e != .e0

/-- The bytes are as many as a store image holds (9.2). -/
def imageSized (bs : List Byte) : Bool := bs.length == Config.imageSize

/-- A command whose operands are those of the event its row names. -/
def wellFormed (c : Instr) : Bool :=
  match c with
  | .profileLoadEnd image => image.isEmpty || imageSized image
  | .storeVerifyDone readBack => imageSized readBack
  | .goodFrame rx => wholeFrame rx.bytes
  | .badFrame rx framingError =>
    if framingError then openFrame rx.bytes else badLengthFrame rx.bytes || badCrcFrame rx.bytes
  | .eyeLeEdge edge => laterEye edge.eye
  | .expiryPoint _ eye => laterEye eye
  | .resetNAssert | .resetNRelease _ | .storeLoadNoResponse | .encPulse | .speedWindowEnd | .beltStill | .e0LeEdge
  | .e0TeEdge | .longPoint | .blockedPoint | .setupPoint _ _ | .releasePoint _ | .flash | .pairPoint | .verdictLimit
  | .fireStart _ | .fireEnd _ | .recoveryEnd _ | .pocketDecisionPoint _ | .sampleReturn _ _ _ | .timeout _
  | .calibrationFlash | .settleEnd | .headFault _ _ | .estop _ | .feedloadActive | .feedloadInactive | .wake
  | .startTimeout | .drainTimeout | .stopFail | .trayRemoved _ | .trayInserted _ | .sweepButtonChange _ _
  | .sweepButton _ | .interByteTimeout | .unknownKind | .replySend | .eventNotice | .letterReportSend | .softReset
  | .identify | .getStatus | .poll | .reset | .start | .stop | .standby | .clearFault | .holdFeed | .releaseFeed
  | .setPostmark | .getPostmark | .headReset | .headDisable | .headEnable | .calibrate | .armCapture | .readCapture
  | .setCounterSource | .readChannels | .channelReset | .sweep | .pocketOut | .pocketIn | .readPockets | .takeTray
  | .readTallies | .clearShift | .getField | .setField | .writeProfile | .storeWriteNoResponse | .storePageDone
  | .setEventMask | .clearEvents | .setReportMode | .storeNotBusy => true

end Sys2Proof.Machine
end

