-- ==== Sys2Proof/Certificates/Slice0/Obligations.lean ====
section
/-! DEFINITION. The statements about the LF-240 for the provers: what each command does, what the block keeps in every
state, and what no command can do. -/

open Sys2Proof Sys2Proof.Machine

/-! ### The queue of commands, and the resets -/

/-- A step runs the command at the front of the queue on the state with the queue's rest; on an empty queue time passes
until a frame being sent has ended, and nothing else changes (the model's choice, log entry 4). -/
def Obligations.StepRunsFrontCommand : Prop :=
  (∀ (c : Instr) (rest : List Instr) (s : State), s.pending = c :: rest →
    step s = exec c { s with pending := rest }) ∧
  ∀ s : State, s.pending = [] → step s = .next
    { s with lki := { s.lki with sending := false, deFalls := fallsAfter s.lki } }

/-- Every command answers a next state from every state and leaves the queue of commands as it is, but for EYE_LE_EDGE
with the operand E0, which is no event of the part and stops with a fault (log entry 24). -/
def Obligations.EveryCommandCompletes : Prop :=
  (∀ (c : Instr) (s : State), (∀ b, c ≠ .eyeLeEdge ⟨.e0, b⟩) → ∃ t, exec c s = .next t ∧ t.pending = s.pending) ∧
  ∀ (b : Bool) (s : State), exec (.eyeLeEdge ⟨.e0, b⟩) s = .fault .notALaterEye

/-- RESET_N becoming active puts the gates to rest, cuts off a calibration, a store write and a frame being sent, without
a reply, and changes nothing else; while it is held active every output pin is negated, SPI_CS_N is high and TXD is at
mark, and no command but the pin's release changes anything other than the levels kept of the input pins. Its release
gives every block its pin reset values and samples the straps; out of reset a release does nothing (R29, R56, R92, R117,
R145, R166, R167, R188, R189, R199). That nothing else changes when RESET_N becomes active, that the levels of the input
pins are kept meanwhile, and that a release out of reset does nothing, are the model's reading (DEDUCED, log entry 17).
The load result IN_PROGRESS under BUILTIN too is the model's reading of R200 against R190 (DEDUCED, log entry 9). -/
def Obligations.PinResetHoldsAndReleases : Prop :=
  (∀ s : State, exec .resetNAssert s = .next { s with
    inReset := true
    trk := { s.trk with gates := Vector.replicate 10 ⟨none, false⟩ }
    lch := { s.lch with calib := none, shutter := ⟨false, false⟩, outstanding := ⟨false, false⟩ }
    lki := { s.lki with sending := false }
    prl := { s.prl with store := .idle } }) ∧
  (∀ (c : Instr) (s : State), s.inReset = true → (∀ b, c ≠ .eyeLeEdge ⟨.e0, b⟩) → c ≠ .resetNAssert →
    (∀ straps, c ≠ .resetNRelease straps) → ∃ i, exec c s = .next { s with inputs := i }) ∧
  (∀ s : State, s.inReset = true →
    feedPin s = false ∧ transportRunPin s = false ∧ attnPin s = false ∧ dePin s = false ∧
    txdAtMark s = true ∧ spiCsHigh s = true ∧
    (∀ h, firePin h s = false) ∧ (∀ g, gatePin g s = false) ∧ ∀ f, shutterPin f s = false) ∧
  ∀ (straps : Straps) (s : State),
    (s.inReset = false → exec (.resetNRelease straps) s = .next s) ∧
    (s.inReset = true → ∃ t, exec (.resetNRelease straps) s = .next t ∧
      t.inReset = false ∧ t.inputs = s.inputs ∧ t.pending = s.pending ∧ t.scan = none ∧ t.held = none ∧
      (t.trk.belt = 0 ∧ t.trk.speed = 0 ∧ t.trk.windowCount = 0 ∧ t.trk.moving = true ∧ t.trk.letters = [] ∧
        t.trk.nextId = 0 ∧ t.trk.measuring = none ∧ t.trk.lastTe = none ∧ ∀ g, gateOf g t = ⟨none, false⟩) ∧
      ((∀ c, (t.lch.chans.get c).state = .idle ∧ (t.lch.chans.get c).quiet = 0 ∧ (t.lch.chans.get c).noisy = 0 ∧
          (t.lch.chans.get c).lockLoss = 0 ∧ (t.lch.chans.get c).source = .runsKept ∧ (t.lch.chans.get c).counter = 0) ∧
        t.lch.capture.state = .empty ∧ t.lch.capture.entries = [] ∧ t.lch.calib = none ∧
        (∀ f, t.lch.outstanding.get f = false) ∧ ∀ f, t.lch.shutter.get f = false) ∧
      (t.cnu.date = none ∧ t.cnu.timeMark = 0 ∧ t.cnu.office = 0 ∧ t.cnu.waiting = none ∧ t.cnu.lastFire = none ∧
        ∀ h, (t.cnu.heads.get h).state = (if s.inputs.headFault.get h then .fault else .ready) ∧
          (t.cnu.heads.get h).queue = [] ∧ (t.cnu.heads.get h).printing = none ∧
          (t.cnu.heads.get h).recoveryEnd = none ∧ (t.cnu.heads.get h).recoveringFrom = none ∧
          (t.cnu.heads.get h).offPending = false) ∧
      (t.pkm.log = [] ∧ (∀ x, tally x t = 0) ∧
        ∀ k : PocketNo, (t.pkm.pockets[k]).delivered = 0 ∧ (t.pkm.pockets[k]).pending = 0 ∧
          (t.pkm.pockets[k]).trayNo = 1 ∧ (t.pkm.pockets[k]).firstId = none ∧ (t.pkm.pockets[k]).lastId = none ∧
          (t.pkm.pockets[k]).firstSeq = none ∧ (t.pkm.pockets[k]).lastSeq = none ∧
          (t.pkm.pockets[k]).firstDate = none) ∧
      (t.lnc.line = .loading ∧ t.lnc.reason = none ∧ t.lnc.hold.isEmpty = true ∧ t.lnc.startTimer = none ∧
        t.lnc.atSpeed = 0 ∧ t.lnc.below = 0 ∧
        t.lnc.drainTimer = .off ∧ t.lnc.stopTimer = none ∧ t.lnc.wake = none ∧
        t.lnc.blindAtStart = ⟨false, false, false, false⟩) ∧
      (t.lki.mode = straps.linkMode ∧ t.lki.rx = .hunt ∧ t.lki.requests = [] ∧ t.lki.replies = [] ∧
        t.lki.reports = [] ∧ t.lki.events = 0 ∧ t.lki.noticeDue = false ∧ t.lki.resetPending = false ∧
        t.lki.dropped = 0 ∧ t.lki.badFrames = 0 ∧ t.lki.timeouts = 0 ∧ t.lki.busy = 0 ∧ t.lki.sending = false ∧
        t.lki.rate = rateOfStraps straps.rate1 straps.rate0) ∧
      (t.prl.source = (if straps.profSrc then .store else .builtin) ∧ t.prl.result = .inProgress ∧
        t.prl.afterPin = true ∧ t.prl.store = .idle))

/-! ### The load and the profile (chapter 9) -/

/-- The end of a load: from the built-in defaults, from the image read, or without an answer of the store. After a pin
reset: the profile and its load result, the nominal baselines, the pockets by their sensors, the hold reasons and
STOPPED. After a soft reset, with an empty transport list: the profile is loaded again with its result; each pocket
keeps its tray, state, class and counts but for what its sensor reports, and takes its mapped class where it holds a
tray without a letter; a bank pocket's limit below its delivered count is raised to that count, an OPEN pocket at its
limit becomes FULL and a FULL one below it OPEN. An active ESTOP_N then makes the line FAULTED from STOPPED. Outside
LOADING neither command does anything, nor STORE_LOAD_NO_RESPONSE under BUILTIN (R36, R127, R134, R140, R145, R146, R147,
R162, R190). That STORE_LOAD_NO_RESPONSE ends the load by itself is the model's choice (log entry 8), and so is the order
of the pockets, which decides whose tray takes the last free slot of the log (log entry 33). -/
def Obligations.LoadEndsInStopped : Prop :=
  (∀ (s : State) (image : List Byte), s.inReset = false →
    (s.lnc.line ≠ .loading → exec (.profileLoadEnd image) s = .next s) ∧
    (s.lnc.line ≠ .loading ∨ s.prl.source = .builtin → exec .storeLoadNoResponse s = .next s)) ∧
  ∀ (s : State) (c : Instr) (p : Profile) (r : LoadResult), s.inReset = false → s.lnc.line = .loading →
    EndsLoad c s p r →
    (s.prl.afterPin = true → s.inputs.estop = false → ∃ t, exec c s = .next t ∧ LoadedAfterPin p r s t) ∧
    (s.prl.afterPin = false → s.trk.letters = [] → ∃ t, exec c s = .next t ∧ LoadTakenAgain p r s t ∧
      (s.inputs.estop = false → LoadedAfterSoft p r s t)) ∧
    (s.inputs.estop = true → ∃ t, exec c s = .next t ∧
      t.lnc.line = .faulted ∧ t.lnc.reason = some ⟨.estop, .stopped⟩ ∧ t.prl.result = r ∧
      (s.prl.afterPin = true → t.prl.profile = p))

/-- The image that WRITE_PROFILE composes from a profile in range has 338 bytes, and a load of that image gives the
same profile with the load result OK (9.2, 9.3, R190, R191, R193, R196). -/
def Obligations.StoreImageRoundTrip : Prop :=
  ∀ p : Profile, p.valid = true → (imageOf p).length = 338 ∧ loadImage (imageOf p) = (p, .ok)

/-- A store write runs from WRITE_PROFILE through the 22 pages of the image, a write enable before each, and its
read-back, and its deferred reply is composed at its end, in the place reserved for it. SPI_CS_N is high under BUILTIN
and while neither a load nor a store write is in progress (R176, R189, R196, R197). That the line is shown low
throughout a load and a store write is the model's choice (log entry 31), and so are that its status reads are not shown
(log entry 7) and that the unused character bytes of an office text in the image are 0 (log entry 36). -/
def Obligations.StoreWriteRuns : Prop :=
  (∀ r rest s, Served .writeProfile r rest s →
    (s.prl.source = .builtin → exec .writeProfile s = .next (refused r rest .noStore s)) ∧
    (s.prl.source = .store → s.lnc.line ≠ .stopped → s.lnc.line ≠ .standby →
      exec .writeProfile s = .next (refused r rest .wrongState s)) ∧
    (s.prl.source = .store → (s.lnc.line = .stopped ∨ s.lnc.line = .standby) →
      exec .writeProfile s = .next
        (answered r rest .deferred { s with prl := { s.prl with store := .waiting (imageOf s.prl.profile) } }))) ∧
  (∀ (image : List Byte) (s : State), s.inReset = false → s.prl.store = .waiting image →
    exec .storeNotBusy s = .next { s with prl := { s.prl with
      store := .page 0 image, spiOps := [.writeEnable, .pageWrite 0 (image.take 16)] } }) ∧
  (∀ (p : Nat) (image : List Byte) (s : State), s.inReset = false → s.prl.store = .page p image →
    (p < 21 → exec .storePageDone s = .next { s with prl := { s.prl with
      store := .page (p + 1) image
      spiOps := [.writeEnable, .pageWrite (16 * (p + 1)) ((image.drop (16 * (p + 1))).take 16)] } }) ∧
    (21 ≤ p → exec .storePageDone s = .next { s with prl := { s.prl with store := .verifying image } })) ∧
  (∀ (image back : List Byte) (s : State), s.inReset = false → s.prl.store = .verifying image →
    (back = image → exec (.storeVerifyDone back) s =
      .next (fillDeferred (.ok false [0x01, 0x52]) { s with prl := { s.prl with store := .idle } })) ∧
    (back ≠ image → exec (.storeVerifyDone back) s =
      .next (fillDeferred (.error .storeFail 5) { s with prl := { s.prl with store := .idle } }))) ∧
  (∀ s : State, s.inReset = false →
    ((∃ image, s.prl.store = .waiting image) ∨ ∃ p image, s.prl.store = .page p image) →
    exec .storeWriteNoResponse s =
      .next (fillDeferred (.error .storeFail 1) { s with prl := { s.prl with store := .idle } })) ∧
  (∀ s : State, s.prl.source = .builtin ∨ (s.lnc.line ≠ .loading ∧ s.prl.store = .idle) → spiCsHigh s = true) ∧
  ∀ (a : Answer) (pre post : List ReplyPlace) (kind tag : Byte) (s : State),
    (∀ p ∈ pre, ∃ f, p = .composed f) → s.lki.replies = pre ++ .reserved kind tag :: post →
    fillDeferred a s =
      { s with lki := { s.lki with replies := pre ++ .composed (answerFrame kind tag a) :: post } }

/-- SET_FIELD: outside the states that may write the field it is refused with WRONG_STATE, with an undefined structural
value BAD_VALUE, with a class list that would strand a tray's letters IN_USE; otherwise the value, a number clamped
into its range, is stored in the working profile and answered. A limit below a bank pocket's count is raised to it and
marked CLAMPED; an OPEN bank pocket whose count is its new limit becomes FULL, with POCKET_FULL and the auto-close, a
FULL one below it OPEN, and CATCH_FULL follows pockets 0 and 9. A tray without a letter takes its pocket's new class;
HEAD_DOWN_POLICY and AUTOWAKE act on the hold set and the wake debounce (R114, R124, R127, R139, R140, R165, R194,
R195). -/
def Obligations.SetFieldStores : Prop :=
  ∀ (r : Request) (rest : List Request) (s : State) (n : Byte) (value : List Byte) (sh : FieldShape),
    Served .setField r rest s → r.payload = n :: value → fieldShape n.toNat = some sh →
    (∀ lo hi, sh = .num lo hi →
      sh.ofLink value = some (.num (max lo (min hi (ofBytes value))), max lo (min hi (ofBytes value)) != ofBytes value)) ∧
    (fieldWritable n.toNat s.lnc.line = false → exec .setField s = .next (refused r rest .wrongState s)) ∧
    (fieldWritable n.toNat s.lnc.line = true → sh.ofLink value = none →
      exec .setField s = .next (refused r rest .badValue s)) ∧
    ∀ (v : FieldValue) (clamped : Bool),
      fieldWritable n.toNat s.lnc.line = true → sh.ofLink value = some (v, clamped) →
      (n.toNat < 48 ∨ n.toNat = 59 ∨ (65 ≤ n.toNat ∧ n.toNat ≤ 68) ∨ 70 ≤ n.toNat →
        exec .setField s = .next (answered r rest (.ok clamped (n :: v.linkBytes))
          { s with prl := { s.prl with profile := s.prl.profile.setField n.toNat v } })) ∧
      (∀ k x limit, limitPocket n.toNat = some k → v = .num x →
        limit = (if isBank k then max x (s.pkm.pockets[k]).delivered else x) → ∃ t, exec .setField s = .next t ∧
        t.prl = { s.prl with profile := s.prl.profile.setField n.toNat (.num limit) } ∧
        t.prl.profile.limits[k] = limit ∧ (∀ j : PocketNo, j ≠ k → t.prl.profile.limits[j] = s.prl.profile.limits[j]) ∧
        t.lki.requests = rest ∧ t.lki.replies = s.lki.replies ++
          [placeOf r (.ok (clamped || decide (limit ≠ x)) (n :: (FieldValue.num limit).linkBytes))] ∧
        (isBank k = true → (s.pkm.pockets[k]).state = .open → (s.pkm.pockets[k]).delivered = limit →
          BecameFull k s.pkm.pockets[k] s t) ∧
        (isBank k = true → (s.pkm.pockets[k]).state = .full → (s.pkm.pockets[k]).delivered < limit →
          t.pkm = { s.pkm with pockets := s.pkm.pockets.set k { s.pkm.pockets[k] with state := .open } }) ∧
        (isBank k = false ∨ ((s.pkm.pockets[k]).state ≠ .open ∧ (s.pkm.pockets[k]).state ≠ .full) ∨
            ((s.pkm.pockets[k]).state = .open ∧ (s.pkm.pockets[k]).delivered ≠ limit) ∨
            ((s.pkm.pockets[k]).state = .full ∧ limit ≤ (s.pkm.pockets[k]).delivered) → t.pkm = s.pkm) ∧
        (∀ j : PocketNo, j ≠ k → t.pkm.pockets[j] = s.pkm.pockets[j]) ∧
        t.lnc = { s.lnc with hold := { s.lnc.hold with catchFull := atLimit 0 t || atLimit 9 t } } ∧
        ChangesOnly [.pkm, .lnc, .lki, .prl] s t) ∧
      (isClassField n.toNat = true → classInUse (s.prl.profile.setField n.toNat v) s = true →
        exec .setField s = .next (refused r rest .inUse s)) ∧
      (isClassField n.toNat = true → classInUse (s.prl.profile.setField n.toNat v) s = false →
        ∃ t, exec .setField s = .next t ∧ t.prl = { s.prl with profile := s.prl.profile.setField n.toNat v } ∧
          t.lki = { s.lki with
            requests := rest, replies := s.lki.replies ++ [placeOf r (.ok clamped (n :: v.linkBytes))] } ∧
          (∀ k : PocketNo, t.pkm.pockets[k] = { s.pkm.pockets[k] with trayClass :=
            (if isBank k && holdsTray s.pkm.pockets[k] && (s.pkm.pockets[k]).delivered == 0
                && t.prl.profile.mappedClass k != s.prl.profile.mappedClass k
              then t.prl.profile.mappedClass k else (s.pkm.pockets[k]).trayClass) }) ∧
          ChangesOnly [.pkm, .lki, .prl] s t) ∧
      (n.toNat = 48 → ∃ t, exec .setField s = .next t ∧
        t.prl = { s.prl with profile := s.prl.profile.setField 48 v } ∧
        t.lki.requests = rest ∧ t.lki.replies = s.lki.replies ++ [placeOf r (.ok clamped (n :: v.linkBytes))] ∧
        t.lnc = { s.lnc with hold := { s.lnc.hold with headDown := headDownHeld t } } ∧
        ChangesOnly [.lnc, .lki, .prl] s t) ∧
      (n.toNat = 69 → ∃ t, exec .setField s = .next t ∧
        t.prl = { s.prl with profile := s.prl.profile.setField 69 v } ∧
        t.lki = { s.lki with
          requests := rest, replies := s.lki.replies ++ [placeOf r (.ok clamped (n :: v.linkBytes))] } ∧
        (t.prl.profile.autowake = false → t.lnc = { s.lnc with wake := none }) ∧
        (t.prl.profile.autowake = true → t.lnc = { s.lnc with
          wake := if s.lnc.line = .standby ∧ s.inputs.feedload = true ∧ s.lnc.wake = none
            then some s.prl.profile.wakeDebounce else s.lnc.wake }) ∧
        ChangesOnly [.lnc, .lki, .prl] s t)

/-! ### The link (chapter 8) -/

/-- Frames and answers have the layout of the link: SOF, LEN, KIND, TAG, payload and the CRC over LEN to payload; a
reply of kind K + 0x80 with its result first, and ERROR with the kind, the code and the detail. A good frame that is
heard and whose first character meets the receiver in the hunt is taken whole, whatever its kind, tag and
payload: it joins the request queue; a START also abandons a calibration; with the queue full it is counted and
answered BUSY where the reply queue has room; and behind an accepted RESET it is discarded. Characters that all come while
the part is sending in the HALF mode are discarded (R54, R168, R169, R170, R171, R172, R174, R178). That the arrival of a
START of any tag and payload abandons the calibration is the model's reading of R54 (DEDUCED, log entry 27). That the
frame being sent goes on until the characters said to come during it have passed is the model's choice (log entry 6). -/
def Obligations.GoodFrameTaken : Prop :=
  (∀ f : Frame, frameBytes f =
    [0xA5, BitVec.ofNat 8 (f.payload.length + 2), f.kind, f.tag] ++ f.payload ++
      be16 (crc ([BitVec.ofNat 8 (f.payload.length + 2), f.kind, f.tag] ++ f.payload)).toNat) ∧
  (∀ (kind tag : Byte) (clamped : Bool) (fields : List Byte),
    answerFrame kind tag (.ok clamped fields) = ⟨kind + 0x80, tag, (if clamped then 1 else 0) :: fields⟩) ∧
  (∀ (kind tag : Byte) (e : ErrorCode) (detail : Nat),
    answerFrame kind tag (.error e detail) = ⟨0xFF, tag, [kind, e.byte, BitVec.ofNat 8 detail]⟩) ∧
  crc [0x31, 0x32, 0x33, 0x34, 0x35, 0x36, 0x37, 0x38, 0x39] = 0x29B1#16 ∧
  (∀ (rx : RxChars) (s : State), s.lki.sending = true → s.lki.mode = .half →
    (rx.bytes.length ≤ rx.overlap → exec (.goodFrame rx) s = .next s ∧ exec (.badFrame rx false) s = .next s) ∧
    (rx.bytes.length + 1 ≤ rx.overlap → exec (.badFrame rx true) s = .next s)) ∧
  ∀ (f : Frame) (rx : RxChars) (s : State) (k : Link), s.inReset = false → s.lki.rx = .hunt →
    f.payload.length ≤ 248 → rx.bytes = frameBytes f → Heard rx s → k = afterChars rx.bytes.length rx s →
    (s.lki.resetPending = true → exec (.goodFrame rx) s = .next { s with lki := k }) ∧
    (s.lki.resetPending = false → s.lki.requests.length < 4 → f.kind ≠ 0x10 ∨ s.lch.calib = none →
      exec (.goodFrame rx) s = .next
        { s with lki := { k with requests := s.lki.requests ++ [⟨f.kind, f.tag, f.payload⟩] } }) ∧
    (∀ c, s.lki.resetPending = false → s.lki.requests.length < 4 → f.kind = 0x10 → s.lch.calib = some c →
      exec (.goodFrame rx) s = .next { s with
        lch := { s.lch with calib := none, shutter := ⟨false, false⟩, outstanding := ⟨false, false⟩ }
        lki := { k with
          requests := s.lki.requests ++ [⟨f.kind, f.tag, f.payload⟩]
          replies := fillList (.ok false (calFields c.aborted)) s.lki.replies } }) ∧
    (s.lki.resetPending = false → 4 ≤ s.lki.requests.length →
      exec (.goodFrame rx) s = .next { s with lki := { k with
        busy := min (s.lki.busy + 1) 65535
        replies := s.lki.replies ++
          (if s.lki.replies.length < 4 then [.composed ⟨0xFF, f.tag, [f.kind, 0x06, 0]⟩] else []) } })

/-- A frame with a bad length or a bad CRC, and a frame broken by a framing error, count one bad frame where they are
heard, and leave the receiver in the hunt; more than 2 ms without a character counts one time-out; neither counts in the
hunt (R168, R171). That the frame being sent goes on until the characters said to come during it have passed is the
model's choice (log entry 6). -/
def Obligations.BadFramesCounted : Prop :=
  (∀ (rx : RxChars) (framingError : Bool) (s : State), s.inReset = false → s.lki.rx = .hunt →
    wellFormed (.badFrame rx framingError) = true → Heard rx s →
    exec (.badFrame rx framingError) s = .next { s with lki :=
      { afterChars (rx.bytes.length + if framingError then 1 else 0) rx s with
        badFrames := min (s.lki.badFrames + 1) 65535 } }) ∧
  (∀ s : State, s.inReset = false → s.lki.rx ≠ .hunt →
    exec .interByteTimeout s = .next
      { s with lki := { s.lki with rx := .hunt, timeouts := min (s.lki.timeouts + 1) 65535 } }) ∧
  ∀ s : State, s.inReset = false → s.lki.rx = .hunt →
    exec .interByteTimeout s = .next s ∧
    exec (.badFrame ⟨[], 0⟩ true) s = .next
      { s with lki := { s.lki with sending := false, deFalls := fallsAfter s.lki } }

/-- The link interface's own checks, in their order: a TAG of 0 is BAD_VALUE; then the kind's length and field number,
by the codes and lengths of the table of kinds, a field's value having the size of its link coding; then LOADING is
NOT_READY for all but IDENTIFY, GET_STATUS and POLL. The refused request leaves the queue, the ERROR takes its place
among the replies, and nothing else changes. A kind that is no request kind is UNKNOWN_KIND. A command whose kind is not
that of the front request (log entry 1), or that finds a deferred reply or no room for its answer, leaves the machine as
it is (R172, R173, R174, R176, R178, R194, R195). -/
def Obligations.LinkRefusals : Prop :=
  (∀ x ∈ ([(.identify, 0x01, 0), (.getStatus, 0x02, 0), (.poll, 0x03, 0), (.reset, 0x04, 0), (.start, 0x10, 0),
      (.stop, 0x11, 0), (.standby, 0x12, 0), (.clearFault, 0x13, 0), (.holdFeed, 0x14, 0), (.releaseFeed, 0x15, 0),
      (.getPostmark, 0x21, 0), (.headReset, 0x22, 1), (.headDisable, 0x23, 1), (.headEnable, 0x24, 1),
      (.calibrate, 0x30, 1), (.armCapture, 0x31, 2), (.readCapture, 0x32, 2), (.setCounterSource, 0x33, 2),
      (.readChannels, 0x34, 0), (.channelReset, 0x35, 1), (.sweep, 0x40, 1), (.pocketOut, 0x41, 1),
      (.pocketIn, 0x42, 1), (.readPockets, 0x43, 0), (.takeTray, 0x44, 0), (.readTallies, 0x50, 0),
      (.clearShift, 0x51, 0), (.writeProfile, 0x62, 0), (.setEventMask, 0x70, 2), (.clearEvents, 0x71, 2),
      (.setReportMode, 0x72, 1)] : List (ReqKind × Byte × Nat)),
    x.1.code = x.2.1 ∧
    ∀ payload, lengthRefusal x.1 payload = if payload.length = x.2.2 then none else some .badLength) ∧
  (ReqKind.setPostmark.code = 0x20 ∧ ReqKind.getField.code = 0x60 ∧ ReqKind.setField.code = 0x61 ∧
    (∀ payload, lengthRefusal .setPostmark payload =
      if payload.length = 7 ∨ payload.length = 11 then none else some .badLength) ∧
    lengthRefusal .getField [] = some .badLength ∧ lengthRefusal .setField [] = some .badLength ∧
    ∀ (n : Byte) (value : List Byte),
      (n = 0 ∨ 72 < n.toNat → lengthRefusal .getField (n :: value) = some .badValue ∧
        lengthRefusal .setField (n :: value) = some .badValue) ∧
      (1 ≤ n.toNat → n.toNat ≤ 72 →
        lengthRefusal .getField (n :: value) = (if value = [] then none else some .badLength) ∧
        ∀ p : Profile, ∃ v, p.field n.toNat = some v ∧ lengthRefusal .setField (n :: value) =
          if (match v with
            | .num _ => value.length == 2
            | .mask _ => value.length == 2
            | .code _ => value.length == 1
            | .text _ => decide (value.length ≤ 24)
            | .pockets _ => decide (value.length ≤ 4)) then none else some .badLength)) ∧
  (∀ (k : ReqKind) (r : Request) (rest : List Request) (s : State) (e : ErrorCode), Ready k r rest s →
    linkRefusal k r s = some e → exec k.command s = .next (refused r rest e s)) ∧
  (∀ (k : ReqKind) (r : Request) (s : State),
    (r.tag = 0 → linkRefusal k r s = some .badValue) ∧
    (r.tag ≠ 0 → ∀ e, lengthRefusal k r.payload = some e → linkRefusal k r s = some e) ∧
    (r.tag ≠ 0 → lengthRefusal k r.payload = none → s.lnc.line = .loading →
      (linkRefusal k r s = none ↔ k = .identify ∨ k = .getStatus ∨ k = .poll) ∧
      (linkRefusal k r s = none ∨ linkRefusal k r s = some .notReady)) ∧
    (r.tag ≠ 0 → lengthRefusal k r.payload = none → s.lnc.line ≠ .loading → linkRefusal k r s = none)) ∧
  (∀ (r : Request) (rest : List Request) (s : State), s.inReset = false → s.lki.requests = r :: rest →
    (∀ k : ReqKind, r.kind ≠ k.code) → dispatchable r s = true →
    exec .unknownKind s = .next (refused r rest (if r.tag = 0 then .badValue else .unknownKind) s)) ∧
  ∀ (k : ReqKind) (s : State), s.inReset = false → s.lki.resetPending = false →
    (∀ r rest, s.lki.requests = r :: rest → r.kind ≠ k.code ∨ replyDeferred s = true ∨
      (k ≠ .reset ∧ 4 ≤ s.lki.replies.length) ∨ (k = .reset ∧ s.lki.replies ≠ [])) →
    exec k.command s = .next s

/-- Frames leave in their order: the oldest composed reply, passing over the reserved places before it, and in the HALF
mode only while the receiver hunts; then, in the FULL mode and with no composed reply, a due notice, withdrawn where
nothing enabled is pending; then the oldest letter report. While an accepted RESET waits no notice and no letter report
is sent or withdrawn. A frame that leaves is being sent from then on, one at a time; out of reset DE is asserted in the
FULL mode always and in the HALF mode exactly while a frame is being sent; there it falls at each frame's end, between
two frames sent back to back too, and rises with the next (R167, R168, R177, R178, R180, R185). R177 takes a frame when
none is being sent, and the table has no row for a frame's end: that a frame's command while one is shown being sent
shows that frame's end, that DE follows Link.sending, and that the state shows its falls as the count Link.deFalls, is
the model's choice (DESIGN CHOICE, log entries 6 and 7). -/
def Obligations.FramesSentInOrder : Prop :=
  (∀ s : State, dePin s = true ↔ s.inReset = false ∧ (s.lki.mode = .full ∨ s.lki.sending = true)) ∧
  (∀ (pre post : List ReplyPlace) (f : Frame) (s : State), s.inReset = false →
    (∀ p ∈ pre, ∃ kind tag, p = .reserved kind tag) → s.lki.replies = pre ++ .composed f :: post →
    (s.lki.mode = .full ∨ s.lki.rx = .hunt →
      exec .replySend s = .next
        { s with lki := { s.lki with
          replies := pre ++ post, sending := true, deFalls := fallsAfter s.lki, txd := frameBytes f } }) ∧
    (s.lki.mode = .half → s.lki.rx ≠ .hunt → exec .replySend s = .next s) ∧
    exec .eventNotice s = .next s ∧ exec .letterReportSend s = .next s) ∧
  (∀ s : State, s.inReset = false → (∀ p ∈ s.lki.replies, ∃ kind tag, p = .reserved kind tag) →
    exec .replySend s = .next s ∧
    (s.lki.mode = .full → s.lki.resetPending = false → s.lki.noticeDue = true →
      exec .letterReportSend s = .next s ∧
      (s.lki.events &&& s.prl.profile.eventMask ≠ 0 →
        exec .eventNotice s = .next { s with lki := { s.lki with
          noticeDue := false, sending := true, deFalls := fallsAfter s.lki
          txd := frameBytes ⟨0xE1, 0, be16 s.lki.events.toNat ++ be16 s.prl.profile.eventMask.toNat
            ++ be16 s.lki.dropped⟩ } }) ∧
      (s.lki.events &&& s.prl.profile.eventMask = 0 →
        exec .eventNotice s = .next { s with lki := { s.lki with noticeDue := false } })) ∧
    (∀ x xs, s.lki.mode = .full → s.lki.resetPending = false → s.lki.noticeDue = false → s.lki.reports = x :: xs →
      exec .letterReportSend s = .next
        { s with lki := { s.lki with
          reports := xs, sending := true, deFalls := fallsAfter s.lki, txd := frameBytes ⟨0xE0, 0, x.bytes⟩ } }) ∧
    (s.lki.mode = .half ∨ s.lki.resetPending = true →
      exec .eventNotice s = .next s ∧ exec .letterReportSend s = .next s))

/-- The requests that only read change nothing but the two queues, and answer OK with their fields as they stand, in the
codes and layouts of the link (R44, R96, R142, R143, R169, R175, R187, R194, R200). -/
def Obligations.ReadRequestsChangeNothing : Prop :=
  ([LineState.loading, .stopped, .starting, .running, .stopping, .faulted, .standby].map LineState.code = List.range 7 ∧
    (∀ j, [LineCause.jam j, .trackOverflow, .estop, .speedLow, .startFail, .stopFail, .drainTimeout].map
      LineCause.code = List.range 7) ∧
    [JamKind.stray, .missing, .blocked].map JamKind.code = List.range 3 ∧
    [Eye.e0, .e1, .ec, .e2, .e3, .pe 0, .pe 1, .pe 2, .pe 3, .pe 4, .pe 5, .pe 6, .pe 7, .pe 8].map eyeCode =
      List.range 14 ∧
    (∀ cause, [ChanState.idle, .search, .check, .locked, .fault cause].map ChanState.code = List.range 5) ∧
    [FaultCause.timeout, .overrun].map FaultCause.code = List.range 2 ∧
    [CounterSource.phosSamples, .fluoSamples, .satSamples, .runsKept, .runsShort, .runsOverlong, .runOverflow, .noisyDark,
      .unlocks].map CounterSource.code = List.range 9 ∧
    [CaptureState.empty, .armed, .filling, .full].map CaptureState.code = List.range 4 ∧
    [CaptureTrigger.immediate, .nextLetter].map CaptureTrigger.code = List.range 2 ∧
    [HeadState.ready, .printing, .recovering, .fault, .off].map HeadState.code = List.range 5 ∧
    [PocketState.open, .full, .draining, .closed, .noTray, .out].map PocketState.code = List.range 6 ∧
    [some DestClass.facedLead, some .facedTrail, some .meterLead, some .meterTrail, some .uncancelled, none].map
      classCode = List.range 6 ∧
    [ReportMode.off, .cullOnly, .all].map ReportMode.code = List.range 3) ∧
  (∀ n, be16 n = [BitVec.ofNat 8 (n / 256), BitVec.ofNat 8 n] ∧
    be32 n = [BitVec.ofNat 8 (n / 16777216), BitVec.ofNat 8 (n / 65536), BitVec.ofNat 8 (n / 256), BitVec.ofNat 8 n]) ∧
  (∀ (s : State) (flag : Bool → Byte) (date : Date → List Byte), (∀ b, flag b = if b then 1 else 0) →
    (∀ d, date d = be16 d.year ++ [BitVec.ofNat 8 d.month, BitVec.ofNat 8 d.day]) →
    statusFields s =
      BitVec.ofNat 8 s.lnc.line.code ::
        (match s.lnc.reason with
          | none => List.replicate 7 0
          | some ⟨.jam j, left⟩ =>
            [1, BitVec.ofNat 8 (j.kind.code + 1), BitVec.ofNat 8 (eyeCode j.eye + 1), BitVec.ofNat 8 (left.code + 1)] ++
              (match j.letter with
                | none => [0, 0, 0]
                | some i => 1 :: be16 i.toNat)
          | some ⟨cause, left⟩ => [BitVec.ofNat 8 (cause.code + 1), 0, 0, BitVec.ofNat 8 (left.code + 1), 0, 0, 0]) ++
        [BitVec.ofNat 8 ((flag s.lnc.hold.operator).toNat + 2 * (flag s.lnc.hold.listHigh).toNat +
            4 * (flag s.lnc.hold.catchFull).toNat + 8 * (flag s.lnc.hold.headDown).toNat),
          BitVec.ofNat 8 ((flag s.lnc.blindAtStart.au).toNat + 2 * (flag s.lnc.blindAtStart.al).toNat +
            4 * (flag s.lnc.blindAtStart.bu).toNat + 8 * (flag s.lnc.blindAtStart.bl).toNat),
          BitVec.ofNat 8 s.trk.letters.length] ++ be32 s.trk.speed ++ [flag (!s.trk.moving)] ++
        ([Chan.au, .al, .bu, .bl].map fun c => BitVec.ofNat 8 (s.lch.chans.get c).state.code) ++
        ([Head.upper, .lower].flatMap fun h => [BitVec.ofNat 8 (s.cnu.heads.get h).state.code,
          BitVec.ofNat 8 (s.cnu.heads.get h).queue.length, flag (s.cnu.heads.get h).offPending]) ++
        be16 s.lki.events.toNat ++ be16 s.prl.profile.eventMask.toNat ++
        [BitVec.ofNat 8 s.prl.profile.reportMode.code, BitVec.ofNat 8 s.lki.reports.length] ++ be16 s.lki.dropped ++
        [flag (replyDeferred s)] ++ be16 s.lki.badFrames ++ be16 s.lki.timeouts ++ be16 s.lki.busy ++
        [BitVec.ofNat 8 s.pkm.log.length, BitVec.ofNat 8 (reservations s)] ∧
    (∀ text, s.prl.profile.officeText.toList[s.cnu.office]? = some text → postmarkFields s =
      (match s.cnu.date with
        | none => List.replicate 5 0
        | some d => 1 :: date d) ++ be16 s.cnu.timeMark ++ [BitVec.ofNat 8 s.cnu.office] ++
      (BitVec.ofNat 8 text.length :: text) ++ List.replicate (24 - text.length) 0 ++ be16 s.prl.profile.machineNo ++
      (match s.cnu.waiting with
        | none => List.replicate 9 0
        | some w => 1 :: (be32 w.num ++ date w.date)) ++
      (match s.cnu.lastFire with
        | none => List.replicate 9 0
        | some f => 1 :: (date f.date ++ be32 f.seq))) ∧
    channelsFields s =
      ([Chan.au, .al, .bu, .bl].flatMap fun c =>
        (match (s.lch.chans.get c).state with
          | .fault cause => [4, BitVec.ofNat 8 (cause.code + 1)]
          | st => [BitVec.ofNat 8 st.code, 0]) ++
        be16 ((s.lch.chans.get c).baccE / 16) ++ be16 ((s.lch.chans.get c).baccL / 16) ++
        [BitVec.ofNat 8 (s.prl.profile.gain.get c), BitVec.ofNat 8 (match (s.lch.chans.get c).state with
          | .search => (s.lch.chans.get c).quiet
          | .check => (s.lch.chans.get c).quiet
          | .locked => (s.lch.chans.get c).noisy
          | _ => 0)] ++
        be16 (s.lch.chans.get c).lockLoss ++ [BitVec.ofNat 8 (s.lch.chans.get c).source.code] ++
        be16 (s.lch.chans.get c).counter) ++
      [BitVec.ofNat 8 s.lch.capture.state.code] ++
      (match s.lch.capture.sel with
        | none => [0, 0]
        | some (c, trigger) => [BitVec.ofNat 8 (chanCode c + 1), BitVec.ofNat 8 (trigger.code + 1)]) ++
      (match s.lch.capture.letter with
        | none => [0, 0, 0]
        | some i => 1 :: be16 i.toNat) ++ [BitVec.ofNat 8 s.lch.capture.entries.length] ∧
    pocketsFields s =
      (([0, 1, 2, 3, 4, 5, 6, 7, 8, 9] : List PocketNo).flatMap fun k =>
        [BitVec.ofNat 8 (s.pkm.pockets[k]).state.code] ++ be16 (s.pkm.pockets[k]).delivered ++
        [BitVec.ofNat 8 (s.pkm.pockets[k]).pending] ++ be16 (s.pkm.pockets[k]).trayNo ++
        [BitVec.ofNat 8 (classCode (s.pkm.pockets[k]).trayClass)] ++ be16 s.prl.profile.limits[k] ++
        [flag s.inputs.tray[k], flag ((s.pkm.pockets[k]).state == .draining)]) ++
      [BitVec.ofNat 8 s.pkm.log.length, BitVec.ofNat 8 (reservations s)]) ∧
  (∀ r rest s, Served .identify r rest s → exec .identify s = .next (answered r rest (.ok false
    ([0x3A, 0x71, 0x02, 0x40, 0x11] ++ u8 (sourceCode s.prl.source) ++
      (match s.prl.result with
        | .inProgress => [0, 0, 0]
        | .ok => [1, 0, 0]
        | .clamped => [2, 0, 0]
        | .defaulted reason check => 3 :: (u8 reason.code ++ u8 check)) ++
      [1] ++ u8 (linkModeCode s.lki.mode) ++ u8 s.lki.rate.code)) s)) ∧
  (∀ r rest s, Served .getStatus r rest s →
    exec .getStatus s = .next (answered r rest (.ok false (statusFields s)) s)) ∧
  (∀ r rest s, Served .getPostmark r rest s →
    exec .getPostmark s = .next (answered r rest (.ok false (postmarkFields s)) s)) ∧
  (∀ r rest s, Served .readChannels r rest s →
    exec .readChannels s = .next (answered r rest (.ok false (channelsFields s)) s)) ∧
  (∀ r rest s, Served .readPockets r rest s →
    exec .readPockets s = .next (answered r rest (.ok false (pocketsFields s)) s)) ∧
  (∀ r rest s, Served .readTallies r rest s →
    exec .readTallies s = .next (answered r rest (.ok false (s.pkm.tallies.toList.flatMap be32)) s)) ∧
  ∀ r rest s n v, Served .getField r rest s → r.payload = [n] → s.prl.profile.field n.toNat = some v →
    exec .getField s = .next (answered r rest (.ok false (n :: v.linkBytes)) s)

/-- POLL answers with the pending set, the dropped count and the oldest reports, each after its size, as many as fit in
a payload of 248 bytes; those carried leave the report queue (R182). -/
def Obligations.PollCarriesReports : Prop :=
  ∀ r rest s, Served .poll r rest s → ∃ n, n ≤ s.lki.reports.length ∧
    exec .poll s = .next (answered r rest
      (.ok false (be16 s.lki.events.toNat ++ be16 s.lki.dropped ++ u8 n ++
        (s.lki.reports.take n).flatMap fun x => u8 x.bytes.length ++ x.bytes))
      { s with lki := { s.lki with reports := s.lki.reports.drop n } }) ∧
    6 + ((s.lki.reports.take n).flatMap fun x => u8 x.bytes.length ++ x.bytes).length ≤ 248 ∧
    (n < s.lki.reports.length →
      248 < 6 + ((s.lki.reports.take (n + 1)).flatMap fun x => u8 x.bytes.length ++ x.bytes).length)

/-- A kind that becomes pending stays pending and moves no other; in the FULL mode one in the mask that was not pending
makes a notice due. ATTN is asserted exactly when a pending kind is in the mask. SET_EVENT_MASK and SET_REPORT_MODE
write F71 and F72; CLEAR_EVENTS takes each named kind out of the pending set but a persisting kind whose condition
holds, and zeroes the dropped count with REPORTS_DROPPED; an unused bit or an undefined mode is BAD_VALUE (R181, R183,
R184, R185, R186). -/
def Obligations.EventSetRules : Prop :=
  (∀ s : State, attnPin s = true ↔ s.inReset = false ∧
    ∃ k, EventSet.has s.lki.events k = true ∧ EventSet.has s.prl.profile.eventMask k = true) ∧
  (∀ (k : EventKind) (s : State),
    (∀ j, EventSet.has (raise k s).lki.events j = (EventSet.has s.lki.events j || j == k)) ∧
    ((raise k s).lki.noticeDue = true ↔ s.lki.noticeDue = true ∨
      (s.lki.mode = .full ∧ EventSet.has s.lki.events k = false ∧ EventSet.has s.prl.profile.eventMask k = true)) ∧
    OnlyEvents s (raise k s) ∧ ChangesOnly [.lki] s (raise k s)) ∧
  (∀ r rest s a b, Served .setEventMask r rest s → r.payload = [a, b] →
    (a.toNat < 64 → exec .setEventMask s = .next (answered r rest
      (.ok false ([a, b] ++ be16 s.lki.events.toNat))
      { s with prl := { s.prl with
        profile := { s.prl.profile with eventMask := BitVec.ofNat 14 (a.toNat * 256 + b.toNat) } } })) ∧
    (64 ≤ a.toNat → exec .setEventMask s = .next (refused r rest .badValue s))) ∧
  (∀ r rest s a b, Served .clearEvents r rest s → r.payload = [a, b] →
    (64 ≤ a.toNat → exec .clearEvents s = .next (refused r rest .badValue s)) ∧
    (a.toNat < 64 → ∃ t, exec .clearEvents s = .next t ∧
      (∀ j, EventSet.has t.lki.events j = (EventSet.has s.lki.events j &&
        !(EventSet.has (BitVec.ofNat 14 (a.toNat * 256 + b.toNat)) j && !persists s j))) ∧
      t.lki.dropped = (if EventSet.has s.lki.events .reportsDropped = true ∧
        EventSet.has t.lki.events .reportsDropped = false then 0 else s.lki.dropped) ∧
      t.lki = { s.lki with
        requests := rest
        replies := s.lki.replies ++ [placeOf r (.ok false (be16 t.lki.events.toNat))]
        events := t.lki.events, dropped := t.lki.dropped } ∧
      ChangesOnly [.lki] s t)) ∧
  (∀ s j, persists s j = true ↔
    (j = .fault ∧ s.lnc.line = .faulted) ∨
    (j = .headFault ∧ ∃ h, (s.cnu.heads.get h).state = .fault) ∨
    (j = .channelFault ∧ ∃ c cause, (s.lch.chans.get c).state = .fault cause)) ∧
  ∀ r rest s x, Served .setReportMode r rest s → r.payload = [x] →
    (x.toNat < 3 → exec .setReportMode s = .next (answered r rest (.ok false [x])
      { s with prl := { s.prl with profile := { s.prl.profile with
        reportMode := if x = 0 then .off else if x = 1 then .cullOnly else .all } } })) ∧
    (3 ≤ x.toNat → exec .setReportMode s = .next (refused r rest .badValue s))

/-- RESET is accepted in STOPPED, STANDBY, and FAULTED with the belt still: it is answered OK, every request behind it
is answered NOT_READY in its order, and the reset waits for its replies; elsewhere it is refused with WRONG_STATE. The
reset of an accepted RESET acts once its last reply has been sent, and not before. It keeps the belt, the ids, the
postmark settings and sequence state, the pockets, trays, tray log and tallies, the straps and the source; it begins
LOADING with every other part of the state named here cleared: no face is outstanding, both shutters are lowered and no
channel is blind at start (R29, R56, R92, R117, R146, R166, R178, R188, R198). Four points are the model's: both window
counts are set to 0 (DESIGN CHOICE, log entry 28); of the feed hold set OPERATOR alone is cleared, and the reasons
LIST_HIGH, CATCH_FULL and HEAD_DOWN stand until they are tested at the end of LOADING (DEDUCED, log entry 21); the last
reply has been sent when the reply queue is empty, though its frame may still be shown being sent (DESIGN CHOICE, log
entry 6); and the load result is IN_PROGRESS under BUILTIN too, R200 against R190 (DEDUCED, log entry 9). -/
def Obligations.SoftResetActs : Prop :=
  (∀ r rest s, Served .reset r rest s →
    (s.lnc.line = .stopped ∨ s.lnc.line = .standby ∨ (s.lnc.line = .faulted ∧ s.trk.moving = false) →
      exec .reset s = .next { s with lki := { s.lki with
        requests := [], resetPending := true
        replies := .composed ⟨0x84, r.tag, [0]⟩ ::
          rest.map fun q => .composed ⟨0xFF, q.tag, [q.kind, 0x04, 0]⟩ } }) ∧
    (¬ (s.lnc.line = .stopped ∨ s.lnc.line = .standby ∨ (s.lnc.line = .faulted ∧ s.trk.moving = false)) →
      exec .reset s = .next (refused r rest .wrongState s))) ∧
  ∀ s : State, s.inReset = false →
    (s.lki.resetPending = false ∨ s.lki.replies ≠ [] → exec .softReset s = .next s) ∧
    (s.lki.resetPending = true → s.lki.replies = [] → ∃ t, exec .softReset s = .next t ∧
      t.trk = { s.trk with measuring := none, lastTe := none, gates := Vector.replicate 10 ⟨none, false⟩ } ∧
      (∀ c, (t.lch.chans.get c).state = .idle ∧ (t.lch.chans.get c).quiet = 0 ∧ (t.lch.chans.get c).noisy = 0 ∧
        (t.lch.chans.get c).lockLoss = 0 ∧ (t.lch.chans.get c).source = .runsKept ∧
        (t.lch.chans.get c).counter = 0) ∧
      (t.lch.outstanding = ⟨false, false⟩ ∧ t.lch.shutter = ⟨false, false⟩ ∧ t.lch.flashDue = none) ∧
      t.lch.capture.state = .empty ∧ t.lch.capture.entries = [] ∧ t.lch.calib = none ∧ t.scan = none ∧ t.held = none ∧
      (t.cnu.date = s.cnu.date ∧ t.cnu.timeMark = s.cnu.timeMark ∧ t.cnu.office = s.cnu.office ∧
        t.cnu.waiting = s.cnu.waiting ∧ t.cnu.lastFire = s.cnu.lastFire) ∧
      (∀ h, (t.cnu.heads.get h).state = (if s.inputs.headFault.get h then .fault else .ready) ∧
        (t.cnu.heads.get h).queue = [] ∧ (t.cnu.heads.get h).printing = none ∧
        (t.cnu.heads.get h).recoveryEnd = none ∧ (t.cnu.heads.get h).recoveringFrom = none ∧
        (t.cnu.heads.get h).offPending = false) ∧
      t.pkm.pockets = s.pkm.pockets ∧ t.pkm.log = s.pkm.log ∧ t.pkm.tallies = s.pkm.tallies ∧
      (t.lnc.line = .loading ∧ t.lnc.reason = none ∧ t.lnc.hold = { s.lnc.hold with operator := false } ∧
        t.lnc.atSpeed = 0 ∧ t.lnc.below = 0 ∧ t.lnc.startTimer = none ∧ t.lnc.drainTimer = .off ∧ t.lnc.stopTimer = none ∧ t.lnc.wake = none ∧
        t.lnc.blindAtStart = ⟨false, false, false, false⟩) ∧
      (t.lki.mode = s.lki.mode ∧ t.lki.rate = s.lki.rate ∧ t.lki.rx = .hunt ∧ t.lki.requests = [] ∧
        t.lki.replies = [] ∧ t.lki.reports = [] ∧ t.lki.events = 0 ∧ t.lki.noticeDue = false ∧
        t.lki.resetPending = false ∧ t.lki.dropped = 0 ∧ t.lki.badFrames = 0 ∧ t.lki.timeouts = 0 ∧ t.lki.busy = 0 ∧
        t.lki.sending = false) ∧
      (t.prl.source = s.prl.source ∧ t.prl.result = .inProgress ∧ t.prl.afterPin = false ∧ t.prl.store = .idle) ∧
      ChangesOnly [.trk, .lch, .scan, .held, .cnu, .pkm, .lnc, .lki, .prl] s t)

/-! ### The line (chapter 7) -/

/-- START is checked in its order, WRONG_STATE, PROFILE_INVALID with the failing check, NO_POSTMARK, CONDITION_ACTIVE,
and otherwise the line enters STARTING: the start timer runs, the windows at speed start from 0, every channel enters
SEARCH with nominal accumulators, and LINE_STATE becomes pending (R39, R149, R150). -/
def Obligations.StartEntersStarting : Prop :=
  ∀ r rest s, Served .start r rest s →
    (s.lnc.line ≠ .stopped → s.lnc.line ≠ .standby → exec .start s = .next (refused r rest .wrongState s)) ∧
    (s.lnc.line = .stopped ∨ s.lnc.line = .standby →
      (∀ n, s.prl.profile.firstFailing = some n →
        exec .start s = .next (answered r rest (.error .profileInvalid n) s)) ∧
      (s.prl.profile.firstFailing = none → s.cnu.date = none →
        exec .start s = .next (refused r rest .noPostmark s)) ∧
      (s.prl.profile.firstFailing = none → s.cnu.date.isSome = true → s.inputs.estop = true →
        exec .start s = .next (refused r rest .conditionActive s)) ∧
      (s.prl.profile.firstFailing = none → s.cnu.date.isSome = true → s.inputs.estop = false →
        exec .start s = .next (answered r rest (.ok false [2]) (raise .lineState { s with
          lnc := { s.lnc with
            line := .starting, startTimer := some s.prl.profile.startTimeout, atSpeed := 0
            blindAtStart := ⟨false, false, false, false⟩, wake := none }
          lch := { s.lch with
            chans := s.lch.chans.map fun c => { c with
              state := .search, quiet := 0, noisy := 0
              baccE := 16 * s.prl.profile.nominalBase, baccL := 16 * s.prl.profile.nominalBase }
            outstanding := ⟨false, false⟩, flashDue := none, flashPos := none } }))))

/-- STOP in STARTING or RUNNING enters STOPPING with the drain timer running and is answered STOPPING; with no letter in
the list the drain ends at once, and the stop timer runs, or the line is STOPPED where the belt is still, with
LINE_STATE pending, the sampling ended and every channel that is not in FAULT in IDLE. In STOPPING it only answers; in
STOPPED, STANDBY and FAULTED it is WRONG_STATE (R39, R48, R157, R158, R159). That the count of windows below speed is
set to 0 where the drain ends is the model's choice (DESIGN CHOICE, log entry 28), and that the reply gives STOPPING
although the line is STOPPED in the same step is its reading (DEDUCED, log entry 26). -/
def Obligations.StopEntersStopping : Prop :=
  ∀ r rest s, Served .stop r rest s →
    (s.lnc.line = .starting ∨ s.lnc.line = .running →
      (s.trk.letters ≠ [] → exec .stop s = .next (answered r rest (.ok false [4]) (raise .lineState { s with
        lnc := { s.lnc with
          line := .stopping, startTimer := none, drainTimer := .running s.prl.profile.drainTimeout } }))) ∧
      (s.trk.letters = [] → s.trk.moving = true →
        exec .stop s = .next (answered r rest (.ok false [4]) (raise .lineState { s with
          lnc := { s.lnc with
            line := .stopping, startTimer := none, drainTimer := .held s.prl.profile.drainTimeout, below := 0
            stopTimer := some s.prl.profile.stopTimeout } }))) ∧
      (s.trk.letters = [] → s.trk.moving = false →
        exec .stop s = .next (answered r rest (.ok false [4]) (raise .lineState { s with
          lnc := { s.lnc with
            line := .stopped, startTimer := none, drainTimer := .off, below := 0, stopTimer := none }
          scan := none, held := none
          lch := { s.lch with
            chans := s.lch.chans.map fun c =>
              if c.state.isFault then c else { c with state := .idle, quiet := 0, noisy := 0 }
            outstanding := ⟨false, false⟩, flashDue := none, flashPos := none
            capture := if s.lch.capture.state = .armed ∨ s.lch.capture.state = .filling
              then ⟨.empty, none, none, none, []⟩ else s.lch.capture } })))) ∧
    (s.lnc.line = .stopping → exec .stop s = .next (answered r rest (.ok false [4]) s)) ∧
    (s.lnc.line = .stopped ∨ s.lnc.line = .standby ∨ s.lnc.line = .faulted →
      exec .stop s = .next (refused r rest .wrongState s))

/-- STANDBY is entered from STOPPED; with AUTOWAKE on, an active FEEDLOAD starts the wake debounce there, FEEDLOAD going
inactive stops it, and its end wakes the line to STOPPED with LINE_STATE and WAKE pending (R164, R165). -/
def Obligations.StandbyAndWake : Prop :=
  (∀ r rest s, Served .standby r rest s →
    (s.lnc.line = .stopped → exec .standby s = .next (answered r rest (.ok false [6]) (raise .lineState { s with
      lnc := { s.lnc with
        line := .standby
        wake := if s.prl.profile.autowake && s.inputs.feedload && s.lnc.wake.isNone
          then some s.prl.profile.wakeDebounce else s.lnc.wake } }))) ∧
    (s.lnc.line = .standby → exec .standby s = .next (answered r rest (.ok false [6]) s)) ∧
    (s.lnc.line ≠ .stopped → s.lnc.line ≠ .standby →
      exec .standby s = .next (refused r rest .wrongState s))) ∧
  (∀ s : State, s.inReset = false →
    exec .feedloadActive s = .next { s with
      inputs := { s.inputs with feedload := true }
      lnc := { s.lnc with
        wake := if s.lnc.line == .standby && s.prl.profile.autowake && s.lnc.wake.isNone
          then some s.prl.profile.wakeDebounce else s.lnc.wake } } ∧
    exec .feedloadInactive s = .next
      { s with inputs := { s.inputs with feedload := false }, lnc := { s.lnc with wake := none } }) ∧
  ∀ s : State, s.inReset = false →
    (s.lnc.line = .standby → s.lnc.wake.isSome = true →
      exec .wake s = .next (raise .wake (raise .lineState
        { s with lnc := { s.lnc with line := .stopped, wake := none } }))) ∧
    (s.lnc.line ≠ .standby ∨ s.lnc.wake = none → exec .wake s = .next s)

/-- CLEAR_FAULT leaves FAULTED for STOPPED with the belt still and ESTOP_N inactive, and the fault reason goes; it is
CONDITION_ACTIVE before that and WRONG_STATE outside FAULTED. HOLD_FEED and RELEASE_FEED put OPERATOR in and out of the
hold set in every line state, and make HOLD pending where the set goes between empty and non-empty; FEED is asserted
exactly in RUNNING with the set empty (R153, R154, R155, R163). -/
def Obligations.ClearFaultAndFeedHold : Prop :=
  (∀ s : State, feedPin s = true ↔
    s.inReset = false ∧ s.lnc.line = .running ∧ s.lnc.hold = ⟨false, false, false, false⟩) ∧
  (∀ r rest s, Served .clearFault r rest s →
    (s.lnc.line ≠ .faulted → exec .clearFault s = .next (refused r rest .wrongState s)) ∧
    (s.lnc.line = .faulted → s.trk.moving = true ∨ s.inputs.estop = true →
      exec .clearFault s = .next (refused r rest .conditionActive s)) ∧
    (s.lnc.line = .faulted → s.trk.moving = false → s.inputs.estop = false →
      exec .clearFault s = .next (answered r rest (.ok false [1])
        (raise .lineState { s with lnc := { s.lnc with line := .stopped, reason := none } })))) ∧
  (∀ r rest s, Served .holdFeed r rest s →
    exec .holdFeed s = .next (answered r rest (.ok false { s.lnc.hold with operator := true }.byte)
      (if s.lnc.hold.isEmpty then
        raise .hold { s with lnc := { s.lnc with hold := { s.lnc.hold with operator := true } } }
      else { s with lnc := { s.lnc with hold := { s.lnc.hold with operator := true } } }))) ∧
  ∀ r rest s, Served .releaseFeed r rest s →
    exec .releaseFeed s = .next (answered r rest (.ok false { s.lnc.hold with operator := false }.byte)
      (if s.lnc.hold = ⟨true, false, false, false⟩ then
        raise .hold { s with lnc := { s.lnc with hold := { s.lnc.hold with operator := false } } }
      else { s with lnc := { s.lnc with hold := { s.lnc.hold with operator := false } } }))

/-- The timers of the line and ESTOP_N: the start timer's end without the speed condition, the drain timer's end with
records left, the stop timer's end with the belt moving, and ESTOP_N becoming active each make the line FAULTED with
their cause; the start timer's end at speed enters RUNNING with the unlocked channels blind at start (R151, R152, R158,
R159, R160, R161, R162). -/
def Obligations.TimersAndEstop : Prop :=
  ∀ s : State, s.inReset = false →
    (s.lnc.line = .starting → s.lnc.startTimer.isSome = true →
      (s.lnc.atSpeed < 10 → ∃ t, exec .startTimeout s = .next t ∧ FaultedEntry .startFail s t) ∧
      (10 ≤ s.lnc.atSpeed → exec .startTimeout s = .next (raise .channelBlind (raise .lineState { s with
        trk := { s.trk with lastTe := none }
        lnc := { s.lnc with
          line := .running, startTimer := none, below := 0
          blindAtStart := s.lch.chans.map fun c => c.state != .locked } })))) ∧
    (∀ ms, s.lnc.line = .stopping → s.lnc.drainTimer = .running ms → s.trk.letters ≠ [] →
      ∃ t, exec .drainTimeout s = .next t ∧ FaultedEntry .drainTimeout s t) ∧
    (s.lnc.line = .stopping → s.lnc.stopTimer.isSome = true →
      (s.trk.moving = true → ∃ t, exec .stopFail s = .next t ∧ FaultedEntry .stopFail s t) ∧
      (s.trk.moving = false → ∃ t, exec .stopFail s = .next t ∧ t.lnc.line = .stopped)) ∧
    (s.inputs.estop = false → s.lnc.line ≠ .faulted → s.lnc.line ≠ .loading → ∃ t, exec (.estop true) s = .next t ∧
      FaultedEntry .estop { s with inputs := { s.inputs with estop := true } } t) ∧
    (s.inputs.estop = true ∨ s.lnc.line = .faulted ∨ s.lnc.line = .loading →
      exec (.estop true) s = .next { s with inputs := { s.inputs with estop := true } }) ∧
    exec (.estop false) s = .next { s with inputs := { s.inputs with estop := false } }

/-- A speed window's end gives the belt speed, 100 times its pulses. In STARTING it counts the windows at speed, and
the line enters RUNNING at the tenth with every channel LOCKED; in RUNNING and in the drain phase it counts the windows
below speed, and the twentieth makes the line FAULTED with SPEED_LOW (R3, R151, R156). -/
def Obligations.SpeedWindowSupervises : Prop :=
  ∀ s : State, s.inReset = false → ∀ u : State,
    u = { s with trk := { s.trk with speed := s.trk.windowCount * 100, windowCount := 0 } } →
    (s.lnc.line ≠ .starting → s.lnc.line ≠ .running →
      ¬ (s.lnc.line = .stopping ∧ s.lnc.stopTimer = none) → exec .speedWindowEnd s = .next u) ∧
    (s.lnc.line = .starting →
      (u.trk.speed < s.prl.profile.minSpeed →
        exec .speedWindowEnd s = .next { u with lnc := { s.lnc with atSpeed := 0 } }) ∧
      (s.prl.profile.minSpeed ≤ u.trk.speed → s.lnc.atSpeed < 9 ∨ (∃ c, (s.lch.chans.get c).state ≠ .locked) →
        exec .speedWindowEnd s = .next { u with lnc := { s.lnc with atSpeed := min (s.lnc.atSpeed + 1) 10 } }) ∧
      (s.prl.profile.minSpeed ≤ u.trk.speed → 9 ≤ s.lnc.atSpeed → (∀ c, (s.lch.chans.get c).state = .locked) →
        exec .speedWindowEnd s = .next (raise .lineState { u with
          trk := { u.trk with lastTe := none }
          lnc := { s.lnc with line := .running, startTimer := none, atSpeed := 10, below := 0 } }))) ∧
    (s.lnc.line = .running ∨ (s.lnc.line = .stopping ∧ s.lnc.stopTimer = none) →
      (s.prl.profile.minSpeed ≤ u.trk.speed →
        exec .speedWindowEnd s = .next { u with lnc := { s.lnc with below := 0 } }) ∧
      (u.trk.speed < s.prl.profile.minSpeed → s.lnc.below + 1 < 20 →
        exec .speedWindowEnd s = .next { u with lnc := { s.lnc with below := s.lnc.below + 1 } }) ∧
      (u.trk.speed < s.prl.profile.minSpeed → 20 ≤ s.lnc.below + 1 →
        ∃ t, exec .speedWindowEnd s = .next t ∧ FaultedEntry .speedLow u t))

/-- A pulse moves the belt by one, modulo 2^32, in every line state, counts in its window, and makes a flash due at a
multiple of PITCH while sampling. 50 ms without one make it read still: a stop that waits for it is STOPPED, and in
FAULTED the channels go to IDLE and the heads lose their recovery (R1, R3, R4, R30, R39, R116, R159). -/
def Obligations.BeltPulseAndStillness : Prop :=
  (∀ s : State, s.inReset = false → exec .encPulse s = .next { s with
    trk := { s.trk with
      belt := BitVec.ofNat 32 (s.trk.belt.toNat + 1), windowCount := min (s.trk.windowCount + 1) 65535, moving := true }
    lch := { s.lch with
      flashDue :=
        if s.lnc.line.sampling && (s.trk.belt + 1).toNat % s.prl.profile.pitch == 0 then some (s.trk.belt + 1)
        else s.lch.flashDue } }) ∧
  ∀ s : State, s.inReset = false →
    (s.trk.moving = false → exec .beltStill s = .next s) ∧
    (s.trk.moving = true → s.lnc.line ≠ .faulted → ¬ (s.lnc.line = .stopping ∧ s.lnc.stopTimer.isSome = true) →
      exec .beltStill s = .next { s with trk := { s.trk with moving := false } }) ∧
    (s.trk.moving = true → s.lnc.line = .stopping → s.lnc.stopTimer.isSome = true →
      ∃ t, exec .beltStill s = .next t ∧
        t.trk = { s.trk with moving := false } ∧
        t.lnc = { s.lnc with line := .stopped, stopTimer := none, drainTimer := .off } ∧
        (∀ c, t.lch.chans.get c = if (s.lch.chans.get c).state.isFault then s.lch.chans.get c
          else { s.lch.chans.get c with state := .idle, quiet := 0, noisy := 0 }) ∧
        t.lch.outstanding = ⟨false, false⟩ ∧ t.lch.flashDue = none ∧ t.scan = none ∧ t.held = none ∧
        Raised [.lineState] s t ∧ ChangesOnly [.trk, .lch, .scan, .held, .lnc, .lki] s t) ∧
    (s.trk.moving = true → s.lnc.line = .faulted →
      ∃ t, exec .beltStill s = .next t ∧
        t.trk = { s.trk with moving := false } ∧
        (∀ c, t.lch.chans.get c = if (s.lch.chans.get c).state.isFault then s.lch.chans.get c
          else { s.lch.chans.get c with state := .idle, quiet := 0, noisy := 0 }) ∧
        (∀ h, (t.cnu.heads.get h).recoveryEnd = none ∧ (t.cnu.heads.get h).recoveringFrom = none ∧
          (t.cnu.heads.get h).state = (if (s.cnu.heads.get h).state = .recovering then
            if (s.cnu.heads.get h).offPending then .off else .ready
          else (s.cnu.heads.get h).state)) ∧
        t.lnc.line = .faulted ∧ t.lnc.reason = s.lnc.reason ∧
        ChangesOnly [.trk, .lch, .cnu, .lnc, .lki] s t)

/-! ### Transport and letter tracking (chapter 1) -/

/-- A leading edge at E0 in RUNNING or STOPPING, with room in the list and no verdict held, makes a record with the
next id, its position, its gap with CLOSE below GMIN, and its LONG and BLOCKED points; it counts as INDUCTED, LIST_HIGH
follows the list, and an ended drain resumes. In LOADING and FAULTED the edge is discarded (R6, R8, R9, R10, R16, R141,
R158). -/
def Obligations.InductionMakesRecord : Prop :=
  ∀ s : State, s.inReset = false → s.inputs.e0 = false →
    (s.lnc.line = .loading ∨ s.lnc.line = .faulted →
      exec .e0LeEdge s = .next { s with inputs := { s.inputs with e0 := true } }) ∧
    (s.lnc.line = .running ∨ s.lnc.line = .stopping → s.trk.letters.length < 48 → s.held = none →
      ∃ t, exec .e0LeEdge s = .next t ∧
        t.inputs = { s.inputs with e0 := true } ∧
        t.trk = { s.trk with
          letters := s.trk.letters ++ [{
            id := s.trk.nextId
            lePos := s.trk.belt
            length := none
            gap := s.trk.lastTe.map fun te => posDiff te s.trk.belt
            flags := {
              close := match s.trk.lastTe with
                | some te => decide (posDiff te s.trk.belt < s.prl.profile.gmin)
                | none => false
              short := false, long := false, resynced := false }
            resync := none, results := none, verdict := none, route := none, cancel := none, dest := none
            noTray := false, arrived := [], setupReached := [], owned := []
            longPoint := some (s.trk.belt + BitVec.ofNat 32 (s.prl.profile.lmax + 1))
            blockedPoint := some (s.trk.belt + BitVec.ofNat 32 (4 * s.prl.profile.lmax + 1))
            pdecPoint := none }]
          nextId := s.trk.nextId + 1
          measuring := some s.trk.nextId } ∧
        tally .inducted t = min (tally .inducted s + 1) 4294967295 ∧
        (∀ x, x ≠ .inducted → tally x t = tally x s) ∧
        t.lnc.hold = { s.lnc.hold with listHigh := decide (44 ≤ s.trk.letters.length + 1) } ∧
        t.lnc.line = s.lnc.line ∧
        (∀ ms, s.lnc.line = .stopping → s.lnc.drainTimer = .held ms →
          t.lnc.drainTimer = .running ms ∧ t.lnc.stopTimer = none ∧ t.lnc.below = 0) ∧
        ChangesOnly [.inputs, .trk, .pkm, .lnc, .lki] s t)

/-- What the tracker cannot account for makes the line FAULTED, naming the eye and the letter: a stray edge at E0 or at
a later eye, an edge before the waiting letter's window opens, a letter missing at an expiry point, a letter blocking E0
at its BLOCKED point, and an induction with 48 records (R8, R9, R13, R16, R17, R19, R21, R160). That an edge before the
waiting letter's open point is the one "ahead" of it in R17, and that its jam names that letter, is the model's reading
(DEDUCED, log entry 12). -/
def Obligations.JamsMakeFaulted : Prop :=
  ∀ s : State, s.inReset = false →
    (s.inputs.e0 = false → s.lnc.line = .stopped ∨ s.lnc.line = .standby ∨ s.lnc.line = .starting →
      ∃ t, exec .e0LeEdge s = .next t ∧
        FaultedEntry (.jam ⟨.stray, .e0, none⟩) { s with inputs := { s.inputs with e0 := true } } t) ∧
    (s.inputs.e0 = false → s.lnc.line = .running ∨ s.lnc.line = .stopping → 48 ≤ s.trk.letters.length →
      ∃ t, exec .e0LeEdge s = .next t ∧
        FaultedEntry .trackOverflow { s with inputs := { s.inputs with e0 := true } } t) ∧
    (∀ e, e ≠ .e0 → s.inputs.blocked e = false → s.lnc.line.sampling = true → waitingAt e s = none →
      ∃ t, exec (.eyeLeEdge ⟨e, true⟩) s = .next t ∧
        FaultedEntry (.jam ⟨.stray, e, none⟩) { s with inputs := s.inputs.setEye e true } t) ∧
    (∀ e l, e ≠ .e0 → s.inputs.blocked e = false → s.lnc.line.sampling = true → waitingAt e s = some l →
      reached s.trk.belt (expiryPointAt s.prl.profile l e) = false →
      reached s.trk.belt (openPoint s.prl.profile l e) = false →
      ∃ t, exec (.eyeLeEdge ⟨e, true⟩) s = .next t ∧
        FaultedEntry (.jam ⟨.stray, e, some l.id⟩) { s with inputs := s.inputs.setEye e true } t) ∧
    (∀ id e l, s.lnc.line ≠ .faulted → s.lnc.line ≠ .loading → findLetter id s = some l → e ∈ expectedEyes l →
      e ∉ l.arrived → ¬ (deliveryEye l e = true ∧ undeliverable l s = true) →
      reached s.trk.belt (expiryPointAt s.prl.profile l e) = true →
      ∃ t, exec (.expiryPoint id e) s = .next t ∧ FaultedEntry (.jam ⟨.missing, e, some id⟩) s t) ∧
    (∀ l, s.lnc.line ≠ .faulted → s.lnc.line ≠ .loading → measuredLetter s = some l → s.inputs.e0 = true →
      due s.trk.belt l.blockedPoint = true →
      ∃ t, exec .blockedPoint s = .next t ∧ FaultedEntry (.jam ⟨.blocked, .e0, some l.id⟩) s t)

/-- A trailing edge at E0 gives the measured letter its length, with SHORT below LMIN, cancels its LONG and BLOCKED
points, and becomes the last TE position; a LONG point already reached is taken first. Where a flash at or beyond the
scan's completion position has been handed already, the scan completes with the length: the open runs close, the results
are written, and the verdict is made or held; otherwise the letter's results and verdict are left as they are. With no
letter measured, or in LOADING or FAULTED, the edge is discarded (R6, R9, R11, R12, R64, R69, R70, R76, R77, R78). -/
def Obligations.TrailingEdgeMeasures : Prop :=
  ∀ s : State, s.inReset = false → s.inputs.e0 = true →
    (s.lnc.line = .loading ∨ s.lnc.line = .faulted ∨ measuredLetter s = none →
      exec .e0TeEdge s = .next { s with inputs := { s.inputs with e0 := false } }) ∧
    (∀ l, s.lnc.line ≠ .loading → s.lnc.line ≠ .faulted → measuredLetter s = some l →
      ∃ t m, exec .e0TeEdge s = .next t ∧ t.inputs = { s.inputs with e0 := false } ∧
        t.trk.lastTe = some s.trk.belt ∧ t.trk.measuring = none ∧ t.trk.belt = s.trk.belt ∧
        findLetter l.id t = some m ∧ m.lePos = l.lePos ∧
        m.length = some (posDiff l.lePos s.trk.belt) ∧
        m.flags.short = (l.flags.short || decide (posDiff l.lePos s.trk.belt < s.prl.profile.lmin)) ∧
        m.flags.long = (l.flags.long || due s.trk.belt l.longPoint) ∧
        m.longPoint = none ∧ m.blockedPoint = none ∧
        ∀ l' : Letter, due s.trk.belt l.longPoint = false →
          l' = { l with
            length := some (posDiff l.lePos s.trk.belt), longPoint := none, blockedPoint := none
            flags := { l.flags with
              short := l.flags.short || decide (posDiff l.lePos s.trk.belt < s.prl.profile.lmin) } } →
          (∀ pos, s.lch.flashPos = some pos → scanEndsBy s.prl.profile pos l' = true →
            ∃ res, (∀ c, res.get c = resultAfter s.prl.profile ((scanOf l.id s).blind.get c) ((scanOf l.id s).ctx.get c)) ∧
              ScanJudged res l' s t) ∧
          ((∀ pos, s.lch.flashPos = some pos → scanEndsBy s.prl.profile pos l' = false) →
            m.results = l.results ∧ m.verdict = l.verdict ∧ m.route = l.route ∧ m.cancel = l.cancel ∧ m.dest = l.dest ∧
            t.held = s.held ∧ t.scan = s.scan ∧ t.cnu = s.cnu ∧ t.pkm = s.pkm))

/-- A letter whose LONG point is reached is marked LONG: its scan ends, its open runs closed, with its results, and it is
rejected with LONG and routed to pocket 0 without a print, its length left as it is (R12, R64, R70, R77, R85, R86, R87,
R88, R122). -/
def Obligations.LongPointRejects : Prop :=
  ∀ (s : State) (l : Letter), s.inReset = false → longDue s = some l → findLetter l.id s = some l →
    ∃ t m res, exec .longPoint s = .next t ∧ findLetter l.id t = some m ∧
      m.flags = { l.flags with long := true } ∧ m.longPoint = none ∧ m.length = l.length ∧ m.results = some res ∧
      (∀ c, res.get c = resultAfter s.prl.profile ((scanOf l.id s).blind.get c) ((scanOf l.id s).ctx.get c)) ∧
      VerdictWritten ⟨.reject, none, ⟨l.flags.short, true, l.flags.close, false, false, false, false, false⟩, none⟩
        l m s t ∧
      m.verdict = some ⟨.reject, none,
        ⟨l.flags.short, true, l.flags.close, false, false, false, false, false⟩, none⟩ ∧
      m.route = some .cull ∧ m.dest = some ⟨0, none⟩ ∧ m.cancel = some ⟨.notRequired, none, none, none⟩ ∧
      t.held ≠ some l.id ∧ (t.scan.map ScanContext.letter) ≠ some l.id

/-- An edge at a later eye is a change of the level kept for it: a level that stands already is no edge, and a trailing
edge only makes the eye clear. A leading edge within the window at an eye that does not deliver the letter only marks
it, but at E3 it re-synchronises the letter: its position moves by the deviation, so that the belt stands at its
corrected E3 point, and the points that follow from it move with it. Outside sampling an edge at a later eye is
discarded (R6, R17, R18, R20, R99, R121). Of its print every point that is set up moves. R99 adds that only the fire
start can be set up by then, which R193 does not ensure: that a fire end or a recovery end moves by the same rule is the
model's reading (DEDUCED, log entry 34); that a gate's release point moved to the belt or behind it stays set up is its
choice (DESIGN CHOICE, log entry 35). -/
def Obligations.ArrivalMarksAndResynchronises : Prop :=
  (∀ (i : Inputs) (e d : Eye) (b : Bool), (i.setEye e b).blocked d = if d = e then b else i.blocked d) ∧
  ∀ (s : State) (e : Eye), s.inReset = false → e ≠ .e0 →
    (∀ b, s.inputs.blocked e = b → exec (.eyeLeEdge ⟨e, b⟩) s = .next s) ∧
    (s.inputs.blocked e = true →
      exec (.eyeLeEdge ⟨e, false⟩) s = .next { s with inputs := s.inputs.setEye e false }) ∧
    (s.inputs.blocked e = false → s.lnc.line.sampling = false →
      exec (.eyeLeEdge ⟨e, true⟩) s = .next { s with inputs := s.inputs.setEye e true }) ∧
    ∀ l, s.inputs.blocked e = false → s.lnc.line.sampling = true → waitingAt e s = some l → deliveryEye l e = false →
      reached s.trk.belt (openPoint s.prl.profile l e) = true →
      reached s.trk.belt (expiryPointAt s.prl.profile l e) = false →
      (e ≠ .e3 → exec (.eyeLeEdge ⟨e, true⟩) s = .next { s with
        inputs := s.inputs.setEye e true
        trk := { s.trk with
          letters := s.trk.letters.map fun x => if x.id = l.id then { x with arrived := x.arrived ++ [e] } else x } }) ∧
      (∀ d, e = .e3 → d = posDiff (l.lePos + BitVec.ofNat 32 s.prl.profile.e3Pos) s.trk.belt →
        moveBy l.lePos d + BitVec.ofNat 32 s.prl.profile.e3Pos = s.trk.belt ∧
        ∃ t, exec (.eyeLeEdge ⟨.e3, true⟩) s = .next t ∧ t.inputs = s.inputs.setEye .e3 true ∧
          t.trk.letters = (s.trk.letters.map fun x => if x.id = l.id then { x with
            arrived := x.arrived ++ [.e3], lePos := moveBy x.lePos d, resync := some d
            flags := { x.flags with resynced := x.flags.resynced || d != 0 }
            pdecPoint := x.pdecPoint.map fun p => moveBy p d } else x) ∧
          (∀ g, gateOf g t = { gateOf g s with owner := (gateOf g s).owner.map fun o =>
            if o.id = l.id then { o with release := o.release.map fun p => moveBy p d } else o }) ∧
          (∀ h, t.cnu.heads.get h = { s.cnu.heads.get h with
            fireEnd := if (s.cnu.heads.get h).printing = some l.id
              then (s.cnu.heads.get h).fireEnd.map fun p => moveBy p d else (s.cnu.heads.get h).fireEnd
            recoveryEnd := if (s.cnu.heads.get h).recoveringFrom = some l.id
              then (s.cnu.heads.get h).recoveryEnd.map fun p => moveBy p d else (s.cnu.heads.get h).recoveryEnd }) ∧
          t.trk = { s.trk with letters := t.trk.letters, gates := t.trk.gates } ∧
          ChangesOnly [.inputs, .trk, .cnu] s t)

/-- A letter leaves the list at its pocket eye: an arrival there within its window delivers it, counted in its pocket's
tally and reported where the mode calls for it, unless it bears the no-tray mark or its pocket is in NO_TRAY, when it
is only marked as arrived and its expiry point removes it as LOST_NO_TRAY. A report that finds 64 in the queue is
dropped: the dropped count counts it, and REPORTS_DROPPED becomes pending (R18, R19, R26, R27, R123, R125, R141, R179,
R180). -/
def Obligations.LettersLeaveAtPocketEye : Prop :=
  (∀ (s : State) (e : Eye) (l : Letter) (d : Destination), s.inReset = false → e ≠ .e0 →
    s.inputs.blocked e = false → s.lnc.line.sampling = true → waitingAt e s = some l → findLetter l.id s = some l →
    l.dest = some d → pocketEye d.pocket = e →
    reached s.trk.belt (openPoint s.prl.profile l e) = true →
    reached s.trk.belt (expiryPointAt s.prl.profile l e) = false →
    (undeliverable l s = true → exec (.eyeLeEdge ⟨e, true⟩) s = .next { s with
      inputs := s.inputs.setEye e true
      trk := { s.trk with
        letters := s.trk.letters.map fun x => if x.id = l.id then { x with arrived := x.arrived ++ [e] } else x } }) ∧
    (undeliverable l s = false → ∃ t, exec (.eyeLeEdge ⟨e, true⟩) s = .next t ∧
      t.inputs = s.inputs.setEye e true ∧
      t.trk.letters.map (·.id) = (s.trk.letters.map (·.id)).filter (· != l.id) ∧
      tally (.delivered d.pocket) t = min (tally (.delivered d.pocket) s + 1) 4294967295 ∧
      tally .lostNoTray t = tally .lostNoTray s ∧ tally .lostFault t = tally .lostFault s ∧
      (reportCalled s.prl.profile.reportMode l .delivered = true → s.lki.reports.length < 64 →
        t.lki.reports = s.lki.reports ++ [reportOf l .delivered] ∧ t.lki.dropped = s.lki.dropped) ∧
      (reportCalled s.prl.profile.reportMode l .delivered = true → 64 ≤ s.lki.reports.length →
        t.lki.reports = s.lki.reports ∧ t.lki.dropped = min (s.lki.dropped + 1) 65535 ∧
        EventSet.has t.lki.events .reportsDropped = true) ∧
      (reportCalled s.prl.profile.reportMode l .delivered = false →
        t.lki.reports = s.lki.reports ∧ t.lki.dropped = s.lki.dropped))) ∧
  ∀ (s : State) (id : LetterId) (e : Eye) (l : Letter), s.inReset = false → findLetter id s = some l →
    expiryStands l e = true → deliveryEye l e = true → e ∈ l.arrived ∨ undeliverable l s = true →
    reached s.trk.belt (expiryPointAt s.prl.profile l e) = true →
    ∃ t, exec (.expiryPoint id e) s = .next t ∧
      t.trk.letters.map (·.id) = (s.trk.letters.map (·.id)).filter (· != id) ∧
      tally .lostNoTray t = min (tally .lostNoTray s + 1) 4294967295 ∧
      (∀ k, tally (.delivered k) t = tally (.delivered k) s) ∧ tally .lostFault t = tally .lostFault s ∧
      (reportCalled s.prl.profile.reportMode l .lostNoTray = true → s.lki.reports.length < 64 →
        t.lki.reports = s.lki.reports ++ [reportOf l .lostNoTray]) ∧
      (reportCalled s.prl.profile.reportMode l .lostNoTray = true → 64 ≤ s.lki.reports.length →
        t.lki.reports = s.lki.reports ∧ t.lki.dropped = min (s.lki.dropped + 1) 65535 ∧
        EventSet.has t.lki.events .reportsDropped = true) ∧
      (reportCalled s.prl.profile.reportMode l .lostNoTray = false → t.lki.reports = s.lki.reports)

/-- The pocket manager counts a removal. A delivery lowers the pocket's pending count and raises its delivered count, a
letter being the first when it becomes 1; the last letter, and for a faced tray its sequence number and date, follow. A
bank pocket that it brings from OPEN to its limit becomes FULL, with POCKET_FULL and the auto-close; a DRAINING pocket
that it leaves with nothing pending closes. A loss at the pocket's eye lowers the pending count alone, and closes a
DRAINING pocket in the same way (R123, R124, R125, R130, R131). -/
def Obligations.RemovalsCounted : Prop :=
  (∀ (s : State) (e : Eye) (l : Letter) (d : Destination) (p q : Pocket) (n : Nat) (faced : Bool),
    s.inReset = false → e ≠ .e0 →
    s.inputs.blocked e = false → s.lnc.line.sampling = true → waitingAt e s = some l → findLetter l.id s = some l →
    l.dest = some d → pocketEye d.pocket = e →
    reached s.trk.belt (openPoint s.prl.profile l e) = true →
    reached s.trk.belt (expiryPointAt s.prl.profile l e) = false → undeliverable l s = false →
    p = s.pkm.pockets[d.pocket] → n = min (p.delivered + 1) 65535 →
    faced = (p.trayClass == some .facedLead || p.trayClass == some .facedTrail) →
    q = { p with
      pending := p.pending - 1, delivered := n, lastId := some l.id
      lastSeq := if faced then l.cancel.bind CancelPart.seq else p.lastSeq
      firstId := if n = 1 then some l.id else p.firstId
      firstSeq := if n = 1 ∧ faced then l.cancel.bind CancelPart.seq else p.firstSeq
      firstDate := if n = 1 ∧ faced then (l.cancel.bind CancelPart.print).map fun x => x.impression.date
        else p.firstDate } →
    ∃ t, exec (.eyeLeEdge ⟨e, true⟩) s = .next t ∧
      (∀ j : PocketNo, j ≠ d.pocket → t.pkm.pockets[j] = s.pkm.pockets[j]) ∧
      (p.state = .open → isBank d.pocket = true → n = s.prl.profile.limits[d.pocket] → BecameFull d.pocket q s t) ∧
      (p.state ≠ .open ∨ isBank d.pocket = false ∨ n ≠ s.prl.profile.limits[d.pocket] →
        SettledDraining d.pocket q s t)) ∧
  ∀ (s : State) (id : LetterId) (e : Eye) (l : Letter) (d : Destination), s.inReset = false →
    findLetter id s = some l → l.dest = some d → pocketEye d.pocket = e →
    expiryStands l e = true → e ∈ l.arrived ∨ undeliverable l s = true →
    reached s.trk.belt (expiryPointAt s.prl.profile l e) = true →
    ∃ t, exec (.expiryPoint id e) s = .next t ∧
      (∀ j : PocketNo, j ≠ d.pocket → t.pkm.pockets[j] = s.pkm.pockets[j]) ∧
      SettledDraining d.pocket
        { s.pkm.pockets[d.pocket] with pending := (s.pkm.pockets[d.pocket]).pending - 1 } s t

/-- A letter at a gate's setup point takes a gate without an owner, which is driven to the letter's required setting
until the letter has passed, and otherwise waits; a release point hands the gate to the oldest waiting letter, or drives
it to rest. A letter that takes a gate whose release point is already reached releases it again at once. A letter
removed without a length releases the gates it owns, and leaves one that has its release point. A length that becomes
known sets the release points of the gates that its letter owns, and releases those reached. A destination written at
the pocket decision point drives a BG1 that the letter owns to its setting (R2, R11, R23, R24, R25). -/
def Obligations.GatesTakenAndReleased : Prop :=
  (∀ (s : State) (id : LetterId) (g : GateId) (l : Letter) (s₁ : State), s.inReset = false → findLetter id s = some l →
    g ∈ routeGates l → g ∉ l.setupReached → reached s.trk.belt (setupPointAt s.prl.profile l g) = true →
    s₁ = { s with trk := { s.trk with
      letters := s.trk.letters.map fun x =>
        if x.id = id then { x with setupReached := x.setupReached ++ [g], owned := x.owned ++ [g] } else x
      gates := s.trk.gates.set (gateIdx g)
        ⟨some ⟨id, requiredSetting l g, releasePointOf s.prl.profile l g⟩, requiredSetting l g⟩ } } →
    ((gateOf g s).owner.isSome = true → exec (.setupPoint id g) s = .next { s with trk := { s.trk with
      letters := s.trk.letters.map fun x =>
        if x.id = id then { x with setupReached := x.setupReached ++ [g] } else x } }) ∧
    ((gateOf g s).owner = none → due s.trk.belt (releasePointOf s.prl.profile l g) = false →
      exec (.setupPoint id g) s = .next s₁) ∧
    ((gateOf g s).owner = none → due s.trk.belt (releasePointOf s.prl.profile l g) = true →
      exec (.setupPoint id g) s = exec (.releasePoint g) s₁)) ∧
  (∀ (s : State) (g : GateId) (o : GateOwner), s.inReset = false → (gateOf g s).owner = some o →
    (due s.trk.belt o.release = false → exec (.releasePoint g) s = .next s) ∧
    (due s.trk.belt o.release = true → nextOwner g s = none → exec (.releasePoint g) s = .next { s with
      trk := { s.trk with gates := s.trk.gates.set (gateIdx g) ⟨none, false⟩ } }) ∧
    (∀ l s₁, due s.trk.belt o.release = true → nextOwner g s = some l →
      s₁ = { s with trk := { s.trk with
        letters := s.trk.letters.map fun x => if x.id = l.id then { x with owned := x.owned ++ [g] } else x
        gates := s.trk.gates.set (gateIdx g)
          ⟨some ⟨l.id, requiredSetting l g, releasePointOf s.prl.profile l g⟩, requiredSetting l g⟩ } } →
      (due s.trk.belt (releasePointOf s.prl.profile l g) = false → exec (.releasePoint g) s = .next s₁) ∧
      (due s.trk.belt (releasePointOf s.prl.profile l g) = true →
        exec (.releasePoint g) s = exec (.releasePoint g) s₁))) ∧
  (∀ (s : State) (e : Eye) (l : Letter), s.inReset = false → e ≠ .e0 →
    s.inputs.blocked e = false → s.lnc.line.sampling = true → waitingAt e s = some l → findLetter l.id s = some l →
    deliveryEye l e = true → undeliverable l s = false →
    reached s.trk.belt (openPoint s.prl.profile l e) = true →
    reached s.trk.belt (expiryPointAt s.prl.profile l e) = false →
    ∃ t, exec (.eyeLeEdge ⟨e, true⟩) s = .next t ∧ GatesLeft l s t) ∧
  (∀ (s : State) (id : LetterId) (e : Eye) (l : Letter), s.inReset = false → findLetter id s = some l →
    expiryStands l e = true → deliveryEye l e = true → e ∈ l.arrived ∨ undeliverable l s = true →
    reached s.trk.belt (expiryPointAt s.prl.profile l e) = true →
    ∃ t, exec (.expiryPoint id e) s = .next t ∧ GatesLeft l s t) ∧
  (∀ (s : State) (l : Letter), s.inReset = false → s.inputs.e0 = true → s.lnc.line ≠ .loading → s.lnc.line ≠ .faulted →
    measuredLetter s = some l →
    ∃ t, exec .e0TeEdge s = .next t ∧ GatesMeasured l (posDiff l.lePos s.trk.belt) s t) ∧
  (∀ (s : State) (id : LetterId) (l : Letter), s.inReset = false → findLetter id s = some l →
    due s.trk.belt l.pdecPoint = true →
    ∃ t m d, exec (.pocketDecisionPoint id) s = .next t ∧ findLetter id t = some m ∧ m.dest = some d ∧
      (∀ g, g ≠ .bg 0 → gateOf g t = gateOf g s) ∧
      (∀ o, (gateOf (.bg 0) s).owner = some o → o.id = id → gateOf (.bg 0) t =
        ⟨some { o with setting := decide (d.pocket = 1) }, decide (d.pocket = 1)⟩) ∧
      ((∀ o, (gateOf (.bg 0) s).owner = some o → o.id ≠ id) → gateOf (.bg 0) t = gateOf (.bg 0) s)) ∧
  ∀ (l : Letter) (len : Int),
    (requiredSetting l .g0 = true ↔ l.route = some .cull) ∧
    (requiredSetting l .g1 = true ↔ ∃ cls, l.route = some (.main true cls)) ∧
    (∀ k : Fin 8, requiredSetting l (.bg k) = true ↔ ∃ d, l.dest = some d ∧ d.pocket.val = k.val + 1) ∧
    (l.length = some len → ∀ p g, releasePointOf p l g =
      some (l.lePos + BitVec.ofNat 32 (p.gateOffset g) + BitVec.ofInt 32 len))

/-! ### The luminescence channels (chapter 2) -/

/-- A flash due while sampling pulses both lamps: a face still outstanding faults with OVERRUN before it, the awaited
faces are then outstanding, the steps left without a sample are taken as such, the letters whose completion position it
reaches get their results, and it is a step, on all four channels, of the letter over the scan station, which is BLIND
for a channel in FAULT. A letter whose scan it completes, alone, has its open runs closed and their fates counted, each
channel's runs, flags and status as its result, and its verdict made or held: by its flags, by its successor, by its pair
point and its verdict limit, and by its runs, with its route, tally, print and destination. Not sampling, or with no flash
due, nothing happens (R30, R31, R32, R34, R41, R42, R58, R63, R64, R68, R69, R70, R76, R77, R78, R85, R86, R87, R88).
That a channel in FAULT at the flash gives no sample of it, whenever it is reset, is the model's reading (DEDUCED, log
entry 30). -/
def Obligations.FlashIsMade : Prop :=
  ∀ s : State, s.inReset = false →
    (s.lch.flashDue = none ∨ s.lnc.line.sampling = false → exec .flash s = .next s) ∧
    ∀ pos, s.lch.flashDue = some pos → s.lnc.line.sampling = true → ∃ t, exec .flash s = .next t ∧
      t.lch.lampPulses = s.lch.lampPulses + 1 ∧ t.lch.flashDue = none ∧ t.lch.flashPos = some pos ∧
      (∀ c, s.lch.outstanding.get (faceOf c) = true → (t.lch.chans.get c).state = .fault .overrun ∧
        EventSet.has t.lki.events .channelFault = true) ∧
      (∀ f, t.lch.outstanding.get f = true ↔ ∃ c, faceOf c = f ∧ (t.lch.chans.get c).state.awaited = true) ∧
      (∀ c, t.lch.silent.get c = (t.lch.chans.get c).state.isFault) ∧
      (∀ l ∈ s.trk.letters, scanEndsBy s.prl.profile pos l = true → l.flags.long = false →
        ∃ m, findLetter l.id t = some m ∧ m.results.isSome = true) ∧
      (∀ l y, (s.trk.letters.filter fun x => scanEndsBy s.prl.profile pos x && !x.flags.long) = [l] →
        findLetter l.id s = some l → y = scanOf l.id (overrun .b (overrun .a s)) →
        ∃ res, (∀ c, res.get c =
            resultAfter s.prl.profile (y.blind.get c) (lastStep s.prl.profile (y.ctx.get c))) ∧
          ScanJudged res l s t) ∧
      (∀ l y, (s.trk.letters.filter fun x => scanEndsBy s.prl.profile pos x && !x.flags.long) = [l] →
        s.scan = some y → y.letter = l.id → s.lch.outstanding = ⟨false, false⟩ →
        y = scanOf l.id (overrun .b (overrun .a s)) ∧
        ∀ c, t.lch.chans.get c = counted
          ((if (y.ctx.get c).awaiting then (emptyStep s.prl.profile (y.ctx.get c)).2 else []) ++
            (closeRun s.prl.profile (lastStep s.prl.profile (y.ctx.get c))).2) (s.lch.chans.get c)) ∧
      (∀ l, inLetterAt pos s = some l → ∃ x, t.scan = some x ∧ x.letter = l.id ∧
        ∀ c, (x.ctx.get c).awaiting = true ∧ ((t.lch.chans.get c).state.isFault = true → x.blind.get c = true)) ∧
      (∀ l y, s.lch.outstanding = ⟨false, false⟩ → inLetterAt pos s = some l → s.scan = some y → y.letter = l.id →
        (∀ m ∈ s.trk.letters, m.id = l.id → scanEndsBy s.prl.profile pos m = false) →
        ∃ x, t.scan = some x ∧ x.letter = l.id ∧ ∀ c, x.ctx.get c =
          { (if (y.ctx.get c).awaiting then (emptyStep s.prl.profile (y.ctx.get c)).1 else y.ctx.get c) with
            awaiting := true }) ∧
      (inLetterAt pos s = none → ∀ x, t.scan = some x → ∀ c, (x.ctx.get c).awaiting = false) ∧
      t.trk.belt = s.trk.belt ∧ ChangesOnly [.trk, .lch, .scan, .held, .cnu, .pkm, .lnc, .lki] s t

/-- A face's return gives its upper band's channel the first pair and its lower band's the second. Between letters each
is a dark sample, counted where it is noisy and where it loses the lock, which makes CHANNEL_UNLOCK pending; in
STARTING, with the belt at speed, the sample that locks the last of the four channels takes the line to RUNNING. On a
letter it is scaled with the channel's baseline and gain and passed through its run state, its class and fate counted
under the channel's source, and it marks the letter BLIND for a channel in SEARCH or CHECK without moving the channel's
baseline or counts; after the LONG mark it moves none of these. A return from a face that is not outstanding is
discarded, and so is a pair for a channel in FAULT (R31, R33, R34, R37, R38, R39, R41, R42, R58, R59, R60, R62, R63,
R68, R151). That the upper band's pair is taken, and RUNNING tested, before the lower band's is the model's reading
(DEDUCED, log entry 14): R31 gives no order of the two. That a channel in FAULT at the flash gives no sample of it is
its reading too (DEDUCED, log entry 30); that a sample whose flash was no step of the letter is classed NONE and moves
no run is the model's choice (log entry 15). -/
def Obligations.ReturnGivesTwoSamples : Prop :=
  ∀ (s : State) (f : Face) (upper lower : SamplePair), s.inReset = false →
    (s.lch.outstanding.get f = false → exec (.sampleReturn f upper lower) s = .next s) ∧
    ∀ pos, s.lch.outstanding.get f = true → s.lch.calib = none → s.lch.flashPos = some pos →
      (coveringLetter pos s = none → ∃ t, exec (.sampleReturn f upper lower) s = .next t ∧
        t.lch.outstanding = s.lch.outstanding.set f false ∧
        (∀ c x, (c = upperChan f ∧ x = upper) ∨ (c = lowerChan f ∧ x = lower) →
          ((s.lch.chans.get c).state.isFault = true ∨ s.lch.silent.get c = true →
            t.lch.chans.get c = s.lch.chans.get c) ∧
          (∀ before after, (s.lch.chans.get c).state.isFault = false → s.lch.silent.get c = false →
            before = s.lch.chans.get c → after = before.darkStep s.prl.profile.noiseMax x →
            t.lch.chans.get c = counted
              ((if before.state.locking ∧ before.isQuiet s.prl.profile.noiseMax x = false then [.noisyDark] else []) ++
                (if before.state = .locked ∧ after.state ≠ .locked then [.unlocks] else [])) after)) ∧
        (∀ c, faceOf c ≠ f → t.lch.chans.get c = s.lch.chans.get c) ∧
        (∀ (locked locked' : Chan → Bool) (unlocks : List EventKind),
          (∀ c, locked c = ((s.lch.chans.get c).state == .locked)) →
          (∀ c, locked' c = ((t.lch.chans.get c).state == .locked)) →
          unlocks = (if allChans.any fun c => locked c && !locked' c then [.channelUnlock] else []) →
          (s.lnc.line = .starting → 10 ≤ s.lnc.atSpeed → (∀ c, faceOf c ≠ f → locked c = true) →
            locked' (upperChan f) = true →
            (locked (upperChan f) = false ∧ locked (lowerChan f) = true) ∨
              (locked (lowerChan f) = false ∧ locked' (lowerChan f) = true) →
            t.lnc = { s.lnc with line := .running, startTimer := none, below := 0 } ∧
            t.trk = { s.trk with lastTe := none } ∧ Raised (.lineState :: unlocks) s t ∧
            ChangesOnly [.trk, .lch, .lnc, .lki] s t) ∧
          (s.lnc.line ≠ .starting ∨ s.lnc.atSpeed < 10 ∨ (∃ c, faceOf c ≠ f ∧ locked c = false) ∨
              locked' (upperChan f) = false ∨
              ((locked (upperChan f) = true ∨ locked (lowerChan f) = false) ∧
                (locked (lowerChan f) = true ∨ locked' (lowerChan f) = false)) →
            Raised unlocks s t ∧ ChangesOnly [.lch, .lki] s t))) ∧
      (∀ l, coveringLetter pos s = some l → l.flags.long = false →
        ∃ t, exec (.sampleReturn f upper lower) s = .next t ∧
          t.lch.outstanding = s.lch.outstanding.set f false ∧
          (∀ c, faceOf c ≠ f ∨ (s.lch.chans.get c).state.isFault = true ∨ s.lch.silent.get c = true →
            t.lch.chans.get c = s.lch.chans.get c ∧ (scanOf l.id t).ctx.get c = (scanOf l.id s).ctx.get c ∧
            (scanOf l.id t).blind.get c = (scanOf l.id s).blind.get c) ∧
          (∀ c x k sat offset r fates, (c = upperChan f ∧ x = upper) ∨ (c = lowerChan f ∧ x = lower) →
            (s.lch.chans.get c).state.isFault = false → s.lch.silent.get c = false →
            k = (scanOf l.id s).ctx.get c → sat = (x.e.toNat == 4095 || x.l.toNat == 4095) →
            offset = (posDiff (l.lePos + BitVec.ofNat 32 s.prl.profile.sPos) pos).toNat →
            r = (if k.awaiting then sampleStep s.prl.profile offset sat
                (scaleSample x ((s.lch.chans.get c).baccE / 16) ((s.lch.chans.get c).baccL / 16)
                  (s.prl.profile.gain.get c))
                { k with awaiting := false }
              else (k, .none, [])) →
            fates = r.2.2 ++ (match r.2.1 with
              | .phos => [.phosSamples]
              | .fluo => [.fluoSamples]
              | .none => []) ++ (if sat then [.satSamples] else []) →
            t.scan.map ScanContext.letter = some l.id ∧
            (scanOf l.id t).ctx.get c = { r.1 with sampled := true } ∧
            ((scanOf l.id t).blind.get c = true ↔ (scanOf l.id s).blind.get c = true ∨
              (s.lch.chans.get c).state = .search ∨ (s.lch.chans.get c).state = .check) ∧
            t.lch.chans.get c = fates.foldl (fun ch src =>
              if ch.source = src then { ch with counter := min (ch.counter + 1) 65535 } else ch)
              (s.lch.chans.get c)) ∧
          ChangesOnly [.lch, .scan] s t) ∧
      (∀ l, coveringLetter pos s = some l → l.flags.long = true →
        ∃ t, exec (.sampleReturn f upper lower) s = .next t ∧
          t.lch.outstanding = s.lch.outstanding.set f false ∧ t.lch.chans = s.lch.chans ∧ ChangesOnly [.lch] s t)

/-- A face that has not returned 200 µs after the flash faults: both its channels go to FAULT with TIMEOUT, and the
letter at the flash position is BLIND for both. In a calibration its calibrated channels have the result FAULT with their
old gain, no mean_l and no mismatch count, and the calibration goes on for the other face where that is used: its phase
stays, or ends where the other face has returned to its last flash, with the other face's baselines, or its gains, results
and the deferred reply. Where no face remains used the calibration ends, with the shutters lowered and the reply composed.
A face that is not outstanding has no time-out (R32, R41, R52, R53, R176). That the shutter of a face which has faulted
stays raised until the calibration ends is the model's choice (log entry 32). -/
def Obligations.FaceTimeoutFaults : Prop :=
  ∀ (s : State) (f other : Face), s.inReset = false → other ≠ f →
    (s.lch.outstanding.get f = false → exec (.timeout f) s = .next s) ∧
    (s.lch.outstanding.get f = true → ∃ t, exec (.timeout f) s = .next t ∧
      (∀ c, faceOf c = f → (t.lch.chans.get c).state = .fault .timeout) ∧
      (∀ c, faceOf c ≠ f → s.lch.calib = none → t.lch.chans.get c = s.lch.chans.get c) ∧
      EventSet.has t.lki.events .channelFault = true ∧
      (s.lch.calib = none → t.lch.outstanding = s.lch.outstanding.set f false ∧
        ChangesOnly [.lch, .scan, .lki] s t ∧
        ∀ pos l, s.lch.flashPos = some pos → inLetterAt pos s = some l →
          ∃ x, t.scan = some x ∧ x.letter = l.id ∧ ∀ c, faceOf c = f → x.blind.get c = true) ∧
      (∀ k k', s.lch.calib = some k → k'.phase = k.phase →
        (∀ c, k'.chans.get c = if faceOf c = f ∧ (k.chans.get c).active then { k.chans.get c with
            active := false, result := some .fault, newGain := (k.chans.get c).oldGain, meanL := none, mismatch := none }
          else k.chans.get c) →
        ChangesOnly [.lch, .lki, .prl] s t ∧
        (k.used other = false →
          t.lch.calib = none ∧ t.lch.shutter = ⟨false, false⟩ ∧ t.lch.outstanding = ⟨false, false⟩ ∧ t.prl = s.prl ∧
          t.lki.replies = fillList (.ok false (calFields k')) s.lki.replies) ∧
        (k.used other = true → s.lch.outstanding.get other = true ∨
            ((∀ n, k.phase = .dark n → n < 32) ∧ ∀ n, k.phase = .reference n → n < 64) →
          t.lch.calib = some k' ∧ t.lch.outstanding = s.lch.outstanding.set f false ∧
          t.lch.shutter = s.lch.shutter ∧ (∀ c, faceOf c ≠ f → t.lch.chans.get c = s.lch.chans.get c) ∧
          t.lki.replies = s.lki.replies ∧ t.prl = s.prl) ∧
        (∀ n, k.used other = true → s.lch.outstanding.get other = false → k.phase = .dark n → 32 ≤ n →
          t.lch.calib = some { k' with phase := .settle } ∧ t.lch.outstanding = ⟨false, false⟩ ∧
          t.lch.shutter = ⟨k'.used .a, k'.used .b⟩ ∧
          (∀ c, (k'.chans.get c).active = true → t.lch.chans.get c = { s.lch.chans.get c with
            baccE := 16 * ((k.chans.get c).sumE / 32), baccL := 16 * ((k.chans.get c).sumL / 32) }) ∧
          t.lki.replies = s.lki.replies ∧ t.prl = s.prl) ∧
        (∀ n, k.used other = true → s.lch.outstanding.get other = false → k.phase = .reference n → 64 ≤ n →
          t.lch.calib = none ∧ t.lch.shutter = ⟨false, false⟩ ∧ t.lch.outstanding = ⟨false, false⟩ ∧
          (∀ c, faceOf c ≠ f → t.lch.chans.get c = s.lch.chans.get c) ∧
          t.prl = { s.prl with profile := { s.prl.profile with gain := t.prl.profile.gain } } ∧
          ∃ j, t.lki.replies = fillList (.ok false (calFields j)) s.lki.replies ∧
            (∀ c, (k'.chans.get c).active = false →
              j.chans.get c = k'.chans.get c ∧ t.prl.profile.gain.get c = s.prl.profile.gain.get c) ∧
            ∀ c mean g, (k'.chans.get c).active = true → mean = (k.chans.get c).sumRef / 64 →
              g = gainOf s.prl.profile.refTarget mean (k.chans.get c).oldGain →
              j.chans.get c = { k.chans.get c with
                active := false, result := some g.2, newGain := g.1, meanL := some mean
                mismatch := some ((k.chans.get c).refs.filter fun x =>
                  isSat x || !phosAt s.prl.profile s.prl.profile.tpOn
                    (scaleSample x ((s.lch.chans.get c).baccE / 16) ((s.lch.chans.get c).baccL / 16) g.1)).length } ∧
              t.prl.profile.gain.get c = g.1)))

/-- A dark sample is judged against the baseline as it stands before it: a quiet one counts towards CHECK and LOCKED at
16 and moves the baseline by a sixteenth; a noisy one sends SEARCH and CHECK back to the start and, the eighth in a row,
a LOCKED channel, whose baseline it does not move; so no run of fewer than 32 dark samples takes a channel from SEARCH
to LOCKED, and 32 quiet ones from a quiet count of 0 do. A sample counts the quiet samples up, sets that count to 0
where the state changes, sets the noisy count to 0 on entry to LOCKED, and moves nothing else of the channel (R35, R37,
R38). That a count which its state does not keep stands at 0, the quiet count in LOCKED and the noisy count after the
lock is lost, is the model's choice (DESIGN CHOICE, log entry 39). -/
def Obligations.DarkSamplesLockAndUnlock : Prop :=
  (∀ (noiseMax : Nat) (x : SamplePair) (c : Channel),
    (c.isQuiet noiseMax x = true ↔
      ((x.e.toNat : Int) - (c.baccE / 16 : Nat)).natAbs ≤ noiseMax ∧
      ((x.l.toNat : Int) - (c.baccL / 16 : Nat)).natAbs ≤ noiseMax) ∧
    (c.state = .search ∨ c.state = .check ∨ (c.state = .locked ∧ c.isQuiet noiseMax x = true) →
      (c.darkStep noiseMax x).baccE = c.baccE - c.baccE / 16 + x.e.toNat ∧
      (c.darkStep noiseMax x).baccL = c.baccL - c.baccL / 16 + x.l.toNat) ∧
    (c.state = .search → c.isQuiet noiseMax x = true → (c.darkStep noiseMax x).state =
      if c.quiet + 1 < 16 then .search else .check) ∧
    (c.state = .check → c.isQuiet noiseMax x = true → (c.darkStep noiseMax x).state =
      if c.quiet + 1 < 16 then .check else .locked) ∧
    (c.state = .search ∨ c.state = .check → c.isQuiet noiseMax x = false →
      (c.darkStep noiseMax x).state = .search ∧ (c.darkStep noiseMax x).quiet = 0) ∧
    (∀ f : Channel, f = { c with
        baccE := c.baccE - c.baccE / 16 + x.e.toNat, baccL := c.baccL - c.baccL / 16 + x.l.toNat } →
      (c.state = .search → c.darkStep noiseMax x =
        if c.isQuiet noiseMax x = false then { f with quiet := 0 }
        else if c.quiet + 1 < 16 then { f with quiet := c.quiet + 1 }
        else { f with state := .check, quiet := 0 }) ∧
      (c.state = .check → c.darkStep noiseMax x =
        if c.isQuiet noiseMax x = false then { f with state := .search, quiet := 0 }
        else if c.quiet + 1 < 16 then { f with quiet := c.quiet + 1 }
        else { f with state := .locked, quiet := 0, noisy := 0 }) ∧
      (c.state = .locked → c.darkStep noiseMax x =
        if c.isQuiet noiseMax x then { f with noisy := 0 }
        else if c.noisy + 1 < 8 then { c with noisy := c.noisy + 1 }
        else { c with state := .search, quiet := 0, noisy := 0, lockLoss := min (c.lockLoss + 1) 65535 }) ∧
      (c.state = .idle ∨ c.state.isFault = true → c.darkStep noiseMax x = c)) ∧
    (c.state = .locked → c.isQuiet noiseMax x = true →
      (c.darkStep noiseMax x).state = .locked ∧ (c.darkStep noiseMax x).noisy = 0) ∧
    (c.state = .locked → c.isQuiet noiseMax x = false →
      (c.darkStep noiseMax x).baccE = c.baccE ∧ (c.darkStep noiseMax x).baccL = c.baccL ∧
      (c.darkStep noiseMax x).state = (if c.noisy + 1 < 8 then .locked else .search) ∧
      (c.noisy + 1 < 8 → (c.darkStep noiseMax x).noisy = c.noisy + 1) ∧
      (8 ≤ c.noisy + 1 → (c.darkStep noiseMax x).lockLoss = min (c.lockLoss + 1) 65535))) ∧
  (∀ (noiseMax : Nat) (xs : List SamplePair) (c : Channel), c.state = .search → c.quiet = 0 → xs.length < 32 →
    (xs.foldl (fun c x => c.darkStep noiseMax x) c).state ≠ .locked) ∧
  (∀ (noiseMax : Nat) (xs : List SamplePair) (c : Channel), c.state = .search → c.quiet = 0 → xs.length = 32 →
    (∀ n x, xs[n]? = some x →
      ((xs.take n).foldl (fun c x => c.darkStep noiseMax x) c).isQuiet noiseMax x = true) →
    (xs.foldl (fun c x => c.darkStep noiseMax x) c).state = .locked ∧
    (xs.foldl (fun c x => c.darkStep noiseMax x) c).noisy = 0 ∧
    ((xs.take 16).foldl (fun c x => c.darkStep noiseMax x) c).state = .check ∧
    ((xs.take 16).foldl (fun c x => c.darkStep noiseMax x) c).quiet = 0) ∧
  ∀ (noiseMax : Nat) (xs : List SamplePair) (c : Channel), c.baccE ≤ 65520 → c.baccL ≤ 65520 →
    (xs.foldl (fun c x => c.darkStep noiseMax x) c).baccE ≤ 65520 ∧
    (xs.foldl (fun c x => c.darkStep noiseMax x) c).baccL ≤ 65520

/-- CALIBRATE runs in STOPPED alone, on the named channels that are not in FAULT, with its reply deferred, or, where all
of them are in FAULT, ended at once and answered with their FAULT results; each of its flashes, 32 dark and 64
reference, pulses the lamps and awaits the used faces; its settling time ends in the reference phase; a return before
its phase's last sums its pairs for the calibrated channels alone, the reference samples kept too, and changes nothing
else; the last dark return sets the accumulators of the calibrated channels and of no other, and raises the used
shutters; the last reference return gives each calibrated channel its gain from mean_l, written into the working
profile, with its result and the count of its mismatches against the new gain, lowers the shutters and composes the
deferred reply; the gain follows from mean_l. A calibration that is abandoned answers ABORTED for each channel not yet
decided and writes no gain (R50, R51, R52, R53, R54, R72, R175). That the shutter of a face which has faulted stays
raised until the calibration ends is the model's choice (log entry 32). -/
def Obligations.CalibrationRuns : Prop :=
  (∀ r rest s x, Served .calibrate r rest s → r.payload = [x] →
    (s.lnc.line ≠ .stopped → exec .calibrate s = .next (refused r rest .wrongState s)) ∧
    (s.lnc.line = .stopped → 5 ≤ x.toNat → exec .calibrate s = .next (refused r rest .badValue s)) ∧
    (∀ named, s.lnc.line = .stopped → chansOfCode x = some named →
      (∃ c ∈ named, (s.lch.chans.get c).state.isFault = false) →
      exec .calibrate s = .next (answered r rest .deferred
        { s with lch := { s.lch with calib := some (Calibration.start named s) } }) ∧
      (Calibration.start named s).phase = .dark 0 ∧
      ∀ c, ((Calibration.start named s).chans.get c).active =
        (decide (c ∈ named) && !(s.lch.chans.get c).state.isFault)) ∧
    (∀ named, s.lnc.line = .stopped → chansOfCode x = some named →
      (∀ c ∈ named, (s.lch.chans.get c).state.isFault = true) →
      exec .calibrate s = .next (answered r rest (.ok false ([Chan.au, .al, .bu, .bl].flatMap fun c =>
        if c ∈ named then [1, 5, BitVec.ofNat 8 (s.prl.profile.gain.get c),
          BitVec.ofNat 8 (s.prl.profile.gain.get c), 0, 0, 0, 0] else List.replicate 8 0)) s))) ∧
  (∀ (s : State) (k : Calibration), s.inReset = false → s.lch.calib = some k →
    s.lch.outstanding = ⟨false, false⟩ →
    (∀ n, k.phase = .dark n → n < 32 → exec .calibrationFlash s = .next { s with lch := { s.lch with
      lampPulses := s.lch.lampPulses + 1, outstanding := ⟨k.used .a, k.used .b⟩
      calib := some { k with phase := .dark (n + 1) } } }) ∧
    (∀ n, k.phase = .reference n → n < 64 → exec .calibrationFlash s = .next { s with lch := { s.lch with
      lampPulses := s.lch.lampPulses + 1, outstanding := ⟨k.used .a, k.used .b⟩
      calib := some { k with phase := .reference (n + 1) } } }) ∧
    (k.phase = .settle → exec .calibrationFlash s = .next s ∧
      exec .settleEnd s = .next { s with lch := { s.lch with calib := some { k with phase := .reference 0 } } })) ∧
  (∀ (s : State) (k : Calibration) (f other : Face) (upper lower : SamplePair) (samples : Chan → List SamplePair),
    s.inReset = false → s.lch.calib = some k → s.lch.outstanding.get f = true → other ≠ f →
    (∀ c, samples c = if c = upperChan f then [upper] else if c = lowerChan f then [lower] else []) →
    (∀ n, k.phase = .dark n → n < 32 ∨ s.lch.outstanding.get other = true →
      ∃ chans, exec (.sampleReturn f upper lower) s = .next { s with lch := { s.lch with
          outstanding := s.lch.outstanding.set f false, calib := some { k with chans := chans } } } ∧
        ∀ c, chans.get c = if (k.chans.get c).active then { k.chans.get c with
            sumE := (k.chans.get c).sumE + ((samples c).map fun x => x.e.toNat).sum
            sumL := (k.chans.get c).sumL + ((samples c).map fun x => x.l.toNat).sum }
          else k.chans.get c) ∧
    (∀ n, k.phase = .reference n → n < 64 ∨ s.lch.outstanding.get other = true →
      ∃ chans, exec (.sampleReturn f upper lower) s = .next { s with lch := { s.lch with
          outstanding := s.lch.outstanding.set f false, calib := some { k with chans := chans } } } ∧
        ∀ c, chans.get c = if (k.chans.get c).active then { k.chans.get c with
            sumRef := (k.chans.get c).sumRef +
              ((samples c).map fun x => x.l.toNat - (s.lch.chans.get c).baccL / 16).sum
            refs := (k.chans.get c).refs ++ samples c }
          else k.chans.get c)) ∧
  (∀ (s : State) (k : Calibration) (f : Face) (upper lower : SamplePair), s.inReset = false →
    s.lch.calib = some k → k.phase = .dark 32 → s.lch.outstanding = (PerFace.all false).set f true →
    ∃ t j, exec (.sampleReturn f upper lower) s = .next t ∧ t.lch.calib = some j ∧ j.phase = .settle ∧
      t.lch = { s.lch with
        chans := t.lch.chans, outstanding := ⟨false, false⟩, shutter := ⟨k.used .a, k.used .b⟩, calib := some j } ∧
      (∀ c, (k.chans.get c).active = false →
        j.chans.get c = k.chans.get c ∧ t.lch.chans.get c = s.lch.chans.get c) ∧
      (∀ c, (k.chans.get c).active = true →
        j.chans.get c = { k.chans.get c with sumE := (j.chans.get c).sumE, sumL := (j.chans.get c).sumL } ∧
        (j.chans.get c).sumE = (k.chans.get c).sumE +
          (if c = upperChan f then upper.e.toNat else if c = lowerChan f then lower.e.toNat else 0) ∧
        (j.chans.get c).sumL = (k.chans.get c).sumL +
          (if c = upperChan f then upper.l.toNat else if c = lowerChan f then lower.l.toNat else 0) ∧
        t.lch.chans.get c = { s.lch.chans.get c with
          baccE := 16 * ((j.chans.get c).sumE / 32), baccL := 16 * ((j.chans.get c).sumL / 32) }) ∧
      ChangesOnly [.lch] s t) ∧
  (∀ (s : State) (k : Calibration) (f : Face) (upper lower : SamplePair), s.inReset = false →
    s.lch.calib = some k → k.phase = .reference 64 → s.lch.outstanding = (PerFace.all false).set f true →
    ∃ t j, exec (.sampleReturn f upper lower) s = .next t ∧
      t.lch = { s.lch with calib := none, shutter := ⟨false, false⟩, outstanding := ⟨false, false⟩ } ∧
      (∀ c, (k.chans.get c).active = false →
        j.chans.get c = k.chans.get c ∧ t.prl.profile.gain.get c = s.prl.profile.gain.get c) ∧
      (∀ c samples mean g, (k.chans.get c).active = true →
        samples = (if c = upperChan f then [upper] else if c = lowerChan f then [lower] else []) →
        mean = ((k.chans.get c).sumRef +
          (samples.map fun x => x.l.toNat - (s.lch.chans.get c).baccL / 16).sum) / 64 →
        g = gainOf s.prl.profile.refTarget mean (k.chans.get c).oldGain →
        (j.chans.get c).named = (k.chans.get c).named ∧
        (j.chans.get c).active = false ∧ (j.chans.get c).result = some g.2 ∧ (j.chans.get c).newGain = g.1 ∧
        (j.chans.get c).oldGain = (k.chans.get c).oldGain ∧ (j.chans.get c).meanL = some mean ∧
        t.prl.profile.gain.get c = g.1 ∧
        (j.chans.get c).mismatch = some (((k.chans.get c).refs ++ samples).filter fun x =>
          isSat x || !phosAt s.prl.profile s.prl.profile.tpOn
            (scaleSample x ((s.lch.chans.get c).baccE / 16) ((s.lch.chans.get c).baccL / 16) g.1)).length) ∧
      t.prl = { s.prl with profile := { s.prl.profile with gain := t.prl.profile.gain } } ∧
      t.lki = { s.lki with replies := fillList (.ok false (calFields j)) s.lki.replies } ∧
      ChangesOnly [.lch, .lki, .prl] s t) ∧
  (∀ (s : State) (k : Calibration), s.inReset = false → s.lch.calib = some k → s.inputs.estop = false →
    s.lnc.line ≠ .faulted → s.lnc.line ≠ .loading → ∃ t, exec (.estop true) s = .next t ∧
      t.lch.calib = none ∧ t.lch.shutter = ⟨false, false⟩ ∧ t.prl = s.prl ∧
      t.lki.replies = fillList (.ok false (calFields k.aborted)) s.lki.replies) ∧
  ∀ target mean old : Nat,
    (mean = 0 → gainOf target mean old = (old, .noSignal)) ∧
    (mean ≠ 0 → (64 * target + mean / 2) / mean < 32 → gainOf target mean old = (32, .clampedLow)) ∧
    (mean ≠ 0 → 255 < (64 * target + mean / 2) / mean → gainOf target mean old = (255, .clampedHigh)) ∧
    (mean ≠ 0 → 32 ≤ (64 * target + mean / 2) / mean → (64 * target + mean / 2) / mean ≤ 255 →
      gainOf target mean old = ((64 * target + mean / 2) / mean, .ok))

/-- ARM_CAPTURE arms an empty buffer on one channel with its trigger; READ_CAPTURE reads a FULL buffer and changes
nothing, with its first index and count clamped; SET_COUNTER_SOURCE sets the named channels' sources and zeroes their
counters, and its reply shows these; CHANNEL_RESET takes the named channels in FAULT to SEARCH while sampling and to
IDLE otherwise; values that name nothing are BAD_VALUE (R40, R43, R45, R47, R49, R175). That the letter passed over is
one the channel has already sampled, and not one whose scan has only begun, is the model's choice (DESIGN CHOICE, log
entry 37), and so is that the reply to SET_COUNTER_SOURCE shows the own source and counter of a channel not named
(DESIGN CHOICE, log entry 38). -/
def Obligations.ChannelRequests : Prop :=
  (∀ r rest s a b, Served .armCapture r rest s → r.payload = [a, b] →
    (4 ≤ a.toNat ∨ 2 ≤ b.toNat → exec .armCapture s = .next (refused r rest .badValue s)) ∧
    (∀ c trigger, chanOfCode a = some c → triggerOfCode b = some trigger →
      exec .armCapture s = .next (answered r rest (.ok false [1, a, b]) { s with lch := { s.lch with
        capture := ⟨.armed, some (c, trigger), none,
          s.scan.bind fun x => if (x.ctx.get c).sampled then some x.letter else none, []⟩ } }))) ∧
  (∀ r rest s a b, Served .readCapture r rest s → r.payload = [a, b] →
    (s.lch.capture.state ≠ .full → exec .readCapture s = .next (refused r rest .wrongState s)) ∧
    (s.lch.capture.state = .full → exec .readCapture s = .next (answered r rest
      (.ok (decide (127 < a.toNat ∨ b.toNat < 1 ∨ 48 < b.toNat))
        (readCaptureFields (min a.toNat 127) (max 1 (min b.toNat 48)) s)) s))) ∧
  (∀ first count s, captureSlice first count s = (s.lch.capture.entries.drop first).take (min count 26)) ∧
  (∀ r rest s a b, Served .setCounterSource r rest s → r.payload = [a, b] →
    (5 ≤ a.toNat ∨ 9 ≤ b.toNat → exec .setCounterSource s = .next (refused r rest .badValue s)) ∧
    (∀ named src, chansOfCode a = some named → sourceOfCode b = some src →
      ∃ t, exec .setCounterSource s = .next (answered r rest (.ok false ([Chan.au, .al, .bu, .bl].flatMap fun c =>
          if c ∈ named then [1, b, 0, 0]
          else [0, BitVec.ofNat 8 (s.lch.chans.get c).source.code] ++ be16 (s.lch.chans.get c).counter)) t) ∧
        (∀ c, t.lch.chans.get c = if c ∈ named then { s.lch.chans.get c with source := src, counter := 0 }
          else s.lch.chans.get c) ∧
        t = { s with lch := { s.lch with chans := t.lch.chans } })) ∧
  ∀ r rest s a, Served .channelReset r rest s → r.payload = [a] →
    (5 ≤ a.toNat → exec .channelReset s = .next (refused r rest .badValue s)) ∧
    (∀ named, chansOfCode a = some named →
      ∃ t, exec .channelReset s = .next (answered r rest
          (.ok false (allChans.map fun c => BitVec.ofNat 8 (t.lch.chans.get c).state.code)) t) ∧
        (∀ c, t.lch.chans.get c =
          if c ∈ named ∧ (s.lch.chans.get c).state.isFault = true then
            if s.lnc.line.sampling then { s.lch.chans.get c with
              state := .search, quiet := 0, noisy := 0
              baccE := 16 * s.prl.profile.nominalBase, baccL := 16 * s.prl.profile.nominalBase }
            else { s.lch.chans.get c with state := .idle, quiet := 0, noisy := 0 }
          else s.lch.chans.get c) ∧
        t = { s with lch := { s.lch with chans := t.lch.chans } })

/-- A capture fills with the samples of its channel and of no other: an IMMEDIATE one with every sample from its arming
on, a NEXT_LETTER one with the in-letter samples of the first letter that its channel samples after it, passing over the
letter that it had already sampled at its arming (which letter counts as already being scanned is the model's choice,
DESIGN CHOICE, log entry 37); the 128th entry makes it FULL, and so does the end of its letter's scan. Once a letter's
scan has ended its id is passed over no more. Both samples of a return are offered to it, in their order, an in-letter
one with its class and the run state after it. A line that leaves sampling empties an ARMED or FILLING capture (R45,
R46, R47, R48). -/
def Obligations.CaptureFillsAndEnds : Prop :=
  (∀ (b : Capture) (c : Chan) (letter : Option LetterId) (e : CaptureEntry) (u : Capture),
    u = { b with
      entries := b.entries ++ [e], state := if 128 ≤ b.entries.length + 1 then .full else .filling } →
    ((∀ trigger, b.sel ≠ some (c, trigger)) ∨ b.state = .empty ∨ b.state = .full → b.take c letter e = b) ∧
    (b.sel = some (c, .immediate) → b.state = .armed ∨ b.state = .filling → b.take c letter e = u) ∧
    (b.sel = some (c, .nextLetter) →
      (b.state = .armed → letter = none ∨ (letter.isSome = true ∧ letter = b.passOver) → b.take c letter e = b) ∧
      (∀ id, b.state = .armed → letter = some id → b.passOver ≠ some id →
        b.take c letter e = { u with letter := some id }) ∧
      (b.state = .filling → letter.isSome = true → letter = b.letter → b.take c letter e = u) ∧
      (b.state = .filling → letter = none ∨ letter ≠ b.letter → b.take c letter e = b))) ∧
  (∀ (id : LetterId) (s : State), (completeScan id s).lch.capture = { s.lch.capture with
    state := if s.lch.capture.state = .filling ∧ s.lch.capture.letter = some id ∧
      s.lch.capture.sel.map Prod.snd = some .nextLetter then .full else s.lch.capture.state
    passOver := if s.lch.capture.passOver = some id then none else s.lch.capture.passOver }) ∧
  (∀ (s : State) (f : Face) (upper lower : SamplePair) (pos : Pos), s.inReset = false →
    s.lch.outstanding.get f = true → s.lch.calib = none → s.lch.flashPos = some pos →
    (∀ c, faceOf c = f → (s.lch.chans.get c).state.isFault = false ∧ s.lch.silent.get c = false) →
    (coveringLetter pos s = none → ∃ t, exec (.sampleReturn f upper lower) s = .next t ∧
      t.lch.capture =
        (s.lch.capture.take (upperChan f) none ⟨pos, upper.e, upper.l, .none, .noRun, false⟩).take
          (lowerChan f) none ⟨pos, lower.e, lower.l, .none, .noRun, false⟩) ∧
    (∀ l, coveringLetter pos s = some l → l.flags.long = false →
      (∀ c, faceOf c = f → ((scanOf l.id s).ctx.get c).awaiting = true) →
      ∃ t ku kl, exec (.sampleReturn f upper lower) s = .next t ∧
        (∀ c x k, (c = upperChan f ∧ x = upper ∧ k = ku) ∨ (c = lowerChan f ∧ x = lower ∧ k = kl) →
          k = (sampleStep s.prl.profile
            (posDiff (l.lePos + BitVec.ofNat 32 s.prl.profile.sPos) pos).toNat (isSat x)
            (scaleSample x ((s.lch.chans.get c).baccE / 16) ((s.lch.chans.get c).baccL / 16)
              (s.prl.profile.gain.get c))
            { (scanOf l.id s).ctx.get c with awaiting := false }).2.1) ∧
        t.lch.capture =
          (s.lch.capture.take (upperChan f) (some l.id)
              ⟨pos, upper.e, upper.l, ku, ((scanOf l.id t).ctx.get (upperChan f)).state, true⟩).take
            (lowerChan f) (some l.id)
              ⟨pos, lower.e, lower.l, kl, ((scanOf l.id t).ctx.get (lowerChan f)).state, true⟩)) ∧
  ∀ s : State, s.inReset = false → s.trk.moving = true → s.lnc.line = .stopping → s.lnc.stopTimer.isSome = true →
    ∃ t, exec .beltStill s = .next t ∧ t.lch.capture =
      if s.lch.capture.state = .armed ∨ s.lch.capture.state = .filling then ⟨.empty, none, none, none, []⟩
      else s.lch.capture

/-! ### Tag runs and the facing verdict (chapters 3 and 4) -/

/-- The PHOS and FLUO tests, the thresholds at which they open and continue a run, and why no pair passes both, for a
profile that the cross-field checks let START take (R61). -/
def Obligations.TagTests : Prop :=
  ∀ (p : Profile) (x : Scaled),
    (p.firstFailing = none → p.tpOff ≤ p.tpOn ∧ p.tfOff ≤ p.tfOn ∧ p.rf ≤ p.rp) ∧
    (∀ t, phosAt p t x = true ↔ t ≤ x.l ∧ p.rp * x.e ≤ 16 * x.l) ∧
    (∀ t, fluoAt p t x = true ↔ t ≤ x.e ∧ 16 * x.l < p.rf * x.e) ∧
    (∀ offset c, ((sampleNoRun p offset false x c).2 = .phos ↔ phosAt p p.tpOn x = true) ∧
      ((sampleNoRun p offset false x c).2 = .fluo ↔ phosAt p p.tpOn x = false ∧ fluoAt p p.tfOn x = true)) ∧
    (qualifies p .phos false x = phosAt p p.tpOff x ∧ qualifies p .fluo false x = fluoAt p p.tfOff x) ∧
    (p.tpOff ≤ p.tpOn → phosAt p p.tpOn x = true → qualifies p .phos false x = true) ∧
    (p.tfOff ≤ p.tfOn → fluoAt p p.tfOn x = true → qualifies p .fluo false x = true) ∧
    (p.rf ≤ p.rp → ∀ t u, fluoAt p t x = true → phosAt p u x = false) ∧
    (x.e = 0 → ∀ t, (phosAt p t x = true ↔ t ≤ x.l) ∧ fluoAt p t x = false)

/-- A sample opens a run where there is none, extends the open run where it qualifies, and counts a miss where it does
not; a step without sample counts a miss in a run. Misses beyond GAP close the run, and a sample that closes it is taken
again as in NO_RUN. A run that closes is judged by its number of samples: dropped as short, dropped as overlong with
COATED or BRIGHT, or kept, and its counter source says which; a kept run joins a list of fewer than 4 and else is dropped
with OVERFLOW. Whatever steps a letter's context takes, its list holds at most 4 runs, each of a length within MIN_RUN ×
PITCH and MAX_RUN × PITCH; and where the offsets of its samples ascend by at least PITCH, the runs stand in the order of
their starts and do not overlap (R62, R63, R65, R66, R67). -/
def Obligations.RunsKeptInOrder : Prop :=
  (∀ (p : Profile) (offset : Nat) (sat : Bool) (x : Scaled) (c : RunContext), c.openRun = none →
    emptyStep p c = (c, []) ∧
    sampleStep p offset sat x c =
      if sat = true then (c, .none, [])
      else if phosAt p p.tpOn x then ({ c with openRun := some ⟨.phos, offset, offset, x.l, 0⟩, miss := 0 }, .phos, [])
      else if fluoAt p p.tfOn x then ({ c with openRun := some ⟨.fluo, offset, offset, x.e, 0⟩, miss := 0 }, .fluo, [])
      else (c, .none, [])) ∧
  (∀ (p : Profile) (offset : Nat) (sat : Bool) (x : Scaled) (c : RunContext) (o : OpenRun), c.openRun = some o →
    (qualifies p o.cls sat x = true → sampleStep p offset sat x c =
      ({ c with
          openRun := some { o with
            last := offset
            peak := max o.peak (if sat then 4095 else if o.cls = .phos then x.l else x.e)
            sat := if sat then o.sat + 1 else o.sat }
          miss := 0 }, if o.cls = .phos then .phos else .fluo, [])) ∧
    (c.miss + 1 ≤ p.gapLimit →
      emptyStep p c = ({ c with miss := c.miss + 1 }, []) ∧
      (qualifies p o.cls sat x = false → sampleStep p offset sat x c = ({ c with miss := c.miss + 1 }, .none, []))) ∧
    (p.gapLimit < c.miss + 1 →
      emptyStep p c = closeRun p { c with miss := c.miss + 1 } ∧
      (qualifies p o.cls sat x = false → sampleStep p offset sat x c =
        ((sampleStep p offset sat x (closeRun p { c with miss := c.miss + 1 }).1).1,
          (sampleStep p offset sat x (closeRun p { c with miss := c.miss + 1 }).1).2.1,
          (closeRun p { c with miss := c.miss + 1 }).2)))) ∧
  (∀ (p : Profile) (c : RunContext) (o : OpenRun) (n : Nat), c.openRun = some o → n = (o.last - o.first) / p.pitch + 1 →
    (n < p.minRun → closeRun p c = ({ c with openRun := none, miss := 0 }, [.runsShort])) ∧
    (p.minRun ≤ n → p.maxRun < n → closeRun p c =
      (if o.cls = .phos then { c with openRun := none, miss := 0, coated := true }
        else { c with openRun := none, miss := 0, bright := true }, [.runsOverlong])) ∧
    (p.minRun ≤ n → n ≤ p.maxRun → c.runs.length < 4 → closeRun p c =
      ({ c with openRun := none, miss := 0, runs := c.runs ++ [⟨o.cls, o.first, n * p.pitch, o.peak, o.sat⟩] },
        [.runsKept])) ∧
    (p.minRun ≤ n → n ≤ p.maxRun → 4 ≤ c.runs.length → closeRun p c =
      ({ c with openRun := none, miss := 0, overflow := true }, [.runOverflow]))) ∧
  ∀ (p : Profile) (steps : List (Option (Nat × SamplePair × Nat × Nat × Nat))) (c : RunContext),
    c = steps.foldl (fun c step =>
      match step with
      | some (offset, x, baseE, baseL, gain) =>
        (sampleStep p offset (isSat x) (scaleSample x baseE baseL gain) c).1
      | none => (emptyStep p c).1) RunContext.fresh →
    (closeRun p c).1.runs.length ≤ 4 ∧ (∀ r ∈ (closeRun p c).1.runs, r.inOrder p) ∧
    (1 ≤ p.pitch → (steps.filterMap fun step => step.map fun x => x.1).Pairwise (fun a b => a + p.pitch ≤ b) →
      (closeRun p c).1.runs.Pairwise fun a b => a.start < b.start ∧ a.start + a.length ≤ b.start)

/-- A run supports an orientation when its class is that of the test, its channel is SCANNED, and its channel and half
are the orientation's; a run centred at the middle is trailing, and a BLIND channel supports nothing (R79). -/
def Obligations.RunSupportsOrientation : Prop :=
  ∀ (cls : TagClass) (results : PerChan ChanResult) (len : Int) (o : Orientation) (x : Run),
    (x ∈ supporting cls results len o ↔
      x ∈ (results.get o.chan).runs ∧ x.cls = cls ∧ (results.get o.chan).blind = false ∧
      (2 * ((x.start : Int) + (x.length / 2 : Nat)) < len ↔ o = .o1 ∨ o = .o4)) ∧
    (o.chan = match o with
      | .o1 => .au
      | .o2 => .al
      | .o3 => .bu
      | .o4 => .bl)

/-- The verdict by a letter's runs, whole. A STAMP or METER verdict comes from support: its orientation has a supporting
run of its class, its chosen run is one with the largest peak among them and the earliest start among equals, and every
other supported orientation's runs are weaker by DOMINANCE / 8; a METER verdict has no PHOS run that supports anything.
Conversely, an orientation so supported gives that verdict, with BLIND_PARTIAL under ACCEPT where a channel is BLIND, and
REJECT with BLIND under REJECT; support without such an orientation is AMBIGUOUS, with no reason; and without support the
verdict is REJECT with BLIND where a channel is BLIND, and else NO_TAG, with MISPLACED where a PHOS run stands anywhere and
COATED where a channel saw one too long (R75, R80, R81, R82, R83, R84). -/
def Obligations.FacedVerdictIsSupported : Prop :=
  (∀ (p : Profile) (results : PerChan ChanResult) (len : Int) (v : Verdict) (cls : TagClass),
    judgeRuns p results len = v → (v.kind = .stamp ∧ cls = .phos) ∨ (v.kind = .meter ∧ cls = .fluo) →
    ∃ o x, v.orientation = some o ∧ v.chosen = some ⟨x.start, x.length, x.peak⟩ ∧
      x ∈ supporting cls results len o ∧
      (∀ y ∈ supporting cls results len o, y.peak < x.peak ∨ (y.peak = x.peak ∧ x.start ≤ y.start)) ∧
      (∀ q ≠ o, ∀ y ∈ supporting cls results len q, y.peak < x.peak ∧ p.dominance * y.peak ≤ 8 * x.peak) ∧
      (cls = .fluo → ∀ q, supporting .phos results len q = []) ∧
      v.reasons = { Reasons.empty with blindPartial := anyBlind results } ∧
      (anyBlind results = true → p.blindPolicy = .accept)) ∧
  (∀ (p : Profile) (results : PerChan ChanResult) (len : Int) (cls : TagClass),
    (cls = .fluo → ∀ q, supporting .phos results len q = []) →
    (∀ o x kind chosen, kind = (if cls = .phos then VerdictKind.stamp else .meter) →
      chosen = (⟨x.start, x.length, x.peak⟩ : ChosenRun) → x ∈ supporting cls results len o →
      (∀ y ∈ supporting cls results len o, y = x ∨ y.peak < x.peak ∨ (y.peak = x.peak ∧ x.start < y.start)) →
      (∀ q ≠ o, ∀ y ∈ supporting cls results len q, y.peak < x.peak ∧ p.dominance * y.peak ≤ 8 * x.peak) →
      (anyBlind results = false → judgeRuns p results len = ⟨kind, some o, .empty, some chosen⟩) ∧
      (anyBlind results = true → p.blindPolicy = .accept → judgeRuns p results len =
        ⟨kind, some o, { Reasons.empty with blindPartial := true }, some chosen⟩) ∧
      (anyBlind results = true → p.blindPolicy = .reject → judgeRuns p results len =
        ⟨.reject, none, { Reasons.empty with blind := true }, none⟩)) ∧
    ((∃ o, supporting cls results len o ≠ []) →
      (∀ o, ∀ x ∈ supporting cls results len o, ∃ q, q ≠ o ∧ ∃ y ∈ supporting cls results len q,
        x.peak ≤ y.peak ∨ 8 * x.peak < p.dominance * y.peak) →
      judgeRuns p results len = ⟨.ambiguous, none, .empty, none⟩)) ∧
  ∀ (p : Profile) (results : PerChan ChanResult) (len : Int),
    (anyBlind results = true ↔ ∃ c, (results.get c).blind = true) ∧
    ((∀ cls o, supporting cls results len o = []) →
      (anyBlind results = true →
        judgeRuns p results len = ⟨.reject, none, { Reasons.empty with blind := true }, none⟩) ∧
      (anyBlind results = false → ∃ r, judgeRuns p results len = ⟨.noTag, none, r, none⟩ ∧
        r = { Reasons.empty with misplaced := r.misplaced, coated := r.coated } ∧
        (r.misplaced = true ↔ ∃ c, ∃ x ∈ (results.get c).runs, x.cls = .phos) ∧
        (r.coated = true ↔ ∃ c, (results.get c).coated = true)))

/-- A held verdict ends at the pair point with the letter judged by its runs, at the verdict limit with REJECT and
CLOSE_PAIR, and with the induction of a successor, in RUNNING or STOPPING, by whether that carries CLOSE: with REJECT and
CLOSE_PAIR, or judged by its runs. The verdict and its route are written and counted, a STAMP is handed to its head, any
other letter gets NOT_REQUIRED, and a culled one goes to pocket 0 (R78, R85, R86, R87, R88, R121, R122). -/
def Obligations.HeldVerdictEnds : Prop :=
  (∀ (s : State) (l : Letter) (judged : Verdict), s.inReset = false → s.held = some l.id → findLetter l.id s = some l →
    judged = judgeRuns s.prl.profile (l.results.getD (.all ⟨false, [], false, false, false⟩)) (l.length.getD 0) →
    (due s.trk.belt (pairPointOf s.prl.profile l) = false → exec .pairPoint s = .next s) ∧
    (due s.trk.belt (pairPointOf s.prl.profile l) = true → ∃ t m, exec .pairPoint s = .next t ∧
      findLetter l.id t = some m ∧ VerdictWritten judged l m s t ∧ t.held = none ∧
      ChangesOnly [.trk, .held, .cnu, .pkm, .lnc, .lki] s t) ∧
    (reached s.trk.belt (verdictLimitOf s.prl.profile l) = false → exec .verdictLimit s = .next s) ∧
    (reached s.trk.belt (verdictLimitOf s.prl.profile l) = true → ∃ t m, exec .verdictLimit s = .next t ∧
      findLetter l.id t = some m ∧ VerdictWritten closePairReject l m s t ∧ t.held = none ∧
      ChangesOnly [.trk, .held, .pkm, .lnc, .lki] s t) ∧
    (s.inputs.e0 = false → s.lnc.line = .running ∨ s.lnc.line = .stopping → s.trk.letters.length < 48 →
      ∃ t m, exec .e0LeEdge s = .next t ∧ findLetter l.id t = some m ∧ t.held = none ∧
        ((newLetter s).flags.close = true → VerdictWritten closePairReject l m s t) ∧
        ((newLetter s).flags.close = false → VerdictWritten judged l m s t) ∧
        ((newLetter s).flags.close = true ↔
          ∃ te, s.trk.lastTe = some te ∧ posDiff te s.trk.belt < s.prl.profile.gmin))) ∧
  (∀ v : Verdict, routeOf v = match v.kind, v.orientation with
    | .stamp, some .o1 | .meter, some .o1 => .main false .lead
    | .stamp, some .o2 | .meter, some .o2 => .main false .trail
    | .stamp, some .o3 | .meter, some .o3 => .main true .trail
    | .stamp, some .o4 | .meter, some .o4 => .main true .lead
    | _, _ => .cull) ∧
  closePairReject.tally = .reject .closePair

/-! ### The cancel unit (chapter 5) -/

/-- The print span of a STAMP letter, by its class, from its chosen run at `start` of length `width`; it lies within the
letter and is at least 1 long (R98). -/
def Obligations.PrintSpanWithinLetter : Prop :=
  ∀ (p : Profile) (len start width : Nat),
    printSpan p .lead len start width = (start - p.margin, min p.k (len - (start - p.margin))) ∧
    printSpan p .trail len start width =
      (min len (start + width + p.margin) - p.k,
        min len (start + width + p.margin) - (min len (start + width + p.margin) - p.k)) ∧
    (start < len → 1 ≤ p.k → 1 ≤ width → ∀ cls,
      (printSpan p cls len start width).1 + (printSpan p cls len start width).2 ≤ len ∧
      1 ≤ (printSpan p cls len start width).2)

/-- A STAMP letter's print is placed at its verdict, with the impression of the postmark settings as they stand, and
handed to the head of its orientation, which answers in this order: HEAD_DOWN for a head that is down, MISSED with
QUEUE_FULL where 16 wait, MISSED with TOO_CLOSE where the fire start lies before the previous print's end + H, and
else SCHEDULED, at the end of its queue. The previous end is that of the last print queued, else of the one in progress,
else the running recovery's end less H; a head with none of these has none (R87, R97, R98, R99, R101, R120). -/
def Obligations.PrintsAreScheduled : Prop :=
  (∀ (s : State) (l : Letter) (v : Verdict) (o : Orientation) (run : ChosenRun) (d : Date),
    s.inReset = false → s.held = some l.id → findLetter l.id s = some l →
    due s.trk.belt (pairPointOf s.prl.profile l) = true →
    v = judgeRuns s.prl.profile (l.results.getD (.all ⟨false, [], false, false, false⟩)) (l.length.getD 0) →
    v.kind = .stamp → v.orientation = some o → v.chosen = some run → s.cnu.date = some d →
    ∃ t m, exec .pairPoint s = .next t ∧ findLetter l.id t = some m ∧ ChangesOnly [.trk, .held, .cnu, .pkm] s t ∧
      PrintPlaced o run d l m s t) ∧
  ∀ (s : State) (u : HeadUnit),
    (∀ q id l c x, u.queue = q ++ [id] → findLetter id s = some l → l.cancel = some c → c.print = some x →
      previousEnd u s = some (l.lePos + BitVec.ofNat 32 (s.prl.profile.cPos + x.ps) + BitVec.ofNat 32 x.k)) ∧
    (u.queue = [] →
      (u.state = .printing → previousEnd u s = u.fireEnd) ∧
      (∀ e, u.state = .recovering → u.recoveryEnd = some e →
        previousEnd u s = some (e - BitVec.ofNat 32 s.prl.profile.h)) ∧
      (u.state = .ready ∨ u.state = .fault ∨ u.state = .off → previousEnd u s = none))

/-- At the fire start of a head's front entry a READY head prints: the letter gets the next sequence number for its
date, with SEQ_WRAP pending exactly where it goes on from 9999999 to 1, the head gets its impression record and its fire
end, and FIRE is asserted; a head still PRINTING or RECOVERING misses the print as LATE, without a number. Before that
point nothing happens. The print ends at its fire end: the letter is PRINTED and keeps its number, and the head is
RECOVERING for H. At the recovery end a RECOVERING head is READY again, or OFF with its queue emptied as HEAD_DOWN where
an OFF request waits; a head in another state keeps it (R99, R100, R102, R103, R104, R105, R106, R107, R110). -/
def Obligations.PrintsRunAndHeadsRecover : Prop :=
  (∀ (s : State) (h : Head) (l : Letter) (c : CancelPart) (x : PrintPart) (q : List LetterId),
    s.inReset = false → (s.cnu.heads.get h).queue = l.id :: q → findLetter l.id s = some l →
    l.cancel = some c → c.print = some x →
    (reached s.trk.belt (l.lePos + BitVec.ofNat 32 (s.prl.profile.cPos + x.ps)) = false →
      exec (.fireStart h) s = .next s) ∧
    (reached s.trk.belt (l.lePos + BitVec.ofNat 32 (s.prl.profile.cPos + x.ps)) = true →
      (s.cnu.heads.get h).state = .ready → ∃ t n, exec (.fireStart h) s = .next t ∧
        (∀ w, s.cnu.waiting = some w → w.date = x.impression.date → n = w.num) ∧
        ((∀ w, s.cnu.waiting = some w → w.date ≠ x.impression.date) →
          (∀ f, s.cnu.lastFire = some f → f.date = x.impression.date →
            n = if f.seq = 9999999 then 1 else f.seq + 1) ∧
          ((∀ f, s.cnu.lastFire = some f → f.date ≠ x.impression.date) → n = 1)) ∧
        ((∀ w, s.cnu.waiting = some w → w.date ≠ x.impression.date) ∧
            s.cnu.lastFire = some ⟨x.impression.date, 9999999⟩ → n = 1 ∧ Raised [.seqWrap] s t) ∧
        ((∃ w, s.cnu.waiting = some w ∧ w.date = x.impression.date) ∨
            s.cnu.lastFire ≠ some ⟨x.impression.date, 9999999⟩ → t.lki = s.lki) ∧
        t.cnu.lastFire = some ⟨x.impression.date, n⟩ ∧
        t.cnu.waiting = (s.cnu.waiting.bind fun w =>
          if w.date = x.impression.date ∨ w.date.before x.impression.date then none else some w) ∧
        t.cnu.heads.get h = { s.cnu.heads.get h with
          queue := q, state := .printing, printing := some l.id
          fireEnd := some (l.lePos + BitVec.ofNat 32 (s.prl.profile.cPos + x.ps) + BitVec.ofNat 32 x.k)
          hdata := some ⟨x.impression.date, x.impression.timeMark, s.prl.profile.office x.impression.office,
            s.prl.profile.machineNo, n⟩ } ∧
        (∀ g, g ≠ h → t.cnu.heads.get g = s.cnu.heads.get g) ∧
        findLetter l.id t = some { l with cancel := some { c with seq := some n } } ∧
        firePin h t = true ∧ t.cnu.date = s.cnu.date ∧ OnlyEvents s t ∧ ChangesOnly [.trk, .cnu, .lki] s t) ∧
    (reached s.trk.belt (l.lePos + BitVec.ofNat 32 (s.prl.profile.cPos + x.ps)) = true →
      (s.cnu.heads.get h).state = .printing ∨ (s.cnu.heads.get h).state = .recovering →
      ∃ t, exec (.fireStart h) s = .next t ∧
        t.cnu = { s.cnu with heads := (s.cnu.heads.set h { s.cnu.heads.get h with queue := q }) } ∧
        findLetter l.id t = some { l with cancel := some { c with outcome := .missed, missed := some .late } } ∧
        tally .missed t = min (tally .missed s + 1) 4294967295 ∧ ChangesOnly [.trk, .cnu, .pkm] s t)) ∧
  ∀ (s : State) (h : Head) (e : Pos), s.inReset = false →
    ((s.cnu.heads.get h).state ≠ .printing → exec (.fireEnd h) s = .next s) ∧
    ((s.cnu.heads.get h).fireEnd = some e → reached s.trk.belt e = false → exec (.fireEnd h) s = .next s) ∧
    (∀ id l c, (s.cnu.heads.get h).state = .printing → (s.cnu.heads.get h).fireEnd = some e →
      reached s.trk.belt e = true → (s.cnu.heads.get h).printing = some id → findLetter id s = some l →
      l.cancel = some c → ∃ t, exec (.fireEnd h) s = .next t ∧
        t.cnu = { s.cnu with heads := (s.cnu.heads.set h { s.cnu.heads.get h with
          state := .recovering, printing := none, fireEnd := none
          recoveryEnd := some (e + BitVec.ofNat 32 s.prl.profile.h), recoveringFrom := some id }) } ∧
        findLetter id t = some { l with cancel := some { c with outcome := .printed, missed := none } } ∧
        tally .printed t = min (tally .printed s + 1) 4294967295 ∧ firePin h t = false ∧
        ChangesOnly [.trk, .cnu, .pkm] s t) ∧
    ((s.cnu.heads.get h).recoveryEnd = some e → reached s.trk.belt e = false →
      exec (.recoveryEnd h) s = .next s) ∧
    ((s.cnu.heads.get h).recoveryEnd = some e → reached s.trk.belt e = true →
      ((s.cnu.heads.get h).state = .recovering → (s.cnu.heads.get h).offPending = false →
        exec (.recoveryEnd h) s = .next { s with cnu := { s.cnu with
          heads := (s.cnu.heads.set h { s.cnu.heads.get h with
            state := .ready, recoveryEnd := none, recoveringFrom := none }) } }) ∧
      ((s.cnu.heads.get h).state = .recovering → (s.cnu.heads.get h).offPending = true →
        ∃ t, exec (.recoveryEnd h) s = .next t ∧
          t.cnu = { s.cnu with heads := (s.cnu.heads.set h { s.cnu.heads.get h with
            state := .off, recoveryEnd := none, recoveringFrom := none, offPending := false, queue := [] }) } ∧
          ∀ id ∈ (s.cnu.heads.get h).queue, ∀ m c, findLetter id t = some m → m.cancel = some c →
            c.outcome = .headDown) ∧
      ((s.cnu.heads.get h).state ≠ .recovering →
        exec (.recoveryEnd h) s = .next { s with cnu := { s.cnu with
          heads := (s.cnu.heads.set h { s.cnu.heads.get h with recoveryEnd := none, recoveringFrom := none }) } }))

/-- A fault input that becomes active takes its head to FAULT from any other state: its queue is emptied as HEAD_DOWN, a
print in progress ends as FAULTED with a recovery end point H on, a pending OFF request is discarded, and HEAD_FAULT
becomes pending; becoming inactive changes no state (R109, R110, R114). -/
def Obligations.HeadFaultTakesHeadDown : Prop :=
  ∀ (s : State) (h : Head), s.inReset = false →
    exec (.headFault h false) s =
      .next { s with inputs := { s.inputs with headFault := s.inputs.headFault.set h false } } ∧
    (s.inputs.headFault.get h = true ∨ (s.cnu.heads.get h).state = .fault → exec (.headFault h true) s =
      .next { s with inputs := { s.inputs with headFault := s.inputs.headFault.set h true } }) ∧
    (s.inputs.headFault.get h = false → (s.cnu.heads.get h).state ≠ .fault →
      ∃ t, exec (.headFault h true) s = .next t ∧
        t.cnu = { s.cnu with heads := s.cnu.heads.set h (
          if (s.cnu.heads.get h).state = .printing then { s.cnu.heads.get h with
            state := .fault, queue := [], offPending := false, printing := none, fireEnd := none
            recoveryEnd := some (s.trk.belt + BitVec.ofNat 32 s.prl.profile.h)
            recoveringFrom := (s.cnu.heads.get h).printing }
          else { s.cnu.heads.get h with state := .fault, queue := [], offPending := false }) } ∧
        EventSet.has t.lki.events .headFault = true ∧ firePin h t = false ∧
        (∀ id ∈ (s.cnu.heads.get h).queue, ∀ m c, findLetter id t = some m → m.cancel = some c →
          c.outcome = .headDown ∧ c.missed = none) ∧
        (∀ id m c, (s.cnu.heads.get h).state = .printing → (s.cnu.heads.get h).printing = some id →
          id ∉ (s.cnu.heads.get h).queue → findLetter id t = some m → m.cancel = some c → c.outcome = .faulted) ∧
        (s.lnc.line ≠ .loading → t.lnc.hold = { s.lnc.hold with headDown := headDownHeld t }) ∧
        ChangesOnly [.inputs, .trk, .cnu, .pkm, .lnc, .lki] s t)

/-- HEAD_RESET takes a head out of FAULT once its input is inactive, HEAD_DISABLE takes one out of service at once, or
after the print in progress, and HEAD_ENABLE brings it back; each answers with the head's state, and the HEAD_DOWN hold
follows the heads (R111, R112, R113, R114). -/
def Obligations.HeadRequests : Prop :=
  (∀ k ∈ [ReqKind.headReset, .headDisable, .headEnable], ∀ r rest s x, Served k r rest s → r.payload = [x] →
    headOfCode x = none → exec k.command s = .next (refused r rest .badValue s)) ∧
  ∀ r rest s x h u, r.payload = [x] → headOfCode x = some h → u = s.cnu.heads.get h →
    (Served .headReset r rest s →
      (u.state ≠ .fault → exec .headReset s = .next (refused r rest .wrongState s)) ∧
      (u.state = .fault → s.inputs.headFault.get h = true →
        exec .headReset s = .next (refused r rest .conditionActive s)) ∧
      (u.state = .fault → s.inputs.headFault.get h = false → ∃ t, exec .headReset s = .next t ∧
        t.cnu = { s.cnu with heads := (s.cnu.heads.set h
          { u with state := if u.recoveryEnd.isSome then .recovering else .ready }) } ∧
        t.lki.replies = s.lki.replies ++ [placeOf r (.ok false (headFields h t))] ∧
        t.lnc.hold = { s.lnc.hold with headDown := headDownHeld t } ∧ ChangesOnly [.cnu, .lnc, .lki] s t)) ∧
    (Served .headDisable r rest s →
      (u.state = .fault → exec .headDisable s = .next (refused r rest .wrongState s)) ∧
      (u.state = .off ∨ u.offPending = true ∧ (u.state = .printing ∨ u.state = .recovering) →
        exec .headDisable s = .next (answered r rest (.ok false (headFields h s)) s)) ∧
      (u.state = .ready ∨ u.offPending = false ∧ (u.state = .printing ∨ u.state = .recovering) →
        ∃ t, exec .headDisable s = .next t ∧
          t.cnu = { s.cnu with heads := s.cnu.heads.set h (
            if u.state = .printing then { u with offPending := true, queue := [] }
            else { u with state := .off, queue := [] }) } ∧
          t.lki.replies = s.lki.replies ++ [placeOf r (.ok false (headFields h t))] ∧
          (∀ id ∈ u.queue, ∀ m c, findLetter id t = some m → m.cancel = some c → c.outcome = .headDown) ∧
          t.lnc.hold = { s.lnc.hold with headDown := headDownHeld t } ∧
          ChangesOnly [.trk, .cnu, .pkm, .lnc, .lki] s t)) ∧
    (Served .headEnable r rest s →
      (u.state = .fault → exec .headEnable s = .next (refused r rest .wrongState s)) ∧
      (u.state ≠ .fault → ∃ t, exec .headEnable s = .next t ∧
        t.cnu = { s.cnu with heads := s.cnu.heads.set h (
          if u.state = .off then { u with state := if u.recoveryEnd.isSome then .recovering else .ready }
          else { u with offPending := false }) } ∧
        t.lki.replies = s.lki.replies ++ [placeOf r (.ok false (headFields h t))] ∧
        t.lnc.hold = { s.lnc.hold with headDown := headDownHeld t } ∧ ChangesOnly [.cnu, .lnc, .lki] s t))

/-- SET_POSTMARK is BAD_VALUE for a date that is not real or earlier than the present one, for an office without a text,
and for a start number not above the last number given for its date; otherwise it sets the date, the time mark and the
office, and with 11 bytes a start number, the numbers clamped into their ranges (R94, R95, R96). -/
def Obligations.SetPostmarkSetsSettings : Prop :=
  ∀ (r : Request) (rest : List Request) (s : State) (d : Date) (time office : Nat) (n : Option Nat),
    Served .setPostmark r rest s →
    d = ⟨(byteAt r.payload 0).toNat * 256 + (byteAt r.payload 1).toNat, (byteAt r.payload 2).toNat,
      (byteAt r.payload 3).toNat⟩ →
    time = (byteAt r.payload 4).toNat * 256 + (byteAt r.payload 5).toNat → office = (byteAt r.payload 6).toNat →
    n = (if r.payload.length = 11 then some (ofBytes (r.payload.drop 7)) else none) →
    (d.real = false ∨ (∃ d₀, s.cnu.date = some d₀ ∧ d.before d₀ = true) ∨ 8 ≤ office ∨
        s.prl.profile.office office = [] ∨
        (∃ v f, n = some v ∧ s.cnu.lastFire = some f ∧ f.date = d ∧ max 1 (min 9999999 v) ≤ f.seq) →
      exec .setPostmark s = .next (refused r rest .badValue s)) ∧
    (d.real = true → (∀ d₀, s.cnu.date = some d₀ → d.before d₀ = false) → office < 8 →
      s.prl.profile.office office ≠ [] →
      (∀ v f, n = some v → s.cnu.lastFire = some f → f.date = d → f.seq < max 1 (min 9999999 v)) →
      ∃ t, exec .setPostmark s = .next t ∧
        t.cnu = { s.cnu with
          date := some d, timeMark := min time 1439, office := office
          waiting := match n with
            | some v => some ⟨max 1 (min 9999999 v), d⟩
            | none => s.cnu.waiting } ∧
        t.lki = { s.lki with
          requests := rest
          replies := s.lki.replies ++ [placeOf r (.ok
            (decide (1439 < time ∨ ∃ v, n = some v ∧ (v < 1 ∨ 9999999 < v))) (postmarkFields t))] } ∧
        ChangesOnly [.cnu, .lki] s t)

/-! ### Pockets, trays and tallies (chapter 6) -/

/-- A tray taken out of a pocket in OPEN, FULL or DRAINING is pulled: its record goes into the log where there is room,
its letters before the commitment point go to pocket 9, which reopens if it is CLOSED, with both pending counts, and the
others bear the no-tray mark; out of CLOSED the pocket is only NO_TRAY. A tray put into NO_TRAY opens it with its mapped
class, and one put into OUT begins a new tray there; elsewhere it is only noted. A sweep button starts and stops its
debounce. In LOADING the levels alone are kept (R122, R129, R134, R135, R136, R137). That a tray put into NO_TRAY marks
no letter is the model's reading of R134 (DEDUCED, log entry 29). -/
def Obligations.TraySensorsAndButtons : Prop :=
  ∀ (s : State) (k : PocketNo), s.inReset = false →
    (s.lnc.line = .loading ∨ s.inputs.tray[k] = false → exec (.trayRemoved k) s =
      .next { s with inputs := { s.inputs with tray := s.inputs.tray.set k false } }) ∧
    (s.lnc.line = .loading ∨ s.inputs.tray[k] = true → exec (.trayInserted k) s =
      .next { s with inputs := { s.inputs with tray := s.inputs.tray.set k true } }) ∧
    (s.lnc.line ≠ .loading → s.inputs.tray[k] = true →
      ((s.pkm.pockets[k]).state = .closed ∨ (s.pkm.pockets[k]).state = .noTray →
        exec (.trayRemoved k) s = .next { s with
          inputs := { s.inputs with tray := s.inputs.tray.set k false }
          pkm := { s.pkm with pockets := (s.pkm.pockets.set k
            { s.pkm.pockets[k] with state := .noTray, tray := false }) } }) ∧
      ((s.pkm.pockets[k]).state = .open ∨ (s.pkm.pockets[k]).state = .full ∨ (s.pkm.pockets[k]).state = .draining ∨
          ((s.pkm.pockets[k]).state = .out ∧ (s.pkm.pockets[k]).tray = true) →
        (s.trk.letters.map (·.id)).Nodup → ∃ t, exec (.trayRemoved k) s = .next t ∧
          (t.pkm.pockets[k]).state = (if (s.pkm.pockets[k]).state = .out then .out else .noTray) ∧
          (t.pkm.pockets[k]).delivered = 0 ∧ (t.pkm.pockets[k]).firstId = none ∧ (t.pkm.pockets[k]).lastId = none ∧
          (t.pkm.pockets[k]).trayNo =
            (if (s.pkm.pockets[k]).trayNo = 65535 then 1 else (s.pkm.pockets[k]).trayNo + 1) ∧
          (t.pkm.pockets[k]).trayClass = (s.pkm.pockets[k]).trayClass ∧ (t.pkm.pockets[k]).tray = false ∧
          (∀ n : Nat, n = (s.trk.letters.filter fun l => decide (l.dest.map Destination.pocket = some k) &&
              !decide (commitGate k ∈ l.setupReached) && isBank k).length →
            (t.pkm.pockets[k]).pending = (s.pkm.pockets[k]).pending - n ∧
            ∀ j : PocketNo, j ≠ k → t.pkm.pockets[j] =
              if j = 9 then givenLetters 9 n s.pkm.pockets[j] else s.pkm.pockets[j]) ∧
          EventSet.has t.lki.events .pocketNoTray = true ∧
          ((s.pkm.pockets[k]).state = .draining ∨ s.pkm.log.length + reservations s < 16 →
            t.pkm.log = s.pkm.log ++ [makeTrayRecord k s.pkm.pockets[k] .pulled] ∧
            tally .traysClosed t = min (tally .traysClosed s + 1) 4294967295) ∧
          ((s.pkm.pockets[k]).state ≠ .draining → 16 ≤ s.pkm.log.length + reservations s →
            t.pkm.log = s.pkm.log ∧ tally .traysLostLog t = min (tally .traysLostLog s + 1) 4294967295) ∧
          t.trk.letters = (s.trk.letters.map fun l =>
            if l.dest.map Destination.pocket = some k then
              if commitGate k ∈ l.setupReached then { l with noTray := true }
              else if isBank k then { l with dest := l.dest.map fun d => { d with pocket := 9 } } else l
            else l) ∧
          t.lnc.line = s.lnc.line)) ∧
    (s.lnc.line ≠ .loading → s.inputs.tray[k] = false → (s.pkm.pockets[k]).state = .noTray →
      ∃ t, exec (.trayInserted k) s = .next t ∧
        t.pkm = { s.pkm with pockets := (s.pkm.pockets.set k { s.pkm.pockets[k] with
          state := .open, trayClass := s.prl.profile.mappedClass k, tray := true
          delivered := 0, firstId := none, lastId := none, firstSeq := none, lastSeq := none, firstDate := none
          reason := none }) } ∧
        t.lnc.line = s.lnc.line ∧ ChangesOnly [.inputs, .pkm, .lnc, .lki] s t) ∧
    (s.lnc.line ≠ .loading → s.inputs.tray[k] = false → (s.pkm.pockets[k]).state ≠ .noTray →
      (s.pkm.pockets[k]).state ≠ .out → exec (.trayInserted k) s = .next { s with
        inputs := { s.inputs with tray := s.inputs.tray.set k true }
        pkm := { s.pkm with pockets := s.pkm.pockets.set k { s.pkm.pockets[k] with tray := true } } }) ∧
    (s.lnc.line ≠ .loading → s.inputs.tray[k] = false → (s.pkm.pockets[k]).state = .out →
      (s.pkm.pockets[k]).tray = false → exec (.trayInserted k) s = .next { s with
        inputs := { s.inputs with tray := s.inputs.tray.set k true }
        pkm := { s.pkm with pockets := (s.pkm.pockets.set k { s.pkm.pockets[k] with
          trayClass := s.prl.profile.mappedClass k, tray := true
          delivered := 0, firstId := none, lastId := none, firstSeq := none, lastSeq := none, firstDate := none
          reason := none }) } }) ∧
    ∀ active, exec (.sweepButtonChange k active) s = .next { s with
      inputs := { s.inputs with sweep := s.inputs.sweep.set k active }
      pkm := if s.lnc.line = .loading ∨ s.inputs.sweep[k] = active then s.pkm
        else { s.pkm with debounce := s.pkm.debounce.set k active } }

/-- SWEEP and a held sweep button take a tray: the pocket drains with the close reason, and closes at once with nothing
pending, its record in the log, a new tray number, TRAYS_CLOSED and TRAY_CLOSED. The request is WRONG_STATE outside the
states that allow it and LOG_FULL without a free slot; the press is then ignored (R124, R128, R129, R130, R131, R132). -/
def Obligations.SweepDrainsAndCloses : Prop :=
  (∀ (s : State) (k : PocketNo),
    sweepRefusal k s =
      if ¬ (if 1 ≤ k.val ∧ k.val ≤ 8 then (s.pkm.pockets[k]).state = .open ∨ (s.pkm.pockets[k]).state = .full
          else (s.pkm.pockets[k]).state = .open ∧ s.lnc.line.sampling = false) then some .wrongState
      else if 16 ≤ s.pkm.log.length + reservations s then some .logFull else none) ∧
  (∀ r rest s x, Served .sweep r rest s → r.payload = [x] →
    (10 ≤ x.toNat → exec .sweep s = .next (refused r rest .badValue s)) ∧
    (∀ k e, pocketOfByte x = some k → sweepRefusal k s = some e →
      exec .sweep s = .next (refused r rest e s)) ∧
    (∀ k, pocketOfByte x = some k → sweepRefusal k s = none → (s.pkm.pockets[k]).pending ≠ 0 →
      exec .sweep s = .next (answered r rest (.ok false [x, 2, BitVec.ofNat 8 (s.pkm.pockets[k]).pending])
        { s with pkm := { s.pkm with pockets := (s.pkm.pockets.set k
          { s.pkm.pockets[k] with state := .draining, reason := some .sweepRequest }) } })) ∧
    (∀ k, pocketOfByte x = some k → sweepRefusal k s = none → (s.pkm.pockets[k]).pending = 0 →
      ∃ t, exec .sweep s = .next t ∧
        t.pkm.log = s.pkm.log ++ [makeTrayRecord k s.pkm.pockets[k] .sweepRequest] ∧
        t.pkm.pockets = (s.pkm.pockets.set k { s.pkm.pockets[k] with
          state := .closed
          trayNo := if (s.pkm.pockets[k]).trayNo = 65535 then 1 else (s.pkm.pockets[k]).trayNo + 1
          delivered := 0, firstId := none, lastId := none, firstSeq := none, lastSeq := none, firstDate := none
          reason := none }) ∧
        tally .traysClosed t = min (tally .traysClosed s + 1) 4294967295 ∧
        EventSet.has t.lki.events .trayClosed = true ∧
        t.lki.replies = s.lki.replies ++ [placeOf r (.ok false [x, 3, 0])] ∧ t.lki.requests = rest ∧
        t.lnc.line = s.lnc.line ∧ ChangesOnly [.pkm, .lnc, .lki] s t)) ∧
  ∀ (s : State) (k : PocketNo), s.inReset = false →
    (s.pkm.debounce[k] = false → exec (.sweepButton k) s = .next s) ∧
    (s.pkm.debounce[k] = true → sweepRefusal k s ≠ none →
      exec (.sweepButton k) s = .next { s with pkm := { s.pkm with debounce := s.pkm.debounce.set k false } }) ∧
    (s.pkm.debounce[k] = true → sweepRefusal k s = none → (s.pkm.pockets[k]).pending ≠ 0 →
      exec (.sweepButton k) s = .next { s with pkm := { s.pkm with
        debounce := s.pkm.debounce.set k false
        pockets := (s.pkm.pockets.set k
          { s.pkm.pockets[k] with state := .draining, reason := some .sweepButton }) } }) ∧
    (s.pkm.debounce[k] = true → sweepRefusal k s = none → (s.pkm.pockets[k]).pending = 0 →
      ∃ t, exec (.sweepButton k) s = .next t ∧
        t.pkm.log = s.pkm.log ++ [makeTrayRecord k s.pkm.pockets[k] .sweepButton] ∧
        (t.pkm.pockets[k]).state = .closed ∧ (t.pkm.pockets[k]).delivered = 0 ∧
        t.pkm.debounce = s.pkm.debounce.set k false ∧ ChangesOnly [.pkm, .lnc, .lki] s t)

/-- At its pocket decision point a MAIN letter gets its destination class from its verdict and outcome, and the first
pocket of that class's list that is OPEN, of the class and below its limit, else pocket 9. Its pending count rises, a
CLOSED pocket 9 reopens as a fresh tray with the number advanced at its close, and nothing else of it or of another
pocket changes; a print whose end is reached there ends first (R108, R121, R122). A STAMP with any outcome but PRINTED
is UNCANCELLED: so R121 has it for MISSED, FAULTED and HEAD_DOWN, and for SCHEDULED it is the model's choice (log entry
16). -/
def Obligations.PocketDecided : Prop :=
  ∀ (s : State) (id : LetterId) (l : Letter) (q : Pos), s.inReset = false → findLetter id s = some l →
    l.pdecPoint = some q →
    (reached s.trk.belt q = false → exec (.pocketDecisionPoint id) s = .next s) ∧
    (reached s.trk.belt q = true → (∀ h, (s.cnu.heads.get h).printing ≠ some id) →
      ∃ t m k c, exec (.pocketDecisionPoint id) s = .next t ∧ findLetter id t = some m ∧
        m.dest = some ⟨k, some c⟩ ∧ m.pdecPoint = none ∧
        (∀ v cls turnover, l.verdict = some v → l.route = some (.main turnover cls) →
          (v.kind = .meter → c = if cls = .lead then .meterLead else .meterTrail) ∧
          (v.kind = .stamp → l.cancel.map CancelPart.outcome = some .printed →
            c = if cls = .lead then .facedLead else .facedTrail) ∧
          (v.kind = .stamp → l.cancel.map CancelPart.outcome ≠ some .printed → c = .uncancelled)) ∧
        ((s.prl.profile.classLists.get c).find? fun j =>
          (s.pkm.pockets[j]).state == .open && (s.pkm.pockets[j]).trayClass == some c &&
            decide ((s.pkm.pockets[j]).delivered + (s.pkm.pockets[j]).pending < s.prl.profile.limits[j])).getD 9 = k ∧
        t.pkm.pockets = s.pkm.pockets.set k (givenLetters k 1 s.pkm.pockets[k]) ∧
        t.lnc.line = s.lnc.line ∧ ChangesOnly [.trk, .pkm, .lnc, .lki] s t) ∧
    (∀ h e v cls turnover, reached s.trk.belt q = true → (s.cnu.heads.get h).printing = some id →
      (s.cnu.heads.get h).state = .printing → (s.cnu.heads.get h).fireEnd = some e → reached s.trk.belt e = true →
      l.verdict = some v → v.kind = .stamp → l.route = some (.main turnover cls) → l.cancel.isSome = true →
      ∃ t m k, exec (.pocketDecisionPoint id) s = .next t ∧ findLetter id t = some m ∧
        m.cancel.map CancelPart.outcome = some .printed ∧
        m.dest = some ⟨k, some (if cls = .lead then .facedLead else .facedTrail)⟩ ∧ m.pdecPoint = none ∧
        t.pkm.pockets = s.pkm.pockets.set k (givenLetters k 1 s.pkm.pockets[k]))

/-- POCKET_OUT and POCKET_IN act on bank pockets alone; a pocket that comes back at its limit is FULL, and with
AUTO_CLOSE on and a free slot its tray is closed at once; TAKE_TRAY gives the oldest tray record, or says none;
CLEAR_SHIFT zeroes the 34 tallies and nothing else, outside STARTING, RUNNING and STOPPING (R124, R130, R131, R132,
R133, R137, R138, R142). -/
def Obligations.PocketServiceRequests : Prop :=
  (∀ r rest s x, r.payload = [x] → (x = 0 ∨ 9 ≤ x.toNat) →
    (Served .pocketOut r rest s → exec .pocketOut s = .next (refused r rest .badValue s)) ∧
    (Served .pocketIn r rest s → exec .pocketIn s = .next (refused r rest .badValue s))) ∧
  (∀ r rest s x k, r.payload = [x] → pocketOfByte x = some k → 1 ≤ k.val → k.val ≤ 8 →
    (Served .pocketOut r rest s →
      ((s.pkm.pockets[k]).state = .draining ∨ (s.pkm.pockets[k]).state = .closed →
        exec .pocketOut s = .next (refused r rest .wrongState s)) ∧
      ((s.pkm.pockets[k]).state ≠ .draining → (s.pkm.pockets[k]).state ≠ .closed →
        exec .pocketOut s = .next (answered r rest
          (.ok false ([x, 5] ++ be16 (s.pkm.pockets[k]).delivered ++ u8 (s.pkm.pockets[k]).pending
            ++ bit s.inputs.tray[k]))
          { s with pkm := { s.pkm with pockets := (s.pkm.pockets.set k { s.pkm.pockets[k] with state := .out }) } }))) ∧
    (Served .pocketIn r rest s →
      ((s.pkm.pockets[k]).state ≠ .out →
        exec .pocketIn s = .next (answered r rest (.ok false (pocketInFields k s)) s)) ∧
      ((s.pkm.pockets[k]).state = .out → (s.pkm.pockets[k]).tray = false ∨
          (s.pkm.pockets[k]).delivered < s.prl.profile.limits[k] →
        ∃ st, st = (if (s.pkm.pockets[k]).tray = true then PocketState.open else .noTray) ∧
        exec .pocketIn s = .next (answered r rest
          (.ok false ([x, BitVec.ofNat 8 st.code] ++ be16 (s.pkm.pockets[k]).delivered ++
            u8 (s.pkm.pockets[k]).pending))
          { s with pkm := { s.pkm with pockets := (s.pkm.pockets.set k { s.pkm.pockets[k] with state := st }) } })) ∧
      ((s.pkm.pockets[k]).state = .out → (s.pkm.pockets[k]).tray = true →
        s.prl.profile.limits[k] ≤ (s.pkm.pockets[k]).delivered → s.prl.profile.autoClose = false →
        exec .pocketIn s = .next (answered r rest
          (.ok false ([x, 1] ++ be16 (s.pkm.pockets[k]).delivered ++ u8 (s.pkm.pockets[k]).pending))
          (raise .pocketFull { s with pkm := { s.pkm with
            pockets := (s.pkm.pockets.set k { s.pkm.pockets[k] with state := .full }) } }))) ∧
      ((s.pkm.pockets[k]).state = .out → (s.pkm.pockets[k]).tray = true →
        s.prl.profile.limits[k] ≤ (s.pkm.pockets[k]).delivered → s.prl.profile.autoClose = true →
        (16 ≤ s.pkm.log.length + reservations s → exec .pocketIn s = .next (answered r rest
          (.ok false ([x, 1] ++ be16 (s.pkm.pockets[k]).delivered ++ u8 (s.pkm.pockets[k]).pending))
          (raise .pocketFull { s with pkm := { s.pkm with
            pockets := (s.pkm.pockets.set k { s.pkm.pockets[k] with state := .full }) } }))) ∧
        (s.pkm.log.length + reservations s < 16 → (s.pkm.pockets[k]).pending ≠ 0 →
          exec .pocketIn s = .next (answered r rest
            (.ok false ([x, 2] ++ be16 (s.pkm.pockets[k]).delivered ++ u8 (s.pkm.pockets[k]).pending))
            (raise .pocketFull { s with pkm := { s.pkm with pockets := (s.pkm.pockets.set k
              { s.pkm.pockets[k] with state := .draining, reason := some .full }) } }))) ∧
        (s.pkm.log.length + reservations s < 16 → (s.pkm.pockets[k]).pending = 0 →
          ∃ t, exec .pocketIn s = .next t ∧
            t.pkm.log = s.pkm.log ++ [makeTrayRecord k s.pkm.pockets[k] .full] ∧
            t.pkm.pockets = (s.pkm.pockets.set k { s.pkm.pockets[k] with
              state := .closed
              trayNo := if (s.pkm.pockets[k]).trayNo = 65535 then 1 else (s.pkm.pockets[k]).trayNo + 1
              delivered := 0, firstId := none, lastId := none, firstSeq := none, lastSeq := none, firstDate := none
              reason := none }) ∧
            tally .traysClosed t = min (tally .traysClosed s + 1) 4294967295 ∧
            (∀ y, y ≠ .traysClosed → tally y t = tally y s) ∧ t.pkm.debounce = s.pkm.debounce ∧
            EventSet.has t.lki.events .pocketFull = true ∧ EventSet.has t.lki.events .trayClosed = true ∧
            t.lki.replies = s.lki.replies ++ [placeOf r (.ok false [x, 3, 0, 0, 0])] ∧ t.lki.requests = rest ∧
            t.lnc.line = s.lnc.line ∧ ChangesOnly [.pkm, .lnc, .lki] s t)))) ∧
  (∀ r rest s, Served .takeTray r rest s →
    (s.pkm.log = [] → exec .takeTray s = .next (answered r rest (.ok false [0]) s)) ∧
    (∀ x xs, s.pkm.log = x :: xs → exec .takeTray s = .next (answered r rest (.ok false (1 :: trayBytes x))
      { s with pkm := { s.pkm with log := xs } }))) ∧
  ∀ r rest s, Served .clearShift r rest s →
    (s.lnc.line.sampling = true → exec .clearShift s = .next (refused r rest .wrongState s)) ∧
    (s.lnc.line.sampling = false → exec .clearShift s = .next (answered r rest (.ok false [])
      { s with pkm := { s.pkm with tallies := Vector.replicate 34 0 } }))

/-! ### What every command keeps -/

/-- The invariants below hold right after reset. -/
def Obligations.ResetMeetsInvariants : Prop :=
  FaultReasonKept State.reset ∧ WithinCapacity State.reset ∧ PostmarkInOrder State.reset ∧ HoldSetKept State.reset ∧
  ListKept State.reset ∧ AccountKept State.reset

/-- Every step keeps the fault reason present exactly while the line is FAULTED. A FAULTED line keeps its first cause,
and only CLEAR_FAULT and the two resets take it out of FAULTED (R160, R163). -/
def Obligations.FaultReasonInvariant : Prop :=
  (∀ s t : State, FaultReasonKept s → step s = .next t → FaultReasonKept t) ∧
  ∀ (c : Instr) (s t : State), s.lnc.line = .faulted → exec c s = .next t → c ≠ .clearFault → c ≠ .softReset →
    (∀ straps, c ≠ .resetNRelease straps) → t.lnc.line = .faulted ∧ t.lnc.reason = s.lnc.reason

/-- Every step keeps within their capacities the transport list (48 records), the tray log with its reservations (16),
the request queue (4), the reply queue (4), the report queue (64), both head queues (16 each), the capture buffer (128
entries, FULL at the last) and the run lists of the letter being scanned (4 on each channel), and no request behind an
accepted RESET (R16, R45, R47, R67, R100, R101, R132, R172, R177, R178, R180). -/
def Obligations.CapacityInvariant : Prop :=
  ∀ s t : State, WithinCapacity s → step s = .next t → WithinCapacity t

/-- Every step keeps the feed hold set in line with its owners' conditions: LIST_HIGH with the number of records in every
line state, CATCH_FULL with the counts and limits of pockets 0 and 9 and HEAD_DOWN with the heads and the policy in every
line state after LOADING (R16, R114, R127, R153). -/
def Obligations.HoldSetInvariant : Prop :=
  ∀ s t : State, HoldSetKept s → step s = .next t → HoldSetKept t

/-- The line changes its state only along the transitions of chapter 7, whatever the command; the reset of an accepted
RESET and the release of RESET_N apart, which enter LOADING. Every step keeps the transport list empty outside RUNNING
and STOPPING and while the stop timer runs (R147 to R165). -/
def Obligations.LineMovesAreAllowed : Prop :=
  (∀ (c : Instr) (s t : State), exec c s = .next t → c ≠ .softReset → (∀ straps, c ≠ .resetNRelease straps) →
    t.lnc.line = s.lnc.line ∨ (s.lnc.line, t.lnc.line) ∈ lineMoves) ∧
  ∀ s t : State, ListKept s → step s = .next t → ListKept t

/-- What no other event moves: a pending event kind leaves the set only by CLEAR_EVENTS or by a reset; the belt position
changes only by a pulse and by the pin reset; the next letter id only by an induction and by the pin reset (R1, R10,
R183). -/
def Obligations.EventsBeltAndIdsMoveOnlyByTheirOwn : Prop :=
  (∀ (c : Instr) (s t : State) (k : EventKind), EventSet.has s.lki.events k = true → exec c s = .next t →
    c ≠ .clearEvents → c ≠ .softReset → (∀ straps, c ≠ .resetNRelease straps) → EventSet.has t.lki.events k = true) ∧
  ∀ (c : Instr) (s t : State), exec c s = .next t → (∀ straps, c ≠ .resetNRelease straps) →
    (c ≠ .encPulse → t.trk.belt = s.trk.belt) ∧ (c ≠ .e0LeEdge → t.trk.nextId = s.trk.nextId)

/-- Every step keeps the postmark settings and the sequence state in order, and but for the pin reset a date that is
present stays present and never goes back (R93, R94, R95, R104). -/
def Obligations.PostmarkInvariant : Prop :=
  (∀ s t : State, PostmarkInOrder s → step s = .next t → PostmarkInOrder t) ∧
  ∀ (c : Instr) (s t : State) (d : Date), s.cnu.date = some d → exec c s = .next t →
    (∀ straps, c ≠ .resetNRelease straps) → ∃ e, t.cnu.date = some e ∧ e.before d = false

/-- Every step keeps the account of the letters: each pocket's pending count is the number of its letters in the list, so
that together they are the letters with a destination; a bank pocket's delivered and pending letters stay within its
limit outside LOADING; and INDUCTED stays the sum of the deliveries, the losses and the list while none of these tallies
has reached its ceiling (R118, R121, R123, R125, R126, R140, R141, R142, R145, R146). The step is one that finds the next
letter id free, as R10 has it, and the list empty where no letter can be. -/
def Obligations.AccountInvariant : Prop :=
  (∀ s t : State, AccountKept s → ListKept s → (∀ l ∈ s.trk.letters, l.id ≠ s.trk.nextId) → step s = .next t →
    AccountKept t) ∧
  ∀ s : State, AccountKept s →
    (allPockets.map fun k => (s.pkm.pockets[k]).pending).sum = (s.trk.letters.filter fun l => l.dest.isSome).length
end

