-- ==== Sys2Proof/Laws/State.lean ====
section
/-! SUPPORT. What each named update changes: one field of the state, and no other (true by unfolding). -/

namespace Sys2Proof.Machine

/-- A quantity that every application of `f` keeps is kept by folding it over a list. -/
theorem foldl_keeps {α β : Type} (f : State → α → State) (g : State → β) (l : List α)
    (h : ∀ s a, g (f s a) = g s) (s : State) : g (l.foldl f s) = g s := by
  induction l generalizing s with
  | nil => rfl
  | cons a l ih => rw [List.foldl_cons, ih, h]

@[simp] theorem raise_frame (k : EventKind) (s : State) :
    (raise k s).inReset = s.inReset ∧ (raise k s).inputs = s.inputs ∧ (raise k s).trk = s.trk ∧
    (raise k s).lch = s.lch ∧ (raise k s).scan = s.scan ∧ (raise k s).held = s.held ∧ (raise k s).cnu = s.cnu ∧
    (raise k s).pkm = s.pkm ∧ (raise k s).lnc = s.lnc ∧ (raise k s).prl = s.prl ∧ (raise k s).pending = s.pending := by and_intros <;> rfl

@[simp] theorem bump_frame (x : Tally) (s : State) :
    (bump x s).inReset = s.inReset ∧ (bump x s).inputs = s.inputs ∧ (bump x s).trk = s.trk ∧
    (bump x s).lch = s.lch ∧ (bump x s).scan = s.scan ∧ (bump x s).held = s.held ∧ (bump x s).cnu = s.cnu ∧
    (bump x s).lnc = s.lnc ∧ (bump x s).lki = s.lki ∧ (bump x s).prl = s.prl ∧ (bump x s).pending = s.pending := by and_intros <;> rfl

@[simp] theorem updateLetter_frame (id : LetterId) (f : Letter → Letter) (s : State) :
    (updateLetter id f s).inReset = s.inReset ∧ (updateLetter id f s).inputs = s.inputs ∧
    (updateLetter id f s).lch = s.lch ∧ (updateLetter id f s).scan = s.scan ∧ (updateLetter id f s).held = s.held ∧
    (updateLetter id f s).cnu = s.cnu ∧ (updateLetter id f s).pkm = s.pkm ∧ (updateLetter id f s).lnc = s.lnc ∧
    (updateLetter id f s).lki = s.lki ∧ (updateLetter id f s).prl = s.prl ∧
    (updateLetter id f s).pending = s.pending := by and_intros <;> rfl

@[simp] theorem updateChan_frame (c : Chan) (f : Channel → Channel) (s : State) :
    (updateChan c f s).inReset = s.inReset ∧ (updateChan c f s).inputs = s.inputs ∧
    (updateChan c f s).trk = s.trk ∧ (updateChan c f s).scan = s.scan ∧ (updateChan c f s).held = s.held ∧
    (updateChan c f s).cnu = s.cnu ∧ (updateChan c f s).pkm = s.pkm ∧ (updateChan c f s).lnc = s.lnc ∧
    (updateChan c f s).lki = s.lki ∧ (updateChan c f s).prl = s.prl ∧ (updateChan c f s).pending = s.pending := by and_intros <;> rfl

@[simp] theorem updateHead_frame (h : Head) (f : HeadUnit → HeadUnit) (s : State) :
    (updateHead h f s).inReset = s.inReset ∧ (updateHead h f s).inputs = s.inputs ∧
    (updateHead h f s).trk = s.trk ∧ (updateHead h f s).lch = s.lch ∧ (updateHead h f s).scan = s.scan ∧
    (updateHead h f s).held = s.held ∧ (updateHead h f s).pkm = s.pkm ∧ (updateHead h f s).lnc = s.lnc ∧
    (updateHead h f s).lki = s.lki ∧ (updateHead h f s).prl = s.prl ∧ (updateHead h f s).pending = s.pending := by and_intros <;> rfl

@[simp] theorem updatePocket_frame (k : PocketNo) (f : Pocket → Pocket) (s : State) :
    (updatePocket k f s).inReset = s.inReset ∧ (updatePocket k f s).inputs = s.inputs ∧
    (updatePocket k f s).trk = s.trk ∧ (updatePocket k f s).lch = s.lch ∧ (updatePocket k f s).scan = s.scan ∧
    (updatePocket k f s).held = s.held ∧ (updatePocket k f s).cnu = s.cnu ∧ (updatePocket k f s).lnc = s.lnc ∧
    (updatePocket k f s).lki = s.lki ∧ (updatePocket k f s).prl = s.prl ∧ (updatePocket k f s).pending = s.pending := by and_intros <;> rfl

@[simp] theorem setGate_frame (g : GateId) (x : Gate) (s : State) :
    (setGate g x s).inReset = s.inReset ∧ (setGate g x s).inputs = s.inputs ∧ (setGate g x s).lch = s.lch ∧
    (setGate g x s).scan = s.scan ∧ (setGate g x s).held = s.held ∧ (setGate g x s).cnu = s.cnu ∧
    (setGate g x s).pkm = s.pkm ∧ (setGate g x s).lnc = s.lnc ∧ (setGate g x s).lki = s.lki ∧
    (setGate g x s).prl = s.prl ∧ (setGate g x s).pending = s.pending := by and_intros <;> rfl

@[simp] theorem restGates_frame (s : State) :
    (restGates s).inReset = s.inReset ∧ (restGates s).inputs = s.inputs ∧ (restGates s).lch = s.lch ∧
    (restGates s).scan = s.scan ∧ (restGates s).held = s.held ∧ (restGates s).cnu = s.cnu ∧
    (restGates s).pkm = s.pkm ∧ (restGates s).lnc = s.lnc ∧ (restGates s).lki = s.lki ∧ (restGates s).prl = s.prl ∧
    (restGates s).pending = s.pending := by and_intros <;> rfl

@[simp] theorem clearMeasuring_frame (s : State) :
    (clearMeasuring s).inReset = s.inReset ∧ (clearMeasuring s).inputs = s.inputs ∧ (clearMeasuring s).lch = s.lch ∧
    (clearMeasuring s).scan = s.scan ∧ (clearMeasuring s).held = s.held ∧ (clearMeasuring s).cnu = s.cnu ∧
    (clearMeasuring s).pkm = s.pkm ∧ (clearMeasuring s).lnc = s.lnc ∧ (clearMeasuring s).lki = s.lki ∧ (clearMeasuring s).prl = s.prl ∧
    (clearMeasuring s).pending = s.pending := by and_intros <;> rfl

@[simp] theorem pushAnswer_frame (kind tag : Byte) (a : Answer) (s : State) :
    (pushAnswer kind tag a s).inReset = s.inReset ∧ (pushAnswer kind tag a s).inputs = s.inputs ∧
    (pushAnswer kind tag a s).trk = s.trk ∧ (pushAnswer kind tag a s).lch = s.lch ∧
    (pushAnswer kind tag a s).scan = s.scan ∧ (pushAnswer kind tag a s).held = s.held ∧
    (pushAnswer kind tag a s).cnu = s.cnu ∧ (pushAnswer kind tag a s).pkm = s.pkm ∧
    (pushAnswer kind tag a s).lnc = s.lnc ∧ (pushAnswer kind tag a s).prl = s.prl ∧
    (pushAnswer kind tag a s).pending = s.pending := by and_intros <;> rfl

@[simp] theorem fillDeferred_frame (a : Answer) (s : State) :
    (fillDeferred a s).inReset = s.inReset ∧ (fillDeferred a s).inputs = s.inputs ∧
    (fillDeferred a s).trk = s.trk ∧ (fillDeferred a s).lch = s.lch ∧ (fillDeferred a s).scan = s.scan ∧
    (fillDeferred a s).held = s.held ∧ (fillDeferred a s).cnu = s.cnu ∧ (fillDeferred a s).pkm = s.pkm ∧
    (fillDeferred a s).lnc = s.lnc ∧ (fillDeferred a s).prl = s.prl ∧ (fillDeferred a s).pending = s.pending := by and_intros <;> rfl

@[simp] theorem appendLog_frame (x : TrayRecord) (s : State) :
    (appendLog x s).inReset = s.inReset ∧ (appendLog x s).inputs = s.inputs ∧ (appendLog x s).trk = s.trk ∧
    (appendLog x s).lch = s.lch ∧ (appendLog x s).scan = s.scan ∧ (appendLog x s).held = s.held ∧
    (appendLog x s).cnu = s.cnu ∧ (appendLog x s).lnc = s.lnc ∧ (appendLog x s).lki = s.lki ∧
    (appendLog x s).prl = s.prl ∧ (appendLog x s).pending = s.pending := by and_intros <;> rfl

@[simp] theorem dropRecord_frame (l : Letter) (s : State) :
    (dropRecord l s).inReset = s.inReset ∧ (dropRecord l s).inputs = s.inputs ∧ (dropRecord l s).lch = s.lch ∧
    (dropRecord l s).scan = s.scan ∧ (dropRecord l s).held = s.held ∧ (dropRecord l s).cnu = s.cnu ∧
    (dropRecord l s).pkm = s.pkm ∧ (dropRecord l s).lnc = s.lnc ∧ (dropRecord l s).lki = s.lki ∧
    (dropRecord l s).prl = s.prl ∧ (dropRecord l s).pending = s.pending := by and_intros <;> rfl

@[simp] theorem updateScan_frame (f : ScanContext → ScanContext) (s : State) :
    (updateScan f s).inReset = s.inReset ∧ (updateScan f s).inputs = s.inputs ∧ (updateScan f s).trk = s.trk ∧
    (updateScan f s).lch = s.lch ∧ (updateScan f s).held = s.held ∧ (updateScan f s).cnu = s.cnu ∧
    (updateScan f s).pkm = s.pkm ∧ (updateScan f s).lnc = s.lnc ∧ (updateScan f s).lki = s.lki ∧
    (updateScan f s).prl = s.prl ∧ (updateScan f s).pending = s.pending := by and_intros <;> rfl

@[simp] theorem idleChannels_frame (s : State) :
    (idleChannels s).inReset = s.inReset ∧ (idleChannels s).inputs = s.inputs ∧ (idleChannels s).trk = s.trk ∧
    (idleChannels s).scan = s.scan ∧ (idleChannels s).held = s.held ∧ (idleChannels s).cnu = s.cnu ∧
    (idleChannels s).pkm = s.pkm ∧ (idleChannels s).lnc = s.lnc ∧ (idleChannels s).lki = s.lki ∧
    (idleChannels s).prl = s.prl ∧ (idleChannels s).pending = s.pending := by and_intros <;> rfl

@[simp] theorem channelsStart_frame (s : State) :
    (channelsStart s).inReset = s.inReset ∧ (channelsStart s).inputs = s.inputs ∧ (channelsStart s).trk = s.trk ∧
    (channelsStart s).scan = s.scan ∧ (channelsStart s).held = s.held ∧ (channelsStart s).cnu = s.cnu ∧
    (channelsStart s).pkm = s.pkm ∧ (channelsStart s).lnc = s.lnc ∧ (channelsStart s).lki = s.lki ∧
    (channelsStart s).prl = s.prl ∧ (channelsStart s).pending = s.pending := by and_intros <;> rfl

@[simp] theorem captureSample_frame (c : Chan) (letter : Option LetterId) (e : CaptureEntry) (s : State) :
    (captureSample c letter e s).inReset = s.inReset ∧ (captureSample c letter e s).inputs = s.inputs ∧
    (captureSample c letter e s).trk = s.trk ∧ (captureSample c letter e s).scan = s.scan ∧
    (captureSample c letter e s).held = s.held ∧ (captureSample c letter e s).cnu = s.cnu ∧
    (captureSample c letter e s).pkm = s.pkm ∧ (captureSample c letter e s).lnc = s.lnc ∧
    (captureSample c letter e s).lki = s.lki ∧ (captureSample c letter e s).prl = s.prl ∧
    (captureSample c letter e s).pending = s.pending := by and_intros <;> rfl

@[simp] theorem stopSampling_frame (s : State) :
    (stopSampling s).inReset = s.inReset ∧ (stopSampling s).inputs = s.inputs ∧ (stopSampling s).trk = s.trk ∧
    (stopSampling s).cnu = s.cnu ∧ (stopSampling s).pkm = s.pkm ∧ (stopSampling s).lnc = s.lnc ∧
    (stopSampling s).lki = s.lki ∧ (stopSampling s).prl = s.prl ∧ (stopSampling s).pending = s.pending := by and_intros <;> rfl

@[simp] theorem leaveCalibration_frame (s : State) :
    (leaveCalibration s).inReset = s.inReset ∧ (leaveCalibration s).inputs = s.inputs ∧
    (leaveCalibration s).trk = s.trk ∧ (leaveCalibration s).scan = s.scan ∧ (leaveCalibration s).held = s.held ∧
    (leaveCalibration s).cnu = s.cnu ∧ (leaveCalibration s).pkm = s.pkm ∧ (leaveCalibration s).lnc = s.lnc ∧
    (leaveCalibration s).lki = s.lki ∧ (leaveCalibration s).prl = s.prl ∧ (leaveCalibration s).pending = s.pending := by and_intros <;> rfl

@[simp] theorem updateLine_frame (f : LineController → LineController) (s : State) :
    (updateLine f s).inReset = s.inReset ∧ (updateLine f s).inputs = s.inputs ∧ (updateLine f s).trk = s.trk ∧
    (updateLine f s).lch = s.lch ∧ (updateLine f s).scan = s.scan ∧ (updateLine f s).held = s.held ∧
    (updateLine f s).cnu = s.cnu ∧ (updateLine f s).pkm = s.pkm ∧ (updateLine f s).lki = s.lki ∧
    (updateLine f s).prl = s.prl ∧ (updateLine f s).pending = s.pending := by and_intros <;> rfl

@[simp] theorem pulseLamps_frame (pos : Pos) (s : State) :
    (pulseLamps pos s).inReset = s.inReset ∧ (pulseLamps pos s).inputs = s.inputs ∧
    (pulseLamps pos s).trk = s.trk ∧ (pulseLamps pos s).scan = s.scan ∧ (pulseLamps pos s).held = s.held ∧
    (pulseLamps pos s).cnu = s.cnu ∧ (pulseLamps pos s).pkm = s.pkm ∧ (pulseLamps pos s).lnc = s.lnc ∧
    (pulseLamps pos s).lki = s.lki ∧ (pulseLamps pos s).prl = s.prl ∧ (pulseLamps pos s).pending = s.pending := by and_intros <;> rfl

@[simp] theorem encPulse_frame (s : State) :
    (encPulse s).inReset = s.inReset ∧ (encPulse s).inputs = s.inputs ∧ (encPulse s).scan = s.scan ∧
    (encPulse s).held = s.held ∧ (encPulse s).cnu = s.cnu ∧ (encPulse s).pkm = s.pkm ∧ (encPulse s).lnc = s.lnc ∧
    (encPulse s).lki = s.lki ∧ (encPulse s).prl = s.prl ∧ (encPulse s).pending = s.pending := by and_intros <;> rfl

@[simp] theorem addRecord_frame (l : Letter) (s : State) :
    (addRecord l s).inReset = s.inReset ∧ (addRecord l s).inputs = s.inputs ∧ (addRecord l s).lch = s.lch ∧
    (addRecord l s).scan = s.scan ∧ (addRecord l s).held = s.held ∧ (addRecord l s).cnu = s.cnu ∧
    (addRecord l s).pkm = s.pkm ∧ (addRecord l s).lnc = s.lnc ∧ (addRecord l s).lki = s.lki ∧
    (addRecord l s).prl = s.prl ∧ (addRecord l s).pending = s.pending := by and_intros <;> rfl

@[simp] theorem updateLink_frame (f : Link → Link) (s : State) :
    (updateLink f s).inReset = s.inReset ∧ (updateLink f s).inputs = s.inputs ∧ (updateLink f s).trk = s.trk ∧
    (updateLink f s).lch = s.lch ∧ (updateLink f s).scan = s.scan ∧ (updateLink f s).held = s.held ∧
    (updateLink f s).cnu = s.cnu ∧ (updateLink f s).pkm = s.pkm ∧ (updateLink f s).lnc = s.lnc ∧
    (updateLink f s).prl = s.prl ∧ (updateLink f s).pending = s.pending := by and_intros <;> rfl

@[simp] theorem transmit_frame (f : Frame) (s : State) :
    (transmit f s).inReset = s.inReset ∧ (transmit f s).inputs = s.inputs ∧ (transmit f s).trk = s.trk ∧
    (transmit f s).lch = s.lch ∧ (transmit f s).scan = s.scan ∧ (transmit f s).held = s.held ∧
    (transmit f s).cnu = s.cnu ∧ (transmit f s).pkm = s.pkm ∧ (transmit f s).lnc = s.lnc ∧
    (transmit f s).prl = s.prl ∧ (transmit f s).pending = s.pending := by and_intros <;> rfl

@[simp] theorem updateLoader_frame (f : Loader → Loader) (s : State) :
    (updateLoader f s).inReset = s.inReset ∧ (updateLoader f s).inputs = s.inputs ∧
    (updateLoader f s).trk = s.trk ∧ (updateLoader f s).lch = s.lch ∧ (updateLoader f s).scan = s.scan ∧
    (updateLoader f s).held = s.held ∧ (updateLoader f s).cnu = s.cnu ∧ (updateLoader f s).pkm = s.pkm ∧
    (updateLoader f s).lnc = s.lnc ∧ (updateLoader f s).lki = s.lki ∧ (updateLoader f s).pending = s.pending := by and_intros <;> rfl

@[simp] theorem updateProfile_frame (f : Profile → Profile) (s : State) :
    (updateProfile f s).inReset = s.inReset ∧ (updateProfile f s).inputs = s.inputs ∧
    (updateProfile f s).trk = s.trk ∧ (updateProfile f s).lch = s.lch ∧ (updateProfile f s).scan = s.scan ∧
    (updateProfile f s).held = s.held ∧ (updateProfile f s).cnu = s.cnu ∧ (updateProfile f s).pkm = s.pkm ∧
    (updateProfile f s).lnc = s.lnc ∧ (updateProfile f s).lki = s.lki ∧ (updateProfile f s).pending = s.pending := by and_intros <;> rfl

@[simp] theorem setDebounce_frame (k : PocketNo) (running : Bool) (s : State) :
    (setDebounce k running s).inReset = s.inReset ∧ (setDebounce k running s).inputs = s.inputs ∧
    (setDebounce k running s).trk = s.trk ∧ (setDebounce k running s).lch = s.lch ∧
    (setDebounce k running s).scan = s.scan ∧ (setDebounce k running s).held = s.held ∧
    (setDebounce k running s).cnu = s.cnu ∧ (setDebounce k running s).lnc = s.lnc ∧
    (setDebounce k running s).lki = s.lki ∧ (setDebounce k running s).prl = s.prl ∧
    (setDebounce k running s).pending = s.pending := by and_intros <;> rfl

@[simp] theorem setMask_frame (m : EventSet) (s : State) :
    (setMask m s).inReset = s.inReset ∧ (setMask m s).inputs = s.inputs ∧ (setMask m s).trk = s.trk ∧
    (setMask m s).lch = s.lch ∧ (setMask m s).scan = s.scan ∧ (setMask m s).held = s.held ∧
    (setMask m s).cnu = s.cnu ∧ (setMask m s).pkm = s.pkm ∧ (setMask m s).lnc = s.lnc ∧ (setMask m s).lki = s.lki ∧
    (setMask m s).pending = s.pending := by and_intros <;> rfl

/-! ### The other fields of the block that changes -/

@[simp] theorem raise_parts (k : EventKind) (s : State) :
    (raise k s).lki.mode = s.lki.mode ∧ (raise k s).lki.rate = s.lki.rate ∧ (raise k s).lki.rx = s.lki.rx ∧
    (raise k s).lki.requests = s.lki.requests ∧ (raise k s).lki.replies = s.lki.replies ∧
    (raise k s).lki.reports = s.lki.reports ∧ (raise k s).lki.dropped = s.lki.dropped ∧
    (raise k s).lki.badFrames = s.lki.badFrames ∧ (raise k s).lki.timeouts = s.lki.timeouts ∧
    (raise k s).lki.busy = s.lki.busy ∧ (raise k s).lki.resetPending = s.lki.resetPending ∧
    (raise k s).lki.sending = s.lki.sending ∧
    (raise k s).lki.txd = s.lki.txd ∧ (raise k s).lki.events = s.lki.events ||| k.bit := by
  and_intros <;> rfl

@[simp] theorem bump_parts (x : Tally) (s : State) :
    (bump x s).pkm.pockets = s.pkm.pockets ∧ (bump x s).pkm.log = s.pkm.log ∧
    (bump x s).pkm.debounce = s.pkm.debounce := by
  and_intros <;> rfl

@[simp] theorem updateLetter_parts (id : LetterId) (f : Letter → Letter) (s : State) :
    (updateLetter id f s).trk.belt = s.trk.belt ∧ (updateLetter id f s).trk.windowCount = s.trk.windowCount ∧
    (updateLetter id f s).trk.speed = s.trk.speed ∧ (updateLetter id f s).trk.moving = s.trk.moving ∧
    (updateLetter id f s).trk.nextId = s.trk.nextId ∧ (updateLetter id f s).trk.measuring = s.trk.measuring ∧
    (updateLetter id f s).trk.lastTe = s.trk.lastTe ∧ (updateLetter id f s).trk.gates = s.trk.gates ∧
    (updateLetter id f s).trk.letters = updateList id f s.trk.letters := by
  and_intros <;> rfl

@[simp] theorem updateChan_parts (c : Chan) (f : Channel → Channel) (s : State) :
    (updateChan c f s).lch.outstanding = s.lch.outstanding ∧ (updateChan c f s).lch.flashDue = s.lch.flashDue ∧
    (updateChan c f s).lch.flashPos = s.lch.flashPos ∧
    (updateChan c f s).lch.silent = s.lch.silent ∧ (updateChan c f s).lch.lampPulses = s.lch.lampPulses ∧
    (updateChan c f s).lch.shutter = s.lch.shutter ∧ (updateChan c f s).lch.capture = s.lch.capture ∧
    (updateChan c f s).lch.calib = s.lch.calib ∧
    (updateChan c f s).lch.chans = s.lch.chans.set c (f (s.lch.chans.get c)) := by
  and_intros <;> rfl

@[simp] theorem updateHead_parts (h : Head) (f : HeadUnit → HeadUnit) (s : State) :
    (updateHead h f s).cnu.date = s.cnu.date ∧ (updateHead h f s).cnu.timeMark = s.cnu.timeMark ∧
    (updateHead h f s).cnu.office = s.cnu.office ∧ (updateHead h f s).cnu.waiting = s.cnu.waiting ∧
    (updateHead h f s).cnu.lastFire = s.cnu.lastFire ∧
    (updateHead h f s).cnu.heads = s.cnu.heads.set h (f (s.cnu.heads.get h)) := by
  and_intros <;> rfl

@[simp] theorem updatePocket_parts (k : PocketNo) (f : Pocket → Pocket) (s : State) :
    (updatePocket k f s).pkm.log = s.pkm.log ∧ (updatePocket k f s).pkm.tallies = s.pkm.tallies ∧
    (updatePocket k f s).pkm.debounce = s.pkm.debounce ∧
    (updatePocket k f s).pkm.pockets = s.pkm.pockets.set k (f s.pkm.pockets[k]) := by
  and_intros <;> rfl

@[simp] theorem setGate_parts (g : GateId) (x : Gate) (s : State) :
    (setGate g x s).trk.belt = s.trk.belt ∧ (setGate g x s).trk.windowCount = s.trk.windowCount ∧
    (setGate g x s).trk.speed = s.trk.speed ∧ (setGate g x s).trk.moving = s.trk.moving ∧
    (setGate g x s).trk.letters = s.trk.letters ∧ (setGate g x s).trk.nextId = s.trk.nextId ∧
    (setGate g x s).trk.measuring = s.trk.measuring ∧ (setGate g x s).trk.lastTe = s.trk.lastTe ∧
    (setGate g x s).trk.gates = s.trk.gates.set (gateIdx g) x := by
  and_intros <;> rfl

@[simp] theorem restGates_parts (s : State) :
    (restGates s).trk.belt = s.trk.belt ∧ (restGates s).trk.windowCount = s.trk.windowCount ∧
    (restGates s).trk.speed = s.trk.speed ∧ (restGates s).trk.moving = s.trk.moving ∧
    (restGates s).trk.letters = s.trk.letters ∧ (restGates s).trk.nextId = s.trk.nextId ∧
    (restGates s).trk.measuring = s.trk.measuring ∧ (restGates s).trk.lastTe = s.trk.lastTe ∧
    (restGates s).trk.gates = Vector.replicate 10 .atRest := by
  and_intros <;> rfl

@[simp] theorem clearMeasuring_parts (s : State) :
    (clearMeasuring s).trk.belt = s.trk.belt ∧ (clearMeasuring s).trk.windowCount = s.trk.windowCount ∧
    (clearMeasuring s).trk.speed = s.trk.speed ∧ (clearMeasuring s).trk.moving = s.trk.moving ∧
    (clearMeasuring s).trk.letters = s.trk.letters ∧ (clearMeasuring s).trk.nextId = s.trk.nextId ∧
    (clearMeasuring s).trk.measuring = none ∧ (clearMeasuring s).trk.lastTe = s.trk.lastTe ∧
    (clearMeasuring s).trk.gates = s.trk.gates := by
  and_intros <;> rfl

@[simp] theorem pushAnswer_parts (kind tag : Byte) (a : Answer) (s : State) :
    (pushAnswer kind tag a s).lki.mode = s.lki.mode ∧ (pushAnswer kind tag a s).lki.rate = s.lki.rate ∧
    (pushAnswer kind tag a s).lki.rx = s.lki.rx ∧ (pushAnswer kind tag a s).lki.requests = s.lki.requests ∧
    (pushAnswer kind tag a s).lki.reports = s.lki.reports ∧
    (pushAnswer kind tag a s).lki.dropped = s.lki.dropped ∧
    (pushAnswer kind tag a s).lki.badFrames = s.lki.badFrames ∧
    (pushAnswer kind tag a s).lki.timeouts = s.lki.timeouts ∧ (pushAnswer kind tag a s).lki.busy = s.lki.busy ∧
    (pushAnswer kind tag a s).lki.events = s.lki.events ∧
    (pushAnswer kind tag a s).lki.noticeDue = s.lki.noticeDue ∧
    (pushAnswer kind tag a s).lki.resetPending = s.lki.resetPending ∧
    (pushAnswer kind tag a s).lki.sending = s.lki.sending ∧
    (pushAnswer kind tag a s).lki.txd = s.lki.txd := by
  and_intros <;> rfl

@[simp] theorem fillDeferred_parts (a : Answer) (s : State) :
    (fillDeferred a s).lki.mode = s.lki.mode ∧ (fillDeferred a s).lki.rate = s.lki.rate ∧
    (fillDeferred a s).lki.rx = s.lki.rx ∧ (fillDeferred a s).lki.requests = s.lki.requests ∧
    (fillDeferred a s).lki.reports = s.lki.reports ∧ (fillDeferred a s).lki.dropped = s.lki.dropped ∧
    (fillDeferred a s).lki.badFrames = s.lki.badFrames ∧ (fillDeferred a s).lki.timeouts = s.lki.timeouts ∧
    (fillDeferred a s).lki.busy = s.lki.busy ∧ (fillDeferred a s).lki.events = s.lki.events ∧
    (fillDeferred a s).lki.noticeDue = s.lki.noticeDue ∧
    (fillDeferred a s).lki.resetPending = s.lki.resetPending ∧ (fillDeferred a s).lki.sending = s.lki.sending ∧
    (fillDeferred a s).lki.txd = s.lki.txd ∧
    (fillDeferred a s).lki.replies = fillList a s.lki.replies := by
  and_intros <;> rfl

@[simp] theorem appendLog_parts (x : TrayRecord) (s : State) :
    (appendLog x s).pkm.pockets = s.pkm.pockets ∧ (appendLog x s).pkm.tallies = s.pkm.tallies ∧
    (appendLog x s).pkm.debounce = s.pkm.debounce ∧ (appendLog x s).pkm.log = s.pkm.log ++ [x] := by
  and_intros <;> rfl

@[simp] theorem dropRecord_parts (l : Letter) (s : State) :
    (dropRecord l s).trk.belt = s.trk.belt ∧ (dropRecord l s).trk.windowCount = s.trk.windowCount ∧
    (dropRecord l s).trk.speed = s.trk.speed ∧ (dropRecord l s).trk.moving = s.trk.moving ∧
    (dropRecord l s).trk.nextId = s.trk.nextId ∧ (dropRecord l s).trk.lastTe = s.trk.lastTe ∧
    (dropRecord l s).trk.gates = s.trk.gates ∧
    (dropRecord l s).trk.letters = s.trk.letters.filter (·.id != l.id) := by
  and_intros <;> rfl

@[simp] theorem idleChannels_parts (s : State) :
    (idleChannels s).lch.outstanding = s.lch.outstanding ∧ (idleChannels s).lch.flashDue = s.lch.flashDue ∧
    (idleChannels s).lch.flashPos = s.lch.flashPos ∧
    (idleChannels s).lch.silent = s.lch.silent ∧ (idleChannels s).lch.lampPulses = s.lch.lampPulses ∧
    (idleChannels s).lch.shutter = s.lch.shutter ∧ (idleChannels s).lch.capture = s.lch.capture ∧
    (idleChannels s).lch.calib = s.lch.calib ∧ (idleChannels s).lch.chans = s.lch.chans.map Channel.toIdle := by
  and_intros <;> rfl

@[simp] theorem channelsStart_parts (s : State) :
    (channelsStart s).lch.silent = s.lch.silent ∧
    (channelsStart s).lch.lampPulses = s.lch.lampPulses ∧ (channelsStart s).lch.shutter = s.lch.shutter ∧
    (channelsStart s).lch.capture = s.lch.capture ∧ (channelsStart s).lch.calib = s.lch.calib := by
  and_intros <;> rfl

@[simp] theorem captureSample_parts (c : Chan) (letter : Option LetterId) (e : CaptureEntry) (s : State) :
    (captureSample c letter e s).lch.chans = s.lch.chans ∧
    (captureSample c letter e s).lch.outstanding = s.lch.outstanding ∧
    (captureSample c letter e s).lch.flashDue = s.lch.flashDue ∧
    (captureSample c letter e s).lch.flashPos = s.lch.flashPos ∧
    (captureSample c letter e s).lch.silent = s.lch.silent ∧
    (captureSample c letter e s).lch.lampPulses = s.lch.lampPulses ∧
    (captureSample c letter e s).lch.shutter = s.lch.shutter ∧
    (captureSample c letter e s).lch.calib = s.lch.calib ∧
    (captureSample c letter e s).lch.capture = s.lch.capture.take c letter e := by
  and_intros <;> rfl

@[simp] theorem stopSampling_parts (s : State) :
    (stopSampling s).lch.chans = s.lch.chans ∧
    (stopSampling s).lch.silent = s.lch.silent ∧ (stopSampling s).lch.lampPulses = s.lch.lampPulses ∧
    (stopSampling s).lch.shutter = s.lch.shutter ∧ (stopSampling s).lch.calib = s.lch.calib := by
  and_intros <;> rfl

@[simp] theorem leaveCalibration_parts (s : State) :
    (leaveCalibration s).lch.chans = s.lch.chans ∧ (leaveCalibration s).lch.flashDue = s.lch.flashDue ∧
    (leaveCalibration s).lch.flashPos = s.lch.flashPos ∧
    (leaveCalibration s).lch.silent = s.lch.silent ∧
    (leaveCalibration s).lch.lampPulses = s.lch.lampPulses ∧ (leaveCalibration s).lch.capture = s.lch.capture := by
  and_intros <;> rfl

@[simp] theorem pulseLamps_parts (pos : Pos) (s : State) :
    (pulseLamps pos s).lch.chans = s.lch.chans ∧ (pulseLamps pos s).lch.shutter = s.lch.shutter ∧
    (pulseLamps pos s).lch.capture = s.lch.capture ∧ (pulseLamps pos s).lch.calib = s.lch.calib ∧
    (pulseLamps pos s).lch.flashPos = some pos ∧
    (pulseLamps pos s).lch.silent = s.lch.chans.map (fun c => c.state.isFault) := by
  and_intros <;> rfl

@[simp] theorem encPulse_parts (s : State) :
    (encPulse s).trk.speed = s.trk.speed ∧ (encPulse s).trk.letters = s.trk.letters ∧
    (encPulse s).trk.nextId = s.trk.nextId ∧ (encPulse s).trk.measuring = s.trk.measuring ∧
    (encPulse s).trk.lastTe = s.trk.lastTe ∧ (encPulse s).trk.gates = s.trk.gates ∧
    (encPulse s).trk.belt = s.trk.belt + 1 ∧ (encPulse s).trk.moving = true := by
  and_intros <;> rfl

@[simp] theorem addRecord_parts (l : Letter) (s : State) :
    (addRecord l s).trk.belt = s.trk.belt ∧ (addRecord l s).trk.windowCount = s.trk.windowCount ∧
    (addRecord l s).trk.speed = s.trk.speed ∧ (addRecord l s).trk.moving = s.trk.moving ∧
    (addRecord l s).trk.lastTe = s.trk.lastTe ∧ (addRecord l s).trk.gates = s.trk.gates ∧
    (addRecord l s).trk.letters = s.trk.letters ++ [l] := by
  and_intros <;> rfl

@[simp] theorem transmit_parts (f : Frame) (s : State) :
    (transmit f s).lki.mode = s.lki.mode ∧ (transmit f s).lki.rate = s.lki.rate ∧
    (transmit f s).lki.rx = s.lki.rx ∧ (transmit f s).lki.requests = s.lki.requests ∧
    (transmit f s).lki.replies = s.lki.replies ∧ (transmit f s).lki.reports = s.lki.reports ∧
    (transmit f s).lki.dropped = s.lki.dropped ∧ (transmit f s).lki.badFrames = s.lki.badFrames ∧
    (transmit f s).lki.timeouts = s.lki.timeouts ∧ (transmit f s).lki.busy = s.lki.busy ∧
    (transmit f s).lki.events = s.lki.events ∧ (transmit f s).lki.noticeDue = s.lki.noticeDue ∧
    (transmit f s).lki.resetPending = s.lki.resetPending ∧ (transmit f s).lki.sending = true ∧
    (transmit f s).lki.txd = frameBytes f := by
  and_intros <;> rfl

@[simp] theorem setDebounce_parts (k : PocketNo) (running : Bool) (s : State) :
    (setDebounce k running s).pkm.pockets = s.pkm.pockets ∧ (setDebounce k running s).pkm.log = s.pkm.log ∧
    (setDebounce k running s).pkm.tallies = s.pkm.tallies := by
  and_intros <;> rfl

@[simp] theorem updateProfile_parts (f : Profile → Profile) (s : State) :
    (updateProfile f s).prl.source = s.prl.source ∧ (updateProfile f s).prl.result = s.prl.result ∧
    (updateProfile f s).prl.afterPin = s.prl.afterPin ∧ (updateProfile f s).prl.store = s.prl.store ∧
    (updateProfile f s).prl.spiOps = s.prl.spiOps ∧ (updateProfile f s).prl.profile = f s.prl.profile := by
  and_intros <;> rfl

@[simp] theorem updateLine_lnc (f : LineController → LineController) (s : State) : (updateLine f s).lnc = f s.lnc := rfl

@[simp] theorem updateLink_lki (f : Link → Link) (s : State) : (updateLink f s).lki = f s.lki := rfl

@[simp] theorem updateLoader_prl (f : Loader → Loader) (s : State) : (updateLoader f s).prl = f s.prl := rfl

@[simp] theorem updateScan_scan (f : ScanContext → ScanContext) (s : State) : (updateScan f s).scan = s.scan.map f := rfl

end Sys2Proof.Machine
end

