-- ==== Sys2Proof/Laws/Frames.lean ====
section
/-! SUPPORT. The frame of every shared operation: the parts of the state it leaves as they were. A part that a theorem
does not list may change. -/

namespace Sys2Proof.Machine

@[simp] theorem setHold_frame (h : HoldSet) (s : State) :
    (setHold h s).inReset = s.inReset ∧ (setHold h s).inputs = s.inputs ∧ (setHold h s).trk = s.trk ∧
    (setHold h s).lch = s.lch ∧ (setHold h s).scan = s.scan ∧ (setHold h s).held = s.held ∧
    (setHold h s).cnu = s.cnu ∧ (setHold h s).pkm = s.pkm ∧ (setHold h s).prl = s.prl ∧
    (setHold h s).pending = s.pending := by
  unfold setHold; first | simp; done | (and_intros <;> (repeat' split) <;> simp)

@[simp] theorem refreshListHigh_frame (s : State) :
    (refreshListHigh s).inReset = s.inReset ∧ (refreshListHigh s).inputs = s.inputs ∧
    (refreshListHigh s).trk = s.trk ∧ (refreshListHigh s).lch = s.lch ∧ (refreshListHigh s).scan = s.scan ∧
    (refreshListHigh s).held = s.held ∧ (refreshListHigh s).cnu = s.cnu ∧ (refreshListHigh s).pkm = s.pkm ∧
    (refreshListHigh s).prl = s.prl ∧ (refreshListHigh s).pending = s.pending := by
  unfold refreshListHigh; and_intros <;> simp

@[simp] theorem refreshCatchFull_frame (s : State) :
    (refreshCatchFull s).inReset = s.inReset ∧ (refreshCatchFull s).inputs = s.inputs ∧
    (refreshCatchFull s).trk = s.trk ∧ (refreshCatchFull s).lch = s.lch ∧ (refreshCatchFull s).scan = s.scan ∧
    (refreshCatchFull s).held = s.held ∧ (refreshCatchFull s).cnu = s.cnu ∧ (refreshCatchFull s).pkm = s.pkm ∧
    (refreshCatchFull s).prl = s.prl ∧ (refreshCatchFull s).pending = s.pending := by
  unfold refreshCatchFull; and_intros <;> simp

@[simp] theorem applyHeadDown_frame (s : State) :
    (applyHeadDown s).inReset = s.inReset ∧ (applyHeadDown s).inputs = s.inputs ∧ (applyHeadDown s).trk = s.trk ∧
    (applyHeadDown s).lch = s.lch ∧ (applyHeadDown s).scan = s.scan ∧ (applyHeadDown s).held = s.held ∧
    (applyHeadDown s).cnu = s.cnu ∧ (applyHeadDown s).pkm = s.pkm ∧ (applyHeadDown s).prl = s.prl ∧
    (applyHeadDown s).pending = s.pending := by
  unfold applyHeadDown; and_intros <;> simp

@[simp] theorem refreshHeadDown_frame (s : State) :
    (refreshHeadDown s).inReset = s.inReset ∧ (refreshHeadDown s).inputs = s.inputs ∧
    (refreshHeadDown s).trk = s.trk ∧ (refreshHeadDown s).lch = s.lch ∧ (refreshHeadDown s).scan = s.scan ∧
    (refreshHeadDown s).held = s.held ∧ (refreshHeadDown s).cnu = s.cnu ∧ (refreshHeadDown s).pkm = s.pkm ∧
    (refreshHeadDown s).prl = s.prl ∧ (refreshHeadDown s).pending = s.pending := by
  unfold refreshHeadDown; and_intros <;> (repeat' split) <;> simp

@[simp] theorem takeGate_frame (l : Letter) (g : GateId) (s : State) :
    (takeGate l g s).inReset = s.inReset ∧ (takeGate l g s).inputs = s.inputs ∧ (takeGate l g s).lch = s.lch ∧
    (takeGate l g s).scan = s.scan ∧ (takeGate l g s).held = s.held ∧ (takeGate l g s).cnu = s.cnu ∧
    (takeGate l g s).pkm = s.pkm ∧ (takeGate l g s).lnc = s.lnc ∧ (takeGate l g s).lki = s.lki ∧
    (takeGate l g s).prl = s.prl ∧ (takeGate l g s).pending = s.pending := by
  unfold takeGate; and_intros <;> simp

@[simp] theorem releaseGateFuel_frame (n : Nat) (g : GateId) (s : State) :
    (releaseGateFuel n g s).inReset = s.inReset ∧ (releaseGateFuel n g s).inputs = s.inputs ∧
    (releaseGateFuel n g s).lch = s.lch ∧ (releaseGateFuel n g s).scan = s.scan ∧
    (releaseGateFuel n g s).held = s.held ∧ (releaseGateFuel n g s).cnu = s.cnu ∧
    (releaseGateFuel n g s).pkm = s.pkm ∧ (releaseGateFuel n g s).lnc = s.lnc ∧
    (releaseGateFuel n g s).lki = s.lki ∧ (releaseGateFuel n g s).prl = s.prl ∧
    (releaseGateFuel n g s).pending = s.pending := by
  induction n generalizing s with
  | zero => simp [releaseGateFuel]
  | succ n ih => simp only [releaseGateFuel]; and_intros <;> (repeat' split) <;> simp [ih]

@[simp] theorem releaseGate_frame (g : GateId) (s : State) :
    (releaseGate g s).inReset = s.inReset ∧ (releaseGate g s).inputs = s.inputs ∧ (releaseGate g s).lch = s.lch ∧
    (releaseGate g s).scan = s.scan ∧ (releaseGate g s).held = s.held ∧ (releaseGate g s).cnu = s.cnu ∧
    (releaseGate g s).pkm = s.pkm ∧ (releaseGate g s).lnc = s.lnc ∧ (releaseGate g s).lki = s.lki ∧
    (releaseGate g s).prl = s.prl ∧ (releaseGate g s).pending = s.pending := by
  unfold releaseGate; and_intros <;> simp

@[simp] theorem releaseIfDue_frame (g : GateId) (s : State) :
    (releaseIfDue g s).inReset = s.inReset ∧ (releaseIfDue g s).inputs = s.inputs ∧
    (releaseIfDue g s).lch = s.lch ∧ (releaseIfDue g s).scan = s.scan ∧ (releaseIfDue g s).held = s.held ∧
    (releaseIfDue g s).cnu = s.cnu ∧ (releaseIfDue g s).pkm = s.pkm ∧ (releaseIfDue g s).lnc = s.lnc ∧
    (releaseIfDue g s).lki = s.lki ∧ (releaseIfDue g s).prl = s.prl ∧ (releaseIfDue g s).pending = s.pending := by
  unfold releaseIfDue; and_intros <;> (repeat' split) <;> simp

@[simp] theorem reachSetup_frame (l : Letter) (g : GateId) (s : State) :
    (reachSetup l g s).inReset = s.inReset ∧ (reachSetup l g s).inputs = s.inputs ∧
    (reachSetup l g s).lch = s.lch ∧ (reachSetup l g s).scan = s.scan ∧ (reachSetup l g s).held = s.held ∧
    (reachSetup l g s).cnu = s.cnu ∧ (reachSetup l g s).pkm = s.pkm ∧ (reachSetup l g s).lnc = s.lnc ∧
    (reachSetup l g s).lki = s.lki ∧ (reachSetup l g s).prl = s.prl ∧ (reachSetup l g s).pending = s.pending := by
  simp only [reachSetup]; and_intros <;> (repeat' split) <;> simp

@[simp] theorem updateOwner_frame (f : GateOwner → GateOwner) (g : GateId) (s : State) :
    (updateOwner f g s).inReset = s.inReset ∧ (updateOwner f g s).inputs = s.inputs ∧
    (updateOwner f g s).lch = s.lch ∧ (updateOwner f g s).scan = s.scan ∧ (updateOwner f g s).held = s.held ∧
    (updateOwner f g s).cnu = s.cnu ∧ (updateOwner f g s).pkm = s.pkm ∧ (updateOwner f g s).lnc = s.lnc ∧
    (updateOwner f g s).lki = s.lki ∧ (updateOwner f g s).prl = s.prl ∧ (updateOwner f g s).pending = s.pending := by
  unfold updateOwner; and_intros <;> simp

@[simp] theorem setReleasePoints_frame (l : Letter) (s : State) :
    (setReleasePoints l s).inReset = s.inReset ∧ (setReleasePoints l s).inputs = s.inputs ∧
    (setReleasePoints l s).lch = s.lch ∧ (setReleasePoints l s).scan = s.scan ∧
    (setReleasePoints l s).held = s.held ∧ (setReleasePoints l s).cnu = s.cnu ∧
    (setReleasePoints l s).pkm = s.pkm ∧ (setReleasePoints l s).lnc = s.lnc ∧ (setReleasePoints l s).lki = s.lki ∧
    (setReleasePoints l s).prl = s.prl ∧ (setReleasePoints l s).pending = s.pending := by
  unfold setReleasePoints; and_intros <;> (apply foldl_keeps; intros; simp)

@[simp] theorem moveReleasePoints_frame (id : LetterId) (d : Int) (s : State) :
    (moveReleasePoints id d s).inReset = s.inReset ∧ (moveReleasePoints id d s).inputs = s.inputs ∧
    (moveReleasePoints id d s).lch = s.lch ∧ (moveReleasePoints id d s).scan = s.scan ∧
    (moveReleasePoints id d s).held = s.held ∧ (moveReleasePoints id d s).cnu = s.cnu ∧
    (moveReleasePoints id d s).pkm = s.pkm ∧ (moveReleasePoints id d s).lnc = s.lnc ∧
    (moveReleasePoints id d s).lki = s.lki ∧ (moveReleasePoints id d s).prl = s.prl ∧
    (moveReleasePoints id d s).pending = s.pending := by
  unfold moveReleasePoints; and_intros <;> (apply foldl_keeps; intros; simp)

@[simp] theorem releaseUnmeasured_frame (id : LetterId) (s : State) :
    (releaseUnmeasured id s).inReset = s.inReset ∧ (releaseUnmeasured id s).inputs = s.inputs ∧
    (releaseUnmeasured id s).lch = s.lch ∧ (releaseUnmeasured id s).scan = s.scan ∧
    (releaseUnmeasured id s).held = s.held ∧ (releaseUnmeasured id s).cnu = s.cnu ∧
    (releaseUnmeasured id s).pkm = s.pkm ∧ (releaseUnmeasured id s).lnc = s.lnc ∧
    (releaseUnmeasured id s).lki = s.lki ∧ (releaseUnmeasured id s).prl = s.prl ∧
    (releaseUnmeasured id s).pending = s.pending := by
  unfold releaseUnmeasured; and_intros <;> (apply foldl_keeps; intros; (repeat' split) <;> simp)

@[simp] theorem driveOwnedBank_frame (l : Letter) (s : State) :
    (driveOwnedBank l s).inReset = s.inReset ∧ (driveOwnedBank l s).inputs = s.inputs ∧
    (driveOwnedBank l s).lch = s.lch ∧ (driveOwnedBank l s).scan = s.scan ∧ (driveOwnedBank l s).held = s.held ∧
    (driveOwnedBank l s).cnu = s.cnu ∧ (driveOwnedBank l s).pkm = s.pkm ∧ (driveOwnedBank l s).lnc = s.lnc ∧
    (driveOwnedBank l s).lki = s.lki ∧ (driveOwnedBank l s).prl = s.prl ∧ (driveOwnedBank l s).pending = s.pending := by
  unfold driveOwnedBank; first | simp; done | (and_intros <;> (repeat' split) <;> simp)

@[simp] theorem closeTray_frame (k : PocketNo) (s : State) :
    (closeTray k s).inReset = s.inReset ∧ (closeTray k s).inputs = s.inputs ∧ (closeTray k s).trk = s.trk ∧
    (closeTray k s).lch = s.lch ∧ (closeTray k s).scan = s.scan ∧ (closeTray k s).held = s.held ∧
    (closeTray k s).cnu = s.cnu ∧ (closeTray k s).prl = s.prl ∧ (closeTray k s).pending = s.pending := by
  unfold closeTray; and_intros <;> simp

@[simp] theorem settleDraining_frame (k : PocketNo) (s : State) :
    (settleDraining k s).inReset = s.inReset ∧ (settleDraining k s).inputs = s.inputs ∧
    (settleDraining k s).trk = s.trk ∧ (settleDraining k s).lch = s.lch ∧ (settleDraining k s).scan = s.scan ∧
    (settleDraining k s).held = s.held ∧ (settleDraining k s).cnu = s.cnu ∧ (settleDraining k s).prl = s.prl ∧
    (settleDraining k s).pending = s.pending := by
  simp only [settleDraining]; and_intros <;> split <;> simp

@[simp] theorem beginDraining_frame (k : PocketNo) (reason : CloseReason) (s : State) :
    (beginDraining k reason s).inReset = s.inReset ∧ (beginDraining k reason s).inputs = s.inputs ∧
    (beginDraining k reason s).trk = s.trk ∧ (beginDraining k reason s).lch = s.lch ∧
    (beginDraining k reason s).scan = s.scan ∧ (beginDraining k reason s).held = s.held ∧
    (beginDraining k reason s).cnu = s.cnu ∧ (beginDraining k reason s).prl = s.prl ∧
    (beginDraining k reason s).pending = s.pending := by
  unfold beginDraining; and_intros <;> simp

@[simp] theorem becomeFull_frame (k : PocketNo) (s : State) :
    (becomeFull k s).inReset = s.inReset ∧ (becomeFull k s).inputs = s.inputs ∧ (becomeFull k s).trk = s.trk ∧
    (becomeFull k s).lch = s.lch ∧ (becomeFull k s).scan = s.scan ∧ (becomeFull k s).held = s.held ∧
    (becomeFull k s).cnu = s.cnu ∧ (becomeFull k s).prl = s.prl ∧ (becomeFull k s).pending = s.pending := by
  simp only [becomeFull]; and_intros <;> split <;> simp

@[simp] theorem assignPocket_frame (k : PocketNo) (s : State) :
    (assignPocket k s).inReset = s.inReset ∧ (assignPocket k s).inputs = s.inputs ∧
    (assignPocket k s).trk = s.trk ∧ (assignPocket k s).lch = s.lch ∧ (assignPocket k s).scan = s.scan ∧
    (assignPocket k s).held = s.held ∧ (assignPocket k s).cnu = s.cnu ∧ (assignPocket k s).prl = s.prl ∧
    (assignPocket k s).pending = s.pending := by
  unfold assignPocket; and_intros <;> simp

@[simp] theorem countDelivery_frame (l : Letter) (k : PocketNo) (s : State) :
    (countDelivery l k s).inReset = s.inReset ∧ (countDelivery l k s).inputs = s.inputs ∧
    (countDelivery l k s).trk = s.trk ∧ (countDelivery l k s).lch = s.lch ∧ (countDelivery l k s).scan = s.scan ∧
    (countDelivery l k s).held = s.held ∧ (countDelivery l k s).cnu = s.cnu ∧ (countDelivery l k s).prl = s.prl ∧
    (countDelivery l k s).pending = s.pending := by
  simp only [countDelivery]; first | simp; done | (and_intros <;> (repeat' split) <;> simp)

@[simp] theorem countLoss_frame (l : Letter) (t : Tally) (s : State) :
    (countLoss l t s).inReset = s.inReset ∧ (countLoss l t s).inputs = s.inputs ∧ (countLoss l t s).trk = s.trk ∧
    (countLoss l t s).lch = s.lch ∧ (countLoss l t s).scan = s.scan ∧ (countLoss l t s).held = s.held ∧
    (countLoss l t s).cnu = s.cnu ∧ (countLoss l t s).prl = s.prl ∧ (countLoss l t s).pending = s.pending := by
  simp only [countLoss]; and_intros <;> (repeat' split) <;> simp

@[simp] theorem countRemoval_frame (l : Letter) (d : Disposition) (s : State) :
    (countRemoval l d s).inReset = s.inReset ∧ (countRemoval l d s).inputs = s.inputs ∧
    (countRemoval l d s).trk = s.trk ∧ (countRemoval l d s).lch = s.lch ∧ (countRemoval l d s).scan = s.scan ∧
    (countRemoval l d s).held = s.held ∧ (countRemoval l d s).cnu = s.cnu ∧ (countRemoval l d s).prl = s.prl ∧
    (countRemoval l d s).pending = s.pending := by
  simp only [countRemoval]; and_intros <;> (repeat' split) <;> simp

@[simp] theorem pullLetter_frame (k : PocketNo) (l : Letter) (s : State) :
    (pullLetter k l s).inReset = s.inReset ∧ (pullLetter k l s).inputs = s.inputs ∧
    (pullLetter k l s).lch = s.lch ∧ (pullLetter k l s).scan = s.scan ∧ (pullLetter k l s).held = s.held ∧
    (pullLetter k l s).cnu = s.cnu ∧ (pullLetter k l s).prl = s.prl ∧ (pullLetter k l s).pending = s.pending := by
  simp only [pullLetter]; first | simp; done | (and_intros <;> (repeat' split) <;> simp)

@[simp] theorem pull_frame (k : PocketNo) (s : State) :
    (pull k s).inReset = s.inReset ∧ (pull k s).inputs = s.inputs ∧ (pull k s).lch = s.lch ∧
    (pull k s).scan = s.scan ∧ (pull k s).held = s.held ∧ (pull k s).cnu = s.cnu ∧ (pull k s).prl = s.prl ∧
    (pull k s).pending = s.pending := by
  simp only [pull]; and_intros <;> simp <;> (refine (foldl_keeps _ _ _ (by intros; simp) _).trans ?_) <;> simp <;> split <;> simp

@[simp] theorem takeRemoval_frame (k : PocketNo) (s : State) :
    (takeRemoval k s).inReset = s.inReset ∧ (takeRemoval k s).inputs = s.inputs ∧ (takeRemoval k s).lch = s.lch ∧
    (takeRemoval k s).scan = s.scan ∧ (takeRemoval k s).held = s.held ∧ (takeRemoval k s).cnu = s.cnu ∧
    (takeRemoval k s).prl = s.prl ∧ (takeRemoval k s).pending = s.pending := by
  simp only [takeRemoval]; first | simp; done | (and_intros <;> (repeat' split) <;> simp)

@[simp] theorem takeInsertion_frame (k : PocketNo) (s : State) :
    (takeInsertion k s).inReset = s.inReset ∧ (takeInsertion k s).inputs = s.inputs ∧
    (takeInsertion k s).trk = s.trk ∧ (takeInsertion k s).lch = s.lch ∧ (takeInsertion k s).scan = s.scan ∧
    (takeInsertion k s).held = s.held ∧ (takeInsertion k s).cnu = s.cnu ∧ (takeInsertion k s).prl = s.prl ∧
    (takeInsertion k s).pending = s.pending := by
  simp only [takeInsertion]; first | simp; done | (and_intros <;> (repeat' split) <;> simp)

@[simp] theorem applyLimit_frame (k : PocketNo) (s : State) :
    (applyLimit k s).inReset = s.inReset ∧ (applyLimit k s).inputs = s.inputs ∧ (applyLimit k s).trk = s.trk ∧
    (applyLimit k s).lch = s.lch ∧ (applyLimit k s).scan = s.scan ∧ (applyLimit k s).held = s.held ∧
    (applyLimit k s).cnu = s.cnu ∧ (applyLimit k s).prl = s.prl ∧ (applyLimit k s).pending = s.pending := by
  simp only [applyLimit]; first | simp; done | (and_intros <;> (repeat' split) <;> simp)

@[simp] theorem adoptClasses_frame (changed : PocketNo → Bool) (s : State) :
    (adoptClasses changed s).inReset = s.inReset ∧ (adoptClasses changed s).inputs = s.inputs ∧
    (adoptClasses changed s).trk = s.trk ∧ (adoptClasses changed s).lch = s.lch ∧
    (adoptClasses changed s).scan = s.scan ∧ (adoptClasses changed s).held = s.held ∧
    (adoptClasses changed s).cnu = s.cnu ∧ (adoptClasses changed s).lnc = s.lnc ∧
    (adoptClasses changed s).lki = s.lki ∧ (adoptClasses changed s).prl = s.prl ∧
    (adoptClasses changed s).pending = s.pending := by
  unfold adoptClasses; and_intros <;> (apply foldl_keeps; intros; dsimp only; split <;> simp)

@[simp] theorem raiseLimit_frame (k : PocketNo) (s : State) :
    (raiseLimit k s).inReset = s.inReset ∧ (raiseLimit k s).inputs = s.inputs ∧ (raiseLimit k s).trk = s.trk ∧
    (raiseLimit k s).lch = s.lch ∧ (raiseLimit k s).scan = s.scan ∧ (raiseLimit k s).held = s.held ∧
    (raiseLimit k s).cnu = s.cnu ∧ (raiseLimit k s).pkm = s.pkm ∧ (raiseLimit k s).lnc = s.lnc ∧
    (raiseLimit k s).lki = s.lki ∧ (raiseLimit k s).pending = s.pending := by
  simp only [raiseLimit]; first | simp; done | (and_intros <;> (repeat' split) <;> simp)

@[simp] theorem queueReport_frame (r : LetterReport) (s : State) :
    (queueReport r s).inReset = s.inReset ∧ (queueReport r s).inputs = s.inputs ∧ (queueReport r s).trk = s.trk ∧
    (queueReport r s).lch = s.lch ∧ (queueReport r s).scan = s.scan ∧ (queueReport r s).held = s.held ∧
    (queueReport r s).cnu = s.cnu ∧ (queueReport r s).pkm = s.pkm ∧ (queueReport r s).lnc = s.lnc ∧
    (queueReport r s).prl = s.prl ∧ (queueReport r s).pending = s.pending := by
  unfold queueReport; first | simp; done | (and_intros <;> (repeat' split) <;> simp)

@[simp] theorem reportRemoval_frame (l : Letter) (d : Disposition) (s : State) :
    (reportRemoval l d s).inReset = s.inReset ∧ (reportRemoval l d s).inputs = s.inputs ∧
    (reportRemoval l d s).trk = s.trk ∧ (reportRemoval l d s).lch = s.lch ∧ (reportRemoval l d s).scan = s.scan ∧
    (reportRemoval l d s).held = s.held ∧ (reportRemoval l d s).cnu = s.cnu ∧ (reportRemoval l d s).pkm = s.pkm ∧
    (reportRemoval l d s).lnc = s.lnc ∧ (reportRemoval l d s).prl = s.prl ∧
    (reportRemoval l d s).pending = s.pending := by
  unfold reportRemoval; and_intros <;> (repeat' split) <;> simp

@[simp] theorem dropScan_frame (l : Letter) (s : State) :
    (dropScan l s).inReset = s.inReset ∧ (dropScan l s).inputs = s.inputs ∧ (dropScan l s).trk = s.trk ∧
    (dropScan l s).lch = s.lch ∧ (dropScan l s).held = s.held ∧ (dropScan l s).cnu = s.cnu ∧
    (dropScan l s).pkm = s.pkm ∧ (dropScan l s).lnc = s.lnc ∧ (dropScan l s).lki = s.lki ∧
    (dropScan l s).prl = s.prl ∧ (dropScan l s).pending = s.pending := by
  unfold dropScan; and_intros <;> (repeat' split) <;> simp

@[simp] theorem removeRecord_frame (l : Letter) (d : Disposition) (s : State) :
    (removeRecord l d s).inReset = s.inReset ∧ (removeRecord l d s).inputs = s.inputs ∧
    (removeRecord l d s).lch = s.lch ∧ (removeRecord l d s).held = s.held ∧ (removeRecord l d s).cnu = s.cnu ∧
    (removeRecord l d s).prl = s.prl ∧ (removeRecord l d s).pending = s.pending := by
  simp only [removeRecord]; and_intros <;> simp

@[simp] theorem writeOutcome_frame (id : LetterId) (o : CancelOutcome) (m : Option MissedReason) (s : State) :
    (writeOutcome id o m s).inReset = s.inReset ∧ (writeOutcome id o m s).inputs = s.inputs ∧
    (writeOutcome id o m s).lch = s.lch ∧ (writeOutcome id o m s).scan = s.scan ∧
    (writeOutcome id o m s).held = s.held ∧ (writeOutcome id o m s).cnu = s.cnu ∧
    (writeOutcome id o m s).lnc = s.lnc ∧ (writeOutcome id o m s).lki = s.lki ∧
    (writeOutcome id o m s).prl = s.prl ∧ (writeOutcome id o m s).pending = s.pending := by
  simp only [writeOutcome]; and_intros <;> (repeat' split) <;> simp

@[simp] theorem schedulePrint_frame (l : Letter) (o : Orientation) (run : ChosenRun) (s : State) :
    (schedulePrint l o run s).inReset = s.inReset ∧ (schedulePrint l o run s).inputs = s.inputs ∧
    (schedulePrint l o run s).lch = s.lch ∧ (schedulePrint l o run s).scan = s.scan ∧
    (schedulePrint l o run s).held = s.held ∧ (schedulePrint l o run s).lnc = s.lnc ∧
    (schedulePrint l o run s).lki = s.lki ∧ (schedulePrint l o run s).prl = s.prl ∧
    (schedulePrint l o run s).pending = s.pending := by
  simp only [schedulePrint]; and_intros <;> (repeat' split) <;> simp

@[simp] theorem startPrint_frame (h : Head) (l : Letter) (x : PrintPart) (s : State) :
    (startPrint h l x s).inReset = s.inReset ∧ (startPrint h l x s).inputs = s.inputs ∧
    (startPrint h l x s).lch = s.lch ∧ (startPrint h l x s).scan = s.scan ∧ (startPrint h l x s).held = s.held ∧
    (startPrint h l x s).pkm = s.pkm ∧ (startPrint h l x s).lnc = s.lnc ∧ (startPrint h l x s).prl = s.prl ∧
    (startPrint h l x s).pending = s.pending := by
  simp only [startPrint]; first | simp; done | (and_intros <;> (repeat' split) <;> simp)

@[simp] theorem takeFireStart_frame (h : Head) (l : Letter) (x : PrintPart) (s : State) :
    (takeFireStart h l x s).inReset = s.inReset ∧ (takeFireStart h l x s).inputs = s.inputs ∧
    (takeFireStart h l x s).lch = s.lch ∧ (takeFireStart h l x s).scan = s.scan ∧
    (takeFireStart h l x s).held = s.held ∧ (takeFireStart h l x s).lnc = s.lnc ∧
    (takeFireStart h l x s).prl = s.prl ∧ (takeFireStart h l x s).pending = s.pending := by
  simp only [takeFireStart]; and_intros <;> (repeat' split) <;> simp

@[simp] theorem reachFireStart_frame (h : Head) (s : State) :
    (reachFireStart h s).inReset = s.inReset ∧ (reachFireStart h s).inputs = s.inputs ∧
    (reachFireStart h s).lch = s.lch ∧ (reachFireStart h s).scan = s.scan ∧ (reachFireStart h s).held = s.held ∧
    (reachFireStart h s).lnc = s.lnc ∧ (reachFireStart h s).prl = s.prl ∧ (reachFireStart h s).pending = s.pending := by
  simp only [reachFireStart]; and_intros <;> (repeat' split) <;> simp

@[simp] theorem endPrint_frame (h : Head) (s : State) :
    (endPrint h s).inReset = s.inReset ∧ (endPrint h s).inputs = s.inputs ∧ (endPrint h s).lch = s.lch ∧
    (endPrint h s).scan = s.scan ∧ (endPrint h s).held = s.held ∧ (endPrint h s).lnc = s.lnc ∧
    (endPrint h s).lki = s.lki ∧ (endPrint h s).prl = s.prl ∧ (endPrint h s).pending = s.pending := by
  simp only [endPrint]; first | simp; done | (and_intros <;> (repeat' split) <;> simp)

@[simp] theorem reachFireEnd_frame (h : Head) (s : State) :
    (reachFireEnd h s).inReset = s.inReset ∧ (reachFireEnd h s).inputs = s.inputs ∧
    (reachFireEnd h s).lch = s.lch ∧ (reachFireEnd h s).scan = s.scan ∧ (reachFireEnd h s).held = s.held ∧
    (reachFireEnd h s).lnc = s.lnc ∧ (reachFireEnd h s).lki = s.lki ∧ (reachFireEnd h s).prl = s.prl ∧
    (reachFireEnd h s).pending = s.pending := by
  simp only [reachFireEnd]; and_intros <;> (repeat' split) <;> simp

@[simp] theorem emptyQueue_frame (h : Head) (s : State) :
    (emptyQueue h s).inReset = s.inReset ∧ (emptyQueue h s).inputs = s.inputs ∧ (emptyQueue h s).lch = s.lch ∧
    (emptyQueue h s).scan = s.scan ∧ (emptyQueue h s).held = s.held ∧ (emptyQueue h s).lnc = s.lnc ∧
    (emptyQueue h s).lki = s.lki ∧ (emptyQueue h s).prl = s.prl ∧ (emptyQueue h s).pending = s.pending := by
  simp only [emptyQueue]; and_intros <;> (refine (foldl_keeps _ _ _ (by intros; simp) _).trans ?_) <;> simp

@[simp] theorem faultHead_frame (h : Head) (s : State) :
    (faultHead h s).inReset = s.inReset ∧ (faultHead h s).inputs = s.inputs ∧ (faultHead h s).lch = s.lch ∧
    (faultHead h s).scan = s.scan ∧ (faultHead h s).held = s.held ∧ (faultHead h s).prl = s.prl ∧
    (faultHead h s).pending = s.pending := by
  simp only [faultHead]; and_intros <;> (repeat' split) <;> simp

@[simp] theorem reachRecoveryEnd_frame (h : Head) (s : State) :
    (reachRecoveryEnd h s).inReset = s.inReset ∧ (reachRecoveryEnd h s).inputs = s.inputs ∧
    (reachRecoveryEnd h s).lch = s.lch ∧ (reachRecoveryEnd h s).scan = s.scan ∧
    (reachRecoveryEnd h s).held = s.held ∧ (reachRecoveryEnd h s).prl = s.prl ∧
    (reachRecoveryEnd h s).pending = s.pending := by
  simp only [reachRecoveryEnd]; and_intros <;> (repeat' split) <;> simp

@[simp] theorem abortPrints_frame (s : State) :
    (abortPrints s).inReset = s.inReset ∧ (abortPrints s).inputs = s.inputs ∧ (abortPrints s).trk = s.trk ∧
    (abortPrints s).lch = s.lch ∧ (abortPrints s).scan = s.scan ∧ (abortPrints s).held = s.held ∧
    (abortPrints s).pkm = s.pkm ∧ (abortPrints s).lnc = s.lnc ∧ (abortPrints s).lki = s.lki ∧
    (abortPrints s).prl = s.prl ∧ (abortPrints s).pending = s.pending := by
  unfold abortPrints; and_intros <;> simp

@[simp] theorem settleHeads_frame (s : State) :
    (settleHeads s).inReset = s.inReset ∧ (settleHeads s).inputs = s.inputs ∧ (settleHeads s).trk = s.trk ∧
    (settleHeads s).lch = s.lch ∧ (settleHeads s).scan = s.scan ∧ (settleHeads s).held = s.held ∧
    (settleHeads s).pkm = s.pkm ∧ (settleHeads s).prl = s.prl ∧ (settleHeads s).pending = s.pending := by
  unfold settleHeads; and_intros <;> simp

@[simp] theorem movePrint_frame (id : LetterId) (d : Int) (s : State) :
    (movePrint id d s).inReset = s.inReset ∧ (movePrint id d s).inputs = s.inputs ∧
    (movePrint id d s).trk = s.trk ∧ (movePrint id d s).lch = s.lch ∧ (movePrint id d s).scan = s.scan ∧
    (movePrint id d s).held = s.held ∧ (movePrint id d s).pkm = s.pkm ∧ (movePrint id d s).lnc = s.lnc ∧
    (movePrint id d s).lki = s.lki ∧ (movePrint id d s).prl = s.prl ∧ (movePrint id d s).pending = s.pending := by
  simp only [movePrint]; and_intros <;> simp

@[simp] theorem countSources_frame (c : Chan) (srcs : List CounterSource) (s : State) :
    (countSources c srcs s).inReset = s.inReset ∧ (countSources c srcs s).inputs = s.inputs ∧
    (countSources c srcs s).trk = s.trk ∧ (countSources c srcs s).scan = s.scan ∧
    (countSources c srcs s).held = s.held ∧ (countSources c srcs s).cnu = s.cnu ∧
    (countSources c srcs s).pkm = s.pkm ∧ (countSources c srcs s).lnc = s.lnc ∧
    (countSources c srcs s).lki = s.lki ∧ (countSources c srcs s).prl = s.prl ∧
    (countSources c srcs s).pending = s.pending := by
  unfold countSources; and_intros <;> (apply foldl_keeps; intros; simp)

@[simp] theorem ensureScan_frame (id : LetterId) (s : State) :
    (ensureScan id s).inReset = s.inReset ∧ (ensureScan id s).inputs = s.inputs ∧ (ensureScan id s).trk = s.trk ∧
    (ensureScan id s).lch = s.lch ∧ (ensureScan id s).held = s.held ∧ (ensureScan id s).cnu = s.cnu ∧
    (ensureScan id s).pkm = s.pkm ∧ (ensureScan id s).lnc = s.lnc ∧ (ensureScan id s).lki = s.lki ∧
    (ensureScan id s).prl = s.prl ∧ (ensureScan id s).pending = s.pending := by
  unfold ensureScan; and_intros <;> (repeat' split) <;> simp

@[simp] theorem markBlindAt_frame (pos : Pos) (c : Chan) (s : State) :
    (markBlindAt pos c s).inReset = s.inReset ∧ (markBlindAt pos c s).inputs = s.inputs ∧
    (markBlindAt pos c s).trk = s.trk ∧ (markBlindAt pos c s).lch = s.lch ∧ (markBlindAt pos c s).held = s.held ∧
    (markBlindAt pos c s).cnu = s.cnu ∧ (markBlindAt pos c s).pkm = s.pkm ∧ (markBlindAt pos c s).lnc = s.lnc ∧
    (markBlindAt pos c s).lki = s.lki ∧ (markBlindAt pos c s).prl = s.prl ∧
    (markBlindAt pos c s).pending = s.pending := by
  unfold markBlindAt; and_intros <;> (repeat' split) <;> simp

@[simp] theorem darkSample_frame (c : Chan) (x : SamplePair) (s : State) :
    (darkSample c x s).inReset = s.inReset ∧ (darkSample c x s).inputs = s.inputs ∧
    (darkSample c x s).trk = s.trk ∧ (darkSample c x s).scan = s.scan ∧ (darkSample c x s).held = s.held ∧
    (darkSample c x s).cnu = s.cnu ∧ (darkSample c x s).pkm = s.pkm ∧ (darkSample c x s).lnc = s.lnc ∧
    (darkSample c x s).prl = s.prl ∧ (darkSample c x s).pending = s.pending := by
  simp only [darkSample]; first | simp; done | (and_intros <;> (repeat' split) <;> simp)

@[simp] theorem faultFace_frame (f : Face) (cause : FaultCause) (s : State) :
    (faultFace f cause s).inReset = s.inReset ∧ (faultFace f cause s).inputs = s.inputs ∧
    (faultFace f cause s).trk = s.trk ∧ (faultFace f cause s).scan = s.scan ∧ (faultFace f cause s).held = s.held ∧
    (faultFace f cause s).cnu = s.cnu ∧ (faultFace f cause s).pkm = s.pkm ∧ (faultFace f cause s).lnc = s.lnc ∧
    (faultFace f cause s).prl = s.prl ∧ (faultFace f cause s).pending = s.pending := by
  simp only [faultFace]; and_intros <;> simp

@[simp] theorem failFace_frame (f : Face) (cause : FaultCause) (s : State) :
    (failFace f cause s).inReset = s.inReset ∧ (failFace f cause s).inputs = s.inputs ∧
    (failFace f cause s).trk = s.trk ∧ (failFace f cause s).held = s.held ∧ (failFace f cause s).cnu = s.cnu ∧
    (failFace f cause s).pkm = s.pkm ∧ (failFace f cause s).lnc = s.lnc ∧ (failFace f cause s).prl = s.prl ∧
    (failFace f cause s).pending = s.pending := by
  simp only [failFace]; and_intros <;> (repeat' split) <;> simp

@[simp] theorem handToCancel_frame (l : Letter) (v : Verdict) (s : State) :
    (handToCancel l v s).inReset = s.inReset ∧ (handToCancel l v s).inputs = s.inputs ∧
    (handToCancel l v s).lch = s.lch ∧ (handToCancel l v s).scan = s.scan ∧ (handToCancel l v s).held = s.held ∧
    (handToCancel l v s).lnc = s.lnc ∧ (handToCancel l v s).lki = s.lki ∧ (handToCancel l v s).prl = s.prl ∧
    (handToCancel l v s).pending = s.pending := by
  simp only [handToCancel]; and_intros <;> (repeat' split) <;> simp

@[simp] theorem handToPockets_frame (l : Letter) (r : Route) (s : State) :
    (handToPockets l r s).inReset = s.inReset ∧ (handToPockets l r s).inputs = s.inputs ∧
    (handToPockets l r s).lch = s.lch ∧ (handToPockets l r s).scan = s.scan ∧ (handToPockets l r s).held = s.held ∧
    (handToPockets l r s).cnu = s.cnu ∧ (handToPockets l r s).prl = s.prl ∧
    (handToPockets l r s).pending = s.pending := by
  simp only [handToPockets]; and_intros <;> (repeat' split) <;> simp

@[simp] theorem writeVerdict_frame (l : Letter) (v : Verdict) (s : State) :
    (writeVerdict l v s).inReset = s.inReset ∧ (writeVerdict l v s).inputs = s.inputs ∧
    (writeVerdict l v s).lch = s.lch ∧ (writeVerdict l v s).scan = s.scan ∧ (writeVerdict l v s).prl = s.prl ∧
    (writeVerdict l v s).pending = s.pending := by
  simp only [writeVerdict]; and_intros <;> (repeat' split) <;> simp

@[simp] theorem judgeLetter_frame (l : Letter) (s : State) :
    (judgeLetter l s).inReset = s.inReset ∧ (judgeLetter l s).inputs = s.inputs ∧ (judgeLetter l s).lch = s.lch ∧
    (judgeLetter l s).scan = s.scan ∧ (judgeLetter l s).prl = s.prl ∧ (judgeLetter l s).pending = s.pending := by
  simp only [judgeLetter]; and_intros <;> simp

@[simp] theorem evaluate_frame (id : LetterId) (s : State) :
    (evaluate id s).inReset = s.inReset ∧ (evaluate id s).inputs = s.inputs ∧ (evaluate id s).lch = s.lch ∧
    (evaluate id s).scan = s.scan ∧ (evaluate id s).prl = s.prl ∧ (evaluate id s).pending = s.pending := by
  simp only [evaluate]; and_intros <;> (repeat' split) <;> simp

@[simp] theorem endHold_frame (close : Bool) (s : State) :
    (endHold close s).inReset = s.inReset ∧ (endHold close s).inputs = s.inputs ∧ (endHold close s).lch = s.lch ∧
    (endHold close s).scan = s.scan ∧ (endHold close s).prl = s.prl ∧ (endHold close s).pending = s.pending := by
  simp only [endHold]; and_intros <;> (repeat' split) <;> simp

@[simp] theorem reachPairPoint_frame (s : State) :
    (reachPairPoint s).inReset = s.inReset ∧ (reachPairPoint s).inputs = s.inputs ∧
    (reachPairPoint s).lch = s.lch ∧ (reachPairPoint s).scan = s.scan ∧ (reachPairPoint s).prl = s.prl ∧
    (reachPairPoint s).pending = s.pending := by
  simp only [reachPairPoint]; and_intros <;> (repeat' split) <;> simp

@[simp] theorem reachVerdictLimit_frame (s : State) :
    (reachVerdictLimit s).inReset = s.inReset ∧ (reachVerdictLimit s).inputs = s.inputs ∧
    (reachVerdictLimit s).lch = s.lch ∧ (reachVerdictLimit s).scan = s.scan ∧ (reachVerdictLimit s).prl = s.prl ∧
    (reachVerdictLimit s).pending = s.pending := by
  simp only [reachVerdictLimit]; and_intros <;> (repeat' split) <;> simp

@[simp] theorem closeChannel_frame (c : Chan) (x : ScanContext) (s : State) :
    (closeChannel c x s).inReset = s.inReset ∧ (closeChannel c x s).inputs = s.inputs ∧
    (closeChannel c x s).trk = s.trk ∧ (closeChannel c x s).scan = s.scan ∧ (closeChannel c x s).held = s.held ∧
    (closeChannel c x s).cnu = s.cnu ∧ (closeChannel c x s).pkm = s.pkm ∧ (closeChannel c x s).lnc = s.lnc ∧
    (closeChannel c x s).lki = s.lki ∧ (closeChannel c x s).prl = s.prl ∧ (closeChannel c x s).pending = s.pending := by
  simp only [closeChannel]; and_intros <;> simp

@[simp] theorem completeScan_frame (id : LetterId) (s : State) :
    (completeScan id s).inReset = s.inReset ∧ (completeScan id s).inputs = s.inputs ∧
    (completeScan id s).prl = s.prl ∧ (completeScan id s).pending = s.pending := by
  simp only [completeScan]; and_intros <;> (repeat' split) <;> simp

@[simp] theorem endCalibration_frame (k : Calibration) (s : State) :
    (endCalibration k s).inReset = s.inReset ∧ (endCalibration k s).inputs = s.inputs ∧
    (endCalibration k s).trk = s.trk ∧ (endCalibration k s).scan = s.scan ∧ (endCalibration k s).held = s.held ∧
    (endCalibration k s).cnu = s.cnu ∧ (endCalibration k s).pkm = s.pkm ∧ (endCalibration k s).lnc = s.lnc ∧
    (endCalibration k s).prl = s.prl ∧ (endCalibration k s).pending = s.pending := by
  unfold endCalibration; and_intros <;> simp

@[simp] theorem abandonCalibration_frame (s : State) :
    (abandonCalibration s).inReset = s.inReset ∧ (abandonCalibration s).inputs = s.inputs ∧
    (abandonCalibration s).trk = s.trk ∧ (abandonCalibration s).scan = s.scan ∧
    (abandonCalibration s).held = s.held ∧ (abandonCalibration s).cnu = s.cnu ∧
    (abandonCalibration s).pkm = s.pkm ∧ (abandonCalibration s).lnc = s.lnc ∧ (abandonCalibration s).prl = s.prl ∧
    (abandonCalibration s).pending = s.pending := by
  unfold abandonCalibration; and_intros <;> (repeat' split) <;> simp

@[simp] theorem calibrationFlash_frame (s : State) :
    (calibrationFlash s).inReset = s.inReset ∧ (calibrationFlash s).inputs = s.inputs ∧
    (calibrationFlash s).trk = s.trk ∧ (calibrationFlash s).scan = s.scan ∧ (calibrationFlash s).held = s.held ∧
    (calibrationFlash s).cnu = s.cnu ∧ (calibrationFlash s).pkm = s.pkm ∧ (calibrationFlash s).lnc = s.lnc ∧
    (calibrationFlash s).lki = s.lki ∧ (calibrationFlash s).prl = s.prl ∧ (calibrationFlash s).pending = s.pending := by
  simp only [calibrationFlash]; and_intros <;> (repeat' split) <;> simp

@[simp] theorem endDark_frame (k : Calibration) (s : State) :
    (endDark k s).inReset = s.inReset ∧ (endDark k s).inputs = s.inputs ∧ (endDark k s).trk = s.trk ∧
    (endDark k s).scan = s.scan ∧ (endDark k s).held = s.held ∧ (endDark k s).cnu = s.cnu ∧
    (endDark k s).pkm = s.pkm ∧ (endDark k s).lnc = s.lnc ∧ (endDark k s).lki = s.lki ∧ (endDark k s).prl = s.prl ∧
    (endDark k s).pending = s.pending := by and_intros <;> rfl

@[simp] theorem endReference_frame (k : Calibration) (s : State) :
    (endReference k s).inReset = s.inReset ∧ (endReference k s).inputs = s.inputs ∧
    (endReference k s).trk = s.trk ∧ (endReference k s).scan = s.scan ∧ (endReference k s).held = s.held ∧
    (endReference k s).cnu = s.cnu ∧ (endReference k s).pkm = s.pkm ∧ (endReference k s).lnc = s.lnc ∧
    (endReference k s).pending = s.pending := by
  simp only [endReference]; and_intros <;> (repeat' split) <;> simp

@[simp] theorem endPhase_frame (s : State) :
    (endPhase s).inReset = s.inReset ∧ (endPhase s).inputs = s.inputs ∧ (endPhase s).trk = s.trk ∧
    (endPhase s).scan = s.scan ∧ (endPhase s).held = s.held ∧ (endPhase s).cnu = s.cnu ∧ (endPhase s).pkm = s.pkm ∧
    (endPhase s).lnc = s.lnc ∧ (endPhase s).pending = s.pending := by
  simp only [endPhase]; and_intros <;> (repeat' split) <;> simp

@[simp] theorem calibrationReturn_frame (k : Calibration) (f : Face) (upper lower : SamplePair) (s : State) :
    (calibrationReturn k f upper lower s).inReset = s.inReset ∧
    (calibrationReturn k f upper lower s).inputs = s.inputs ∧ (calibrationReturn k f upper lower s).trk = s.trk ∧
    (calibrationReturn k f upper lower s).scan = s.scan ∧ (calibrationReturn k f upper lower s).held = s.held ∧
    (calibrationReturn k f upper lower s).cnu = s.cnu ∧ (calibrationReturn k f upper lower s).pkm = s.pkm ∧
    (calibrationReturn k f upper lower s).lnc = s.lnc ∧ (calibrationReturn k f upper lower s).pending = s.pending := by
  simp only [calibrationReturn]; and_intros <;> (repeat' split) <;> simp

@[simp] theorem calibrationTimeout_frame (k : Calibration) (f : Face) (s : State) :
    (calibrationTimeout k f s).inReset = s.inReset ∧ (calibrationTimeout k f s).inputs = s.inputs ∧
    (calibrationTimeout k f s).trk = s.trk ∧ (calibrationTimeout k f s).scan = s.scan ∧
    (calibrationTimeout k f s).held = s.held ∧ (calibrationTimeout k f s).cnu = s.cnu ∧
    (calibrationTimeout k f s).pkm = s.pkm ∧ (calibrationTimeout k f s).lnc = s.lnc ∧
    (calibrationTimeout k f s).pending = s.pending := by
  simp only [calibrationTimeout]; first | simp; done | (and_intros <;> (repeat' split) <;> simp)

@[simp] theorem endSettle_frame (s : State) :
    (endSettle s).inReset = s.inReset ∧ (endSettle s).inputs = s.inputs ∧ (endSettle s).trk = s.trk ∧
    (endSettle s).scan = s.scan ∧ (endSettle s).held = s.held ∧ (endSettle s).cnu = s.cnu ∧
    (endSettle s).pkm = s.pkm ∧ (endSettle s).lnc = s.lnc ∧ (endSettle s).lki = s.lki ∧ (endSettle s).prl = s.prl ∧
    (endSettle s).pending = s.pending := by
  simp only [endSettle]; and_intros <;> (repeat' split) <;> simp

@[simp] theorem enterLine_frame (t : LineState) (s : State) :
    (enterLine t s).inReset = s.inReset ∧ (enterLine t s).inputs = s.inputs ∧ (enterLine t s).trk = s.trk ∧
    (enterLine t s).lch = s.lch ∧ (enterLine t s).scan = s.scan ∧ (enterLine t s).held = s.held ∧
    (enterLine t s).cnu = s.cnu ∧ (enterLine t s).pkm = s.pkm ∧ (enterLine t s).prl = s.prl ∧
    (enterLine t s).pending = s.pending := by
  unfold enterLine; and_intros <;> simp

@[simp] theorem loseRecord_frame (l : Letter) (s : State) :
    (loseRecord s l).inReset = s.inReset ∧ (loseRecord s l).inputs = s.inputs ∧ (loseRecord s l).lch = s.lch ∧
    (loseRecord s l).scan = s.scan ∧ (loseRecord s l).held = s.held ∧ (loseRecord s l).cnu = s.cnu ∧
    (loseRecord s l).prl = s.prl ∧ (loseRecord s l).pending = s.pending := by
  simp only [loseRecord]; and_intros <;> simp

@[simp] theorem loseAllRecords_frame (s : State) :
    (loseAllRecords s).inReset = s.inReset ∧ (loseAllRecords s).inputs = s.inputs ∧
    (loseAllRecords s).lch = s.lch ∧ (loseAllRecords s).scan = s.scan ∧ (loseAllRecords s).held = s.held ∧
    (loseAllRecords s).cnu = s.cnu ∧ (loseAllRecords s).prl = s.prl ∧ (loseAllRecords s).pending = s.pending := by
  unfold loseAllRecords; simp only [clearMeasuring_frame, restGates_frame]; and_intros <;> (apply foldl_keeps; intros; simp)

@[simp] theorem settleFaulted_frame (s : State) :
    (settleFaulted s).inReset = s.inReset ∧ (settleFaulted s).inputs = s.inputs ∧ (settleFaulted s).trk = s.trk ∧
    (settleFaulted s).scan = s.scan ∧ (settleFaulted s).held = s.held ∧ (settleFaulted s).pkm = s.pkm ∧
    (settleFaulted s).prl = s.prl ∧ (settleFaulted s).pending = s.pending := by
  unfold settleFaulted; and_intros <;> simp

@[simp] theorem enterFaulted_frame (cause : LineCause) (s : State) :
    (enterFaulted cause s).inReset = s.inReset ∧ (enterFaulted cause s).inputs = s.inputs ∧
    (enterFaulted cause s).prl = s.prl ∧ (enterFaulted cause s).pending = s.pending := by
  simp only [enterFaulted]; and_intros <;> (repeat' split) <;> simp

@[simp] theorem jam_frame (kind : JamKind) (eye : Eye) (letter : Option LetterId) (s : State) :
    (jam kind eye letter s).inReset = s.inReset ∧ (jam kind eye letter s).inputs = s.inputs ∧
    (jam kind eye letter s).prl = s.prl ∧ (jam kind eye letter s).pending = s.pending := by
  simp only [jam]; and_intros <;> simp

@[simp] theorem enterRunning_frame (s : State) :
    (enterRunning s).inReset = s.inReset ∧ (enterRunning s).inputs = s.inputs ∧ (enterRunning s).lch = s.lch ∧
    (enterRunning s).scan = s.scan ∧ (enterRunning s).held = s.held ∧ (enterRunning s).cnu = s.cnu ∧
    (enterRunning s).pkm = s.pkm ∧ (enterRunning s).prl = s.prl ∧ (enterRunning s).pending = s.pending := by
  simp only [enterRunning]; and_intros <;> simp

@[simp] theorem checkStart_frame (s : State) :
    (checkStart s).inReset = s.inReset ∧ (checkStart s).inputs = s.inputs ∧ (checkStart s).lch = s.lch ∧
    (checkStart s).scan = s.scan ∧ (checkStart s).held = s.held ∧ (checkStart s).cnu = s.cnu ∧
    (checkStart s).pkm = s.pkm ∧ (checkStart s).prl = s.prl ∧ (checkStart s).pending = s.pending := by
  simp only [checkStart]; and_intros <;> (repeat' split) <;> simp

@[simp] theorem startTimeout_frame (s : State) :
    (startTimeout s).inReset = s.inReset ∧ (startTimeout s).inputs = s.inputs ∧ (startTimeout s).prl = s.prl ∧
    (startTimeout s).pending = s.pending := by
  simp only [startTimeout]; and_intros <;> (repeat' split) <;> simp

@[simp] theorem enterStopped_frame (s : State) :
    (enterStopped s).inReset = s.inReset ∧ (enterStopped s).inputs = s.inputs ∧ (enterStopped s).trk = s.trk ∧
    (enterStopped s).cnu = s.cnu ∧ (enterStopped s).pkm = s.pkm ∧ (enterStopped s).prl = s.prl ∧
    (enterStopped s).pending = s.pending := by
  simp only [enterStopped]; and_intros <;> simp

@[simp] theorem endDrain_frame (ms : Nat) (s : State) :
    (endDrain ms s).inReset = s.inReset ∧ (endDrain ms s).inputs = s.inputs ∧ (endDrain ms s).trk = s.trk ∧
    (endDrain ms s).cnu = s.cnu ∧ (endDrain ms s).pkm = s.pkm ∧ (endDrain ms s).prl = s.prl ∧
    (endDrain ms s).pending = s.pending := by
  simp only [endDrain]; first | simp; done | (and_intros <;> (repeat' split) <;> simp)

@[simp] theorem checkDrain_frame (s : State) :
    (checkDrain s).inReset = s.inReset ∧ (checkDrain s).inputs = s.inputs ∧ (checkDrain s).trk = s.trk ∧
    (checkDrain s).cnu = s.cnu ∧ (checkDrain s).pkm = s.pkm ∧ (checkDrain s).prl = s.prl ∧
    (checkDrain s).pending = s.pending := by
  simp only [checkDrain]; and_intros <;> (repeat' split) <;> simp

@[simp] theorem resumeDrain_frame (s : State) :
    (resumeDrain s).inReset = s.inReset ∧ (resumeDrain s).inputs = s.inputs ∧ (resumeDrain s).trk = s.trk ∧
    (resumeDrain s).lch = s.lch ∧ (resumeDrain s).scan = s.scan ∧ (resumeDrain s).held = s.held ∧
    (resumeDrain s).cnu = s.cnu ∧ (resumeDrain s).pkm = s.pkm ∧ (resumeDrain s).lki = s.lki ∧
    (resumeDrain s).prl = s.prl ∧ (resumeDrain s).pending = s.pending := by
  simp only [resumeDrain]; and_intros <;> (repeat' split) <;> simp

@[simp] theorem enterStopping_frame (s : State) :
    (enterStopping s).inReset = s.inReset ∧ (enterStopping s).inputs = s.inputs ∧ (enterStopping s).trk = s.trk ∧
    (enterStopping s).cnu = s.cnu ∧ (enterStopping s).pkm = s.pkm ∧ (enterStopping s).prl = s.prl ∧
    (enterStopping s).pending = s.pending := by
  simp only [enterStopping]; and_intros <;> simp

@[simp] theorem drainTimeout_frame (s : State) :
    (drainTimeout s).inReset = s.inReset ∧ (drainTimeout s).inputs = s.inputs ∧ (drainTimeout s).prl = s.prl ∧
    (drainTimeout s).pending = s.pending := by
  simp only [drainTimeout]; first | simp; done | (and_intros <;> (repeat' split) <;> simp)

@[simp] theorem stopFail_frame (s : State) :
    (stopFail s).inReset = s.inReset ∧ (stopFail s).inputs = s.inputs ∧ (stopFail s).prl = s.prl ∧
    (stopFail s).pending = s.pending := by
  simp only [stopFail]; and_intros <;> (repeat' split) <;> simp

@[simp] theorem beltStill_frame (s : State) :
    (beltStill s).inReset = s.inReset ∧ (beltStill s).inputs = s.inputs ∧ (beltStill s).pkm = s.pkm ∧
    (beltStill s).prl = s.prl ∧ (beltStill s).pending = s.pending := by
  simp only [beltStill]; and_intros <;> (repeat' split) <;> simp

@[simp] theorem superviseSpeed_frame (s : State) :
    (superviseSpeed s).inReset = s.inReset ∧ (superviseSpeed s).inputs = s.inputs ∧
    (superviseSpeed s).prl = s.prl ∧ (superviseSpeed s).pending = s.pending := by
  simp only [superviseSpeed]; first | simp; done | (and_intros <;> (repeat' split) <;> simp)

@[simp] theorem endWindow_frame (s : State) :
    (endWindow s).inReset = s.inReset ∧ (endWindow s).inputs = s.inputs ∧ (endWindow s).prl = s.prl ∧
    (endWindow s).pending = s.pending := by
  simp only [endWindow]; and_intros <;> simp

@[simp] theorem startWake_frame (s : State) :
    (startWake s).inReset = s.inReset ∧ (startWake s).inputs = s.inputs ∧ (startWake s).trk = s.trk ∧
    (startWake s).lch = s.lch ∧ (startWake s).scan = s.scan ∧ (startWake s).held = s.held ∧
    (startWake s).cnu = s.cnu ∧ (startWake s).pkm = s.pkm ∧ (startWake s).lki = s.lki ∧ (startWake s).prl = s.prl ∧
    (startWake s).pending = s.pending := by
  simp only [startWake]; first | simp; done | (and_intros <;> (repeat' split) <;> simp)

@[simp] theorem stopWake_frame (s : State) :
    (stopWake s).inReset = s.inReset ∧ (stopWake s).inputs = s.inputs ∧ (stopWake s).trk = s.trk ∧
    (stopWake s).lch = s.lch ∧ (stopWake s).scan = s.scan ∧ (stopWake s).held = s.held ∧ (stopWake s).cnu = s.cnu ∧
    (stopWake s).pkm = s.pkm ∧ (stopWake s).lki = s.lki ∧ (stopWake s).prl = s.prl ∧
    (stopWake s).pending = s.pending := by
  simp only [stopWake]; and_intros <;> simp

@[simp] theorem completeWake_frame (s : State) :
    (completeWake s).inReset = s.inReset ∧ (completeWake s).inputs = s.inputs ∧ (completeWake s).trk = s.trk ∧
    (completeWake s).lch = s.lch ∧ (completeWake s).scan = s.scan ∧ (completeWake s).held = s.held ∧
    (completeWake s).cnu = s.cnu ∧ (completeWake s).pkm = s.pkm ∧ (completeWake s).prl = s.prl ∧
    (completeWake s).pending = s.pending := by
  simp only [completeWake]; and_intros <;> (repeat' split) <;> simp

@[simp] theorem overrun_frame (f : Face) (s : State) :
    (overrun f s).inReset = s.inReset ∧ (overrun f s).inputs = s.inputs ∧ (overrun f s).trk = s.trk ∧
    (overrun f s).held = s.held ∧ (overrun f s).cnu = s.cnu ∧ (overrun f s).pkm = s.pkm ∧
    (overrun f s).lnc = s.lnc ∧ (overrun f s).prl = s.prl ∧ (overrun f s).pending = s.pending := by
  simp only [overrun]; and_intros <;> (repeat' split) <;> simp

@[simp] theorem settleStep_frame (c : Chan) (s : State) :
    (settleStep c s).inReset = s.inReset ∧ (settleStep c s).inputs = s.inputs ∧ (settleStep c s).trk = s.trk ∧
    (settleStep c s).held = s.held ∧ (settleStep c s).cnu = s.cnu ∧ (settleStep c s).pkm = s.pkm ∧
    (settleStep c s).lnc = s.lnc ∧ (settleStep c s).lki = s.lki ∧ (settleStep c s).prl = s.prl ∧
    (settleStep c s).pending = s.pending := by
  simp only [settleStep]; and_intros <;> (repeat' split) <;> simp

@[simp] theorem blindIfFault_frame (pos : Pos) (c : Chan) (s : State) :
    (blindIfFault pos c s).inReset = s.inReset ∧ (blindIfFault pos c s).inputs = s.inputs ∧
    (blindIfFault pos c s).trk = s.trk ∧ (blindIfFault pos c s).lch = s.lch ∧
    (blindIfFault pos c s).held = s.held ∧ (blindIfFault pos c s).cnu = s.cnu ∧
    (blindIfFault pos c s).pkm = s.pkm ∧ (blindIfFault pos c s).lnc = s.lnc ∧ (blindIfFault pos c s).lki = s.lki ∧
    (blindIfFault pos c s).prl = s.prl ∧ (blindIfFault pos c s).pending = s.pending := by
  simp only [blindIfFault]; and_intros <;> (repeat' split) <;> simp

@[simp] theorem beginStep_frame (pos : Pos) (s : State) :
    (beginStep pos s).inReset = s.inReset ∧ (beginStep pos s).inputs = s.inputs ∧ (beginStep pos s).trk = s.trk ∧
    (beginStep pos s).lch = s.lch ∧ (beginStep pos s).held = s.held ∧ (beginStep pos s).cnu = s.cnu ∧
    (beginStep pos s).pkm = s.pkm ∧ (beginStep pos s).lnc = s.lnc ∧ (beginStep pos s).lki = s.lki ∧
    (beginStep pos s).prl = s.prl ∧ (beginStep pos s).pending = s.pending := by
  simp only [beginStep]; and_intros <;> (repeat' split) <;> simp

@[simp] theorem makeFlash_frame (pos : Pos) (s : State) :
    (makeFlash pos s).inReset = s.inReset ∧ (makeFlash pos s).inputs = s.inputs ∧ (makeFlash pos s).prl = s.prl ∧
    (makeFlash pos s).pending = s.pending := by
  simp only [makeFlash, beginStep_frame]; and_intros <;> (refine (foldl_keeps _ _ _ (by intros; simp) _).trans ?_) <;> simp

@[simp] theorem letterSample_frame (c : Chan) (l : Letter) (pos : Pos) (x : SamplePair) (s : State) :
    (letterSample c l pos x s).inReset = s.inReset ∧ (letterSample c l pos x s).inputs = s.inputs ∧
    (letterSample c l pos x s).trk = s.trk ∧ (letterSample c l pos x s).held = s.held ∧
    (letterSample c l pos x s).cnu = s.cnu ∧ (letterSample c l pos x s).pkm = s.pkm ∧
    (letterSample c l pos x s).lnc = s.lnc ∧ (letterSample c l pos x s).lki = s.lki ∧
    (letterSample c l pos x s).prl = s.prl ∧ (letterSample c l pos x s).pending = s.pending := by
  simp only [letterSample]; first | simp; done | (and_intros <;> (repeat' split) <;> simp)

@[simp] theorem takeSample_frame (c : Chan) (pos : Pos) (x : SamplePair) (s : State) :
    (takeSample c pos x s).inReset = s.inReset ∧ (takeSample c pos x s).inputs = s.inputs ∧
    (takeSample c pos x s).held = s.held ∧ (takeSample c pos x s).cnu = s.cnu ∧
    (takeSample c pos x s).pkm = s.pkm ∧ (takeSample c pos x s).prl = s.prl ∧
    (takeSample c pos x s).pending = s.pending := by
  simp only [takeSample]; first | simp; done | (and_intros <;> (repeat' split) <;> simp)

@[simp] theorem travelReturn_frame (f : Face) (upper lower : SamplePair) (s : State) :
    (travelReturn f upper lower s).inReset = s.inReset ∧ (travelReturn f upper lower s).inputs = s.inputs ∧
    (travelReturn f upper lower s).held = s.held ∧ (travelReturn f upper lower s).cnu = s.cnu ∧
    (travelReturn f upper lower s).pkm = s.pkm ∧ (travelReturn f upper lower s).prl = s.prl ∧
    (travelReturn f upper lower s).pending = s.pending := by
  simp only [travelReturn]; and_intros <;> (repeat' split) <;> simp

@[simp] theorem sampleReturn_frame (f : Face) (upper lower : SamplePair) (s : State) :
    (sampleReturn f upper lower s).inReset = s.inReset ∧ (sampleReturn f upper lower s).inputs = s.inputs ∧
    (sampleReturn f upper lower s).held = s.held ∧ (sampleReturn f upper lower s).cnu = s.cnu ∧
    (sampleReturn f upper lower s).pkm = s.pkm ∧ (sampleReturn f upper lower s).pending = s.pending := by
  simp only [sampleReturn]; and_intros <;> (repeat' split) <;> simp

@[simp] theorem sampleTimeout_frame (f : Face) (s : State) :
    (sampleTimeout f s).inReset = s.inReset ∧ (sampleTimeout f s).inputs = s.inputs ∧
    (sampleTimeout f s).trk = s.trk ∧ (sampleTimeout f s).held = s.held ∧ (sampleTimeout f s).cnu = s.cnu ∧
    (sampleTimeout f s).pkm = s.pkm ∧ (sampleTimeout f s).lnc = s.lnc ∧ (sampleTimeout f s).pending = s.pending := by
  simp only [sampleTimeout]; and_intros <;> (repeat' split) <;> simp

@[simp] theorem retire_frame (l : Letter) (d : Disposition) (s : State) :
    (retire l d s).inReset = s.inReset ∧ (retire l d s).inputs = s.inputs ∧ (retire l d s).cnu = s.cnu ∧
    (retire l d s).prl = s.prl ∧ (retire l d s).pending = s.pending := by
  simp only [retire]; and_intros <;> simp

@[simp] theorem induct_frame (s : State) :
    (induct s).inReset = s.inReset ∧ (induct s).inputs = s.inputs ∧ (induct s).lch = s.lch ∧
    (induct s).scan = s.scan ∧ (induct s).prl = s.prl ∧ (induct s).pending = s.pending := by
  simp only [induct]; and_intros <;> simp

@[simp] theorem e0LeadingEdge_frame (s : State) :
    (e0LeadingEdge s).inReset = s.inReset ∧ (e0LeadingEdge s).inputs = s.inputs ∧ (e0LeadingEdge s).prl = s.prl ∧
    (e0LeadingEdge s).pending = s.pending := by
  simp only [e0LeadingEdge]; and_intros <;> (repeat' split) <;> simp

@[simp] theorem markLong_frame (id : LetterId) (s : State) :
    (markLong id s).inReset = s.inReset ∧ (markLong id s).inputs = s.inputs ∧ (markLong id s).prl = s.prl ∧
    (markLong id s).pending = s.pending := by
  simp only [markLong]; and_intros <;> simp

@[simp] theorem reachLongPoint_frame (s : State) :
    (reachLongPoint s).inReset = s.inReset ∧ (reachLongPoint s).inputs = s.inputs ∧
    (reachLongPoint s).prl = s.prl ∧ (reachLongPoint s).pending = s.pending := by
  simp only [reachLongPoint]; and_intros <;> (repeat' split) <;> simp

@[simp] theorem setLength_frame (id : LetterId) (s : State) :
    (setLength id s).inReset = s.inReset ∧ (setLength id s).inputs = s.inputs ∧ (setLength id s).lch = s.lch ∧
    (setLength id s).scan = s.scan ∧ (setLength id s).held = s.held ∧ (setLength id s).cnu = s.cnu ∧
    (setLength id s).pkm = s.pkm ∧ (setLength id s).lnc = s.lnc ∧ (setLength id s).lki = s.lki ∧
    (setLength id s).prl = s.prl ∧ (setLength id s).pending = s.pending := by
  simp only [setLength]; and_intros <;> simp

@[simp] theorem completeIfPassed_frame (id : LetterId) (s : State) :
    (completeIfPassed id s).inReset = s.inReset ∧ (completeIfPassed id s).inputs = s.inputs ∧
    (completeIfPassed id s).prl = s.prl ∧ (completeIfPassed id s).pending = s.pending := by
  simp only [completeIfPassed]; and_intros <;> (repeat' split) <;> simp

@[simp] theorem measureLetter_frame (l : Letter) (s : State) :
    (measureLetter l s).inReset = s.inReset ∧ (measureLetter l s).inputs = s.inputs ∧
    (measureLetter l s).prl = s.prl ∧ (measureLetter l s).pending = s.pending := by
  simp only [measureLetter]; first | simp; done | (and_intros <;> (repeat' split) <;> simp)

@[simp] theorem e0TrailingEdge_frame (s : State) :
    (e0TrailingEdge s).inReset = s.inReset ∧ (e0TrailingEdge s).inputs = s.inputs ∧
    (e0TrailingEdge s).prl = s.prl ∧ (e0TrailingEdge s).pending = s.pending := by
  simp only [e0TrailingEdge]; and_intros <;> (repeat' split) <;> simp

@[simp] theorem reachBlockedPoint_frame (s : State) :
    (reachBlockedPoint s).inReset = s.inReset ∧ (reachBlockedPoint s).inputs = s.inputs ∧
    (reachBlockedPoint s).prl = s.prl ∧ (reachBlockedPoint s).pending = s.pending := by
  simp only [reachBlockedPoint]; and_intros <;> (repeat' split) <;> simp

@[simp] theorem resynchronise_frame (l : Letter) (s : State) :
    (resynchronise l s).inReset = s.inReset ∧ (resynchronise l s).inputs = s.inputs ∧
    (resynchronise l s).lch = s.lch ∧ (resynchronise l s).scan = s.scan ∧ (resynchronise l s).held = s.held ∧
    (resynchronise l s).pkm = s.pkm ∧ (resynchronise l s).lnc = s.lnc ∧ (resynchronise l s).lki = s.lki ∧
    (resynchronise l s).prl = s.prl ∧ (resynchronise l s).pending = s.pending := by
  simp only [resynchronise]; and_intros <;> simp

@[simp] theorem arrive_frame (l : Letter) (e : Eye) (s : State) :
    (arrive l e s).inReset = s.inReset ∧ (arrive l e s).inputs = s.inputs ∧ (arrive l e s).prl = s.prl ∧
    (arrive l e s).pending = s.pending := by
  simp only [arrive]; and_intros <;> (repeat' split) <;> simp

@[simp] theorem expire_frame (l : Letter) (e : Eye) (s : State) :
    (expire l e s).inReset = s.inReset ∧ (expire l e s).inputs = s.inputs ∧ (expire l e s).prl = s.prl ∧
    (expire l e s).pending = s.pending := by
  simp only [expire]; first | simp; done | (and_intros <;> (repeat' split) <;> simp)

@[simp] theorem reachExpiry_frame (id : LetterId) (e : Eye) (s : State) :
    (reachExpiry id e s).inReset = s.inReset ∧ (reachExpiry id e s).inputs = s.inputs ∧
    (reachExpiry id e s).prl = s.prl ∧ (reachExpiry id e s).pending = s.pending := by
  simp only [reachExpiry]; first | simp; done | (and_intros <;> (repeat' split) <;> simp)

@[simp] theorem expireWaiting_frame (n : Nat) (e : Eye) (s : State) :
    (expireWaiting n e s).inReset = s.inReset ∧ (expireWaiting n e s).inputs = s.inputs ∧
    (expireWaiting n e s).prl = s.prl ∧ (expireWaiting n e s).pending = s.pending := by
  induction n generalizing s with
  | zero => simp [expireWaiting]
  | succ n ih => unfold expireWaiting; and_intros <;> (repeat' split) <;> simp [ih]

@[simp] theorem eyeLeadingEdge_frame (e : Eye) (s : State) :
    (eyeLeadingEdge e s).inReset = s.inReset ∧ (eyeLeadingEdge e s).inputs = s.inputs ∧
    (eyeLeadingEdge e s).prl = s.prl ∧ (eyeLeadingEdge e s).pending = s.pending := by
  simp only [eyeLeadingEdge]; first | simp; done | (and_intros <;> (repeat' split) <;> simp)

@[simp] theorem reachSetupPoint_frame (id : LetterId) (g : GateId) (s : State) :
    (reachSetupPoint id g s).inReset = s.inReset ∧ (reachSetupPoint id g s).inputs = s.inputs ∧
    (reachSetupPoint id g s).lch = s.lch ∧ (reachSetupPoint id g s).scan = s.scan ∧
    (reachSetupPoint id g s).held = s.held ∧ (reachSetupPoint id g s).cnu = s.cnu ∧
    (reachSetupPoint id g s).pkm = s.pkm ∧ (reachSetupPoint id g s).lnc = s.lnc ∧
    (reachSetupPoint id g s).lki = s.lki ∧ (reachSetupPoint id g s).prl = s.prl ∧
    (reachSetupPoint id g s).pending = s.pending := by
  simp only [reachSetupPoint]; and_intros <;> (repeat' split) <;> simp

@[simp] theorem decidePocket_frame (l : Letter) (s : State) :
    (decidePocket l s).inReset = s.inReset ∧ (decidePocket l s).inputs = s.inputs ∧
    (decidePocket l s).lch = s.lch ∧ (decidePocket l s).scan = s.scan ∧ (decidePocket l s).held = s.held ∧
    (decidePocket l s).cnu = s.cnu ∧ (decidePocket l s).prl = s.prl ∧ (decidePocket l s).pending = s.pending := by
  simp only [decidePocket]; and_intros <;> (repeat' split) <;> simp

@[simp] theorem settlePrint_frame (id : LetterId) (s : State) :
    (settlePrint id s).inReset = s.inReset ∧ (settlePrint id s).inputs = s.inputs ∧
    (settlePrint id s).lch = s.lch ∧ (settlePrint id s).scan = s.scan ∧ (settlePrint id s).held = s.held ∧
    (settlePrint id s).lnc = s.lnc ∧ (settlePrint id s).lki = s.lki ∧ (settlePrint id s).prl = s.prl ∧
    (settlePrint id s).pending = s.pending := by
  simp only [settlePrint]; and_intros <;> (repeat' split) <;> simp

@[simp] theorem reachDecision_frame (id : LetterId) (s : State) :
    (reachDecision id s).inReset = s.inReset ∧ (reachDecision id s).inputs = s.inputs ∧
    (reachDecision id s).lch = s.lch ∧ (reachDecision id s).scan = s.scan ∧ (reachDecision id s).held = s.held ∧
    (reachDecision id s).prl = s.prl ∧ (reachDecision id s).pending = s.pending := by
  simp only [reachDecision]; and_intros <;> (repeat' split) <;> simp

@[simp] theorem countBad_frame (s : State) :
    (countBad s).inReset = s.inReset ∧ (countBad s).inputs = s.inputs ∧ (countBad s).trk = s.trk ∧
    (countBad s).lch = s.lch ∧ (countBad s).scan = s.scan ∧ (countBad s).held = s.held ∧ (countBad s).cnu = s.cnu ∧
    (countBad s).pkm = s.pkm ∧ (countBad s).lnc = s.lnc ∧ (countBad s).prl = s.prl ∧
    (countBad s).pending = s.pending := by
  unfold countBad; and_intros <;> simp

@[simp] theorem refuseBusy_frame (f : Frame) (s : State) :
    (refuseBusy f s).inReset = s.inReset ∧ (refuseBusy f s).inputs = s.inputs ∧ (refuseBusy f s).trk = s.trk ∧
    (refuseBusy f s).lch = s.lch ∧ (refuseBusy f s).scan = s.scan ∧ (refuseBusy f s).held = s.held ∧
    (refuseBusy f s).cnu = s.cnu ∧ (refuseBusy f s).pkm = s.pkm ∧ (refuseBusy f s).lnc = s.lnc ∧
    (refuseBusy f s).prl = s.prl ∧ (refuseBusy f s).pending = s.pending := by
  simp only [refuseBusy]; and_intros <;> (repeat' split) <;> simp

@[simp] theorem goodFrame_frame (f : Frame) (s : State) :
    (goodFrame f s).inReset = s.inReset ∧ (goodFrame f s).inputs = s.inputs ∧ (goodFrame f s).trk = s.trk ∧
    (goodFrame f s).scan = s.scan ∧ (goodFrame f s).held = s.held ∧ (goodFrame f s).cnu = s.cnu ∧
    (goodFrame f s).pkm = s.pkm ∧ (goodFrame f s).lnc = s.lnc ∧ (goodFrame f s).prl = s.prl ∧
    (goodFrame f s).pending = s.pending := by
  simp only [goodFrame]; and_intros <;> (repeat' split) <;> simp

@[simp] theorem receiveByte_frame (x : Byte) (s : State) :
    (receiveByte s x).inReset = s.inReset ∧ (receiveByte s x).inputs = s.inputs ∧ (receiveByte s x).trk = s.trk ∧
    (receiveByte s x).scan = s.scan ∧ (receiveByte s x).held = s.held ∧ (receiveByte s x).cnu = s.cnu ∧
    (receiveByte s x).pkm = s.pkm ∧ (receiveByte s x).lnc = s.lnc ∧ (receiveByte s x).prl = s.prl ∧
    (receiveByte s x).pending = s.pending := by
  simp only [receiveByte]; split <;> simp

@[simp] theorem framingError_frame (s : State) :
    (framingError s).inReset = s.inReset ∧ (framingError s).inputs = s.inputs ∧ (framingError s).trk = s.trk ∧
    (framingError s).lch = s.lch ∧ (framingError s).scan = s.scan ∧ (framingError s).held = s.held ∧
    (framingError s).cnu = s.cnu ∧ (framingError s).pkm = s.pkm ∧ (framingError s).lnc = s.lnc ∧
    (framingError s).prl = s.prl ∧ (framingError s).pending = s.pending := by
  simp only [framingError]; and_intros <;> (repeat' split) <;> simp

@[simp] theorem receiveChar_frame (s : State) (c : Option Byte) :
    (receiveChar s c).inReset = s.inReset ∧ (receiveChar s c).inputs = s.inputs ∧ (receiveChar s c).trk = s.trk ∧
    (receiveChar s c).scan = s.scan ∧ (receiveChar s c).held = s.held ∧ (receiveChar s c).cnu = s.cnu ∧
    (receiveChar s c).pkm = s.pkm ∧ (receiveChar s c).lnc = s.lnc ∧ (receiveChar s c).prl = s.prl ∧
    (receiveChar s c).pending = s.pending := by
  cases c <;> simp [receiveChar]

@[simp] theorem receive_frame (cs : List (Option Byte)) (s : State) :
    (receive cs s).inReset = s.inReset ∧ (receive cs s).inputs = s.inputs ∧ (receive cs s).trk = s.trk ∧
    (receive cs s).scan = s.scan ∧ (receive cs s).held = s.held ∧ (receive cs s).cnu = s.cnu ∧
    (receive cs s).pkm = s.pkm ∧ (receive cs s).lnc = s.lnc ∧ (receive cs s).prl = s.prl ∧
    (receive cs s).pending = s.pending := by
  unfold receive; and_intros <;> (apply foldl_keeps; intros; simp)

@[simp] theorem endSending_frame (s : State) :
    (endSending s).inReset = s.inReset ∧ (endSending s).inputs = s.inputs ∧ (endSending s).trk = s.trk ∧
    (endSending s).lch = s.lch ∧ (endSending s).scan = s.scan ∧ (endSending s).held = s.held ∧
    (endSending s).cnu = s.cnu ∧ (endSending s).pkm = s.pkm ∧ (endSending s).lnc = s.lnc ∧
    (endSending s).prl = s.prl ∧ (endSending s).pending = s.pending := by
  and_intros <;> rfl

@[simp] theorem receiveSending_frame (cs : List (Option Byte)) (s : State) :
    (receiveSending cs s).inReset = s.inReset ∧ (receiveSending cs s).inputs = s.inputs ∧
    (receiveSending cs s).trk = s.trk ∧ (receiveSending cs s).scan = s.scan ∧ (receiveSending cs s).held = s.held ∧
    (receiveSending cs s).cnu = s.cnu ∧ (receiveSending cs s).pkm = s.pkm ∧ (receiveSending cs s).lnc = s.lnc ∧
    (receiveSending cs s).prl = s.prl ∧ (receiveSending cs s).pending = s.pending := by
  simp only [receiveSending]; split <;> simp

@[simp] theorem receiveOver_frame (overlap : Nat) (cs : List (Option Byte)) (s : State) :
    (receiveOver overlap cs s).inReset = s.inReset ∧ (receiveOver overlap cs s).inputs = s.inputs ∧
    (receiveOver overlap cs s).trk = s.trk ∧ (receiveOver overlap cs s).scan = s.scan ∧
    (receiveOver overlap cs s).held = s.held ∧ (receiveOver overlap cs s).cnu = s.cnu ∧
    (receiveOver overlap cs s).pkm = s.pkm ∧ (receiveOver overlap cs s).lnc = s.lnc ∧
    (receiveOver overlap cs s).prl = s.prl ∧ (receiveOver overlap cs s).pending = s.pending := by
  simp only [receiveOver]; (repeat' split) <;> simp

@[simp] theorem interByteTimeout_frame (s : State) :
    (interByteTimeout s).inReset = s.inReset ∧ (interByteTimeout s).inputs = s.inputs ∧
    (interByteTimeout s).trk = s.trk ∧ (interByteTimeout s).lch = s.lch ∧ (interByteTimeout s).scan = s.scan ∧
    (interByteTimeout s).held = s.held ∧ (interByteTimeout s).cnu = s.cnu ∧ (interByteTimeout s).pkm = s.pkm ∧
    (interByteTimeout s).lnc = s.lnc ∧ (interByteTimeout s).prl = s.prl ∧ (interByteTimeout s).pending = s.pending := by
  simp only [interByteTimeout]; and_intros <;> (repeat' split) <;> simp

@[simp] theorem dispatchUnknown_frame (s : State) :
    (dispatchUnknown s).inReset = s.inReset ∧ (dispatchUnknown s).inputs = s.inputs ∧
    (dispatchUnknown s).trk = s.trk ∧ (dispatchUnknown s).lch = s.lch ∧ (dispatchUnknown s).scan = s.scan ∧
    (dispatchUnknown s).held = s.held ∧ (dispatchUnknown s).cnu = s.cnu ∧ (dispatchUnknown s).pkm = s.pkm ∧
    (dispatchUnknown s).lnc = s.lnc ∧ (dispatchUnknown s).prl = s.prl ∧ (dispatchUnknown s).pending = s.pending := by
  simp only [dispatchUnknown]; first | simp; done | (and_intros <;> (repeat' split) <;> simp)

@[simp] theorem sendReply_frame (s : State) :
    (sendReply s).inReset = s.inReset ∧ (sendReply s).inputs = s.inputs ∧ (sendReply s).trk = s.trk ∧
    (sendReply s).lch = s.lch ∧ (sendReply s).scan = s.scan ∧ (sendReply s).held = s.held ∧
    (sendReply s).cnu = s.cnu ∧ (sendReply s).pkm = s.pkm ∧ (sendReply s).lnc = s.lnc ∧ (sendReply s).prl = s.prl ∧
    (sendReply s).pending = s.pending := by
  simp only [sendReply]; and_intros <;> (repeat' split) <;> simp

@[simp] theorem sendNotice_frame (s : State) :
    (sendNotice s).inReset = s.inReset ∧ (sendNotice s).inputs = s.inputs ∧ (sendNotice s).trk = s.trk ∧
    (sendNotice s).lch = s.lch ∧ (sendNotice s).scan = s.scan ∧ (sendNotice s).held = s.held ∧
    (sendNotice s).cnu = s.cnu ∧ (sendNotice s).pkm = s.pkm ∧ (sendNotice s).lnc = s.lnc ∧
    (sendNotice s).prl = s.prl ∧ (sendNotice s).pending = s.pending := by
  simp only [sendNotice]; first | simp; done | (and_intros <;> (repeat' split) <;> simp)

@[simp] theorem sendReport_frame (s : State) :
    (sendReport s).inReset = s.inReset ∧ (sendReport s).inputs = s.inputs ∧ (sendReport s).trk = s.trk ∧
    (sendReport s).lch = s.lch ∧ (sendReport s).scan = s.scan ∧ (sendReport s).held = s.held ∧
    (sendReport s).cnu = s.cnu ∧ (sendReport s).pkm = s.pkm ∧ (sendReport s).lnc = s.lnc ∧
    (sendReport s).prl = s.prl ∧ (sendReport s).pending = s.pending := by
  simp only [sendReport]; first | simp; done | (and_intros <;> (repeat' split) <;> simp)

@[simp] theorem clearEvents_frame (named : EventSet) (s : State) :
    (clearEvents named s).inReset = s.inReset ∧ (clearEvents named s).inputs = s.inputs ∧
    (clearEvents named s).trk = s.trk ∧ (clearEvents named s).lch = s.lch ∧ (clearEvents named s).scan = s.scan ∧
    (clearEvents named s).held = s.held ∧ (clearEvents named s).cnu = s.cnu ∧ (clearEvents named s).pkm = s.pkm ∧
    (clearEvents named s).lnc = s.lnc ∧ (clearEvents named s).prl = s.prl ∧
    (clearEvents named s).pending = s.pending := by
  simp only [clearEvents]; and_intros <;> (repeat' split) <;> simp

@[simp] theorem updateChans_frame (named : List Chan) (f : Channel → Channel) (s : State) :
    (updateChans named f s).inReset = s.inReset ∧ (updateChans named f s).inputs = s.inputs ∧
    (updateChans named f s).trk = s.trk ∧ (updateChans named f s).scan = s.scan ∧
    (updateChans named f s).held = s.held ∧ (updateChans named f s).cnu = s.cnu ∧
    (updateChans named f s).pkm = s.pkm ∧ (updateChans named f s).lnc = s.lnc ∧
    (updateChans named f s).lki = s.lki ∧ (updateChans named f s).prl = s.prl ∧
    (updateChans named f s).pending = s.pending := by
  unfold updateChans; and_intros <;> (apply foldl_keeps; intros; simp)

@[simp] theorem pressSweep_frame (k : PocketNo) (s : State) :
    (pressSweep k s).inReset = s.inReset ∧ (pressSweep k s).inputs = s.inputs ∧ (pressSweep k s).trk = s.trk ∧
    (pressSweep k s).lch = s.lch ∧ (pressSweep k s).scan = s.scan ∧ (pressSweep k s).held = s.held ∧
    (pressSweep k s).cnu = s.cnu ∧ (pressSweep k s).prl = s.prl ∧ (pressSweep k s).pending = s.pending := by
  simp only [pressSweep]; first | simp; done | (and_intros <;> (repeat' split) <;> simp)

@[simp] theorem bringIn_frame (k : PocketNo) (s : State) :
    (bringIn k s).inReset = s.inReset ∧ (bringIn k s).inputs = s.inputs ∧ (bringIn k s).trk = s.trk ∧
    (bringIn k s).lch = s.lch ∧ (bringIn k s).scan = s.scan ∧ (bringIn k s).held = s.held ∧
    (bringIn k s).cnu = s.cnu ∧ (bringIn k s).prl = s.prl ∧ (bringIn k s).pending = s.pending := by
  simp only [bringIn]; first | simp; done | (and_intros <;> (repeat' split) <;> simp)

@[simp] theorem enterStarting_frame (s : State) :
    (enterStarting s).inReset = s.inReset ∧ (enterStarting s).inputs = s.inputs ∧ (enterStarting s).trk = s.trk ∧
    (enterStarting s).scan = s.scan ∧ (enterStarting s).held = s.held ∧ (enterStarting s).cnu = s.cnu ∧
    (enterStarting s).pkm = s.pkm ∧ (enterStarting s).prl = s.prl ∧ (enterStarting s).pending = s.pending := by
  simp only [enterStarting]; and_intros <;> simp

@[simp] theorem answerBehind_frame (s : State) :
    (answerBehind s).inReset = s.inReset ∧ (answerBehind s).inputs = s.inputs ∧ (answerBehind s).trk = s.trk ∧
    (answerBehind s).lch = s.lch ∧ (answerBehind s).scan = s.scan ∧ (answerBehind s).held = s.held ∧
    (answerBehind s).cnu = s.cnu ∧ (answerBehind s).pkm = s.pkm ∧ (answerBehind s).lnc = s.lnc ∧
    (answerBehind s).prl = s.prl ∧ (answerBehind s).pending = s.pending := by
  simp only [answerBehind]; split
  · and_intros <;> (refine (foldl_keeps _ _ _ (by intros; simp) _).trans ?_) <;> simp
  · simp

@[simp] theorem refreshWake_frame (s : State) :
    (refreshWake s).inReset = s.inReset ∧ (refreshWake s).inputs = s.inputs ∧ (refreshWake s).trk = s.trk ∧
    (refreshWake s).lch = s.lch ∧ (refreshWake s).scan = s.scan ∧ (refreshWake s).held = s.held ∧
    (refreshWake s).cnu = s.cnu ∧ (refreshWake s).pkm = s.pkm ∧ (refreshWake s).lki = s.lki ∧
    (refreshWake s).prl = s.prl ∧ (refreshWake s).pending = s.pending := by
  simp only [refreshWake]; and_intros <;> (repeat' split) <;> simp

@[simp] theorem fieldEffects_frame (n : Nat) (old : Profile) (s : State) :
    (fieldEffects n old s).inReset = s.inReset ∧ (fieldEffects n old s).inputs = s.inputs ∧
    (fieldEffects n old s).trk = s.trk ∧ (fieldEffects n old s).lch = s.lch ∧
    (fieldEffects n old s).scan = s.scan ∧ (fieldEffects n old s).held = s.held ∧
    (fieldEffects n old s).cnu = s.cnu ∧ (fieldEffects n old s).pending = s.pending := by
  simp only [fieldEffects]; and_intros <;> (repeat' split) <;> simp

@[simp] theorem takeFlash_frame (s : State) :
    (takeFlash s).inReset = s.inReset ∧ (takeFlash s).inputs = s.inputs ∧ (takeFlash s).prl = s.prl ∧
    (takeFlash s).pending = s.pending := by
  simp only [takeFlash]; and_intros <;> (repeat' split) <;> simp

@[simp] theorem endWrite_frame (a : Answer) (s : State) :
    (endWrite a s).inReset = s.inReset ∧ (endWrite a s).inputs = s.inputs ∧ (endWrite a s).trk = s.trk ∧
    (endWrite a s).lch = s.lch ∧ (endWrite a s).scan = s.scan ∧ (endWrite a s).held = s.held ∧
    (endWrite a s).cnu = s.cnu ∧ (endWrite a s).pkm = s.pkm ∧ (endWrite a s).lnc = s.lnc ∧
    (endWrite a s).pending = s.pending := by
  simp only [endWrite]; and_intros <;> simp

@[simp] theorem writePage_frame (p : Nat) (image : List Byte) (s : State) :
    (writePage p image s).inReset = s.inReset ∧ (writePage p image s).inputs = s.inputs ∧
    (writePage p image s).trk = s.trk ∧ (writePage p image s).lch = s.lch ∧ (writePage p image s).scan = s.scan ∧
    (writePage p image s).held = s.held ∧ (writePage p image s).cnu = s.cnu ∧ (writePage p image s).pkm = s.pkm ∧
    (writePage p image s).lnc = s.lnc ∧ (writePage p image s).lki = s.lki ∧
    (writePage p image s).pending = s.pending := by
  simp only [writePage]; and_intros <;> simp

@[simp] theorem storeNotBusy_frame (s : State) :
    (storeNotBusy s).inReset = s.inReset ∧ (storeNotBusy s).inputs = s.inputs ∧ (storeNotBusy s).trk = s.trk ∧
    (storeNotBusy s).lch = s.lch ∧ (storeNotBusy s).scan = s.scan ∧ (storeNotBusy s).held = s.held ∧
    (storeNotBusy s).cnu = s.cnu ∧ (storeNotBusy s).pkm = s.pkm ∧ (storeNotBusy s).lnc = s.lnc ∧
    (storeNotBusy s).lki = s.lki ∧ (storeNotBusy s).pending = s.pending := by
  simp only [storeNotBusy]; and_intros <;> (repeat' split) <;> simp

@[simp] theorem storePageDone_frame (s : State) :
    (storePageDone s).inReset = s.inReset ∧ (storePageDone s).inputs = s.inputs ∧ (storePageDone s).trk = s.trk ∧
    (storePageDone s).lch = s.lch ∧ (storePageDone s).scan = s.scan ∧ (storePageDone s).held = s.held ∧
    (storePageDone s).cnu = s.cnu ∧ (storePageDone s).pkm = s.pkm ∧ (storePageDone s).lnc = s.lnc ∧
    (storePageDone s).lki = s.lki ∧ (storePageDone s).pending = s.pending := by
  simp only [storePageDone]; and_intros <;> (repeat' split) <;> simp

@[simp] theorem storeWriteNoResponse_frame (s : State) :
    (storeWriteNoResponse s).inReset = s.inReset ∧ (storeWriteNoResponse s).inputs = s.inputs ∧
    (storeWriteNoResponse s).trk = s.trk ∧ (storeWriteNoResponse s).lch = s.lch ∧
    (storeWriteNoResponse s).scan = s.scan ∧ (storeWriteNoResponse s).held = s.held ∧
    (storeWriteNoResponse s).cnu = s.cnu ∧ (storeWriteNoResponse s).pkm = s.pkm ∧
    (storeWriteNoResponse s).lnc = s.lnc ∧ (storeWriteNoResponse s).pending = s.pending := by
  simp only [storeWriteNoResponse]; and_intros <;> (repeat' split) <;> simp

@[simp] theorem storeVerifyDone_frame (readBack : List Byte) (s : State) :
    (storeVerifyDone readBack s).inReset = s.inReset ∧ (storeVerifyDone readBack s).inputs = s.inputs ∧
    (storeVerifyDone readBack s).trk = s.trk ∧ (storeVerifyDone readBack s).lch = s.lch ∧
    (storeVerifyDone readBack s).scan = s.scan ∧ (storeVerifyDone readBack s).held = s.held ∧
    (storeVerifyDone readBack s).cnu = s.cnu ∧ (storeVerifyDone readBack s).pkm = s.pkm ∧
    (storeVerifyDone readBack s).lnc = s.lnc ∧ (storeVerifyDone readBack s).pending = s.pending := by
  simp only [storeVerifyDone]; and_intros <;> (repeat' split) <;> simp

@[simp] theorem matchSensor_frame (k : PocketNo) (s : State) :
    (matchSensor s k).inReset = s.inReset ∧ (matchSensor s k).inputs = s.inputs ∧ (matchSensor s k).lch = s.lch ∧
    (matchSensor s k).scan = s.scan ∧ (matchSensor s k).held = s.held ∧ (matchSensor s k).cnu = s.cnu ∧
    (matchSensor s k).prl = s.prl ∧ (matchSensor s k).pending = s.pending := by
  simp only [matchSensor]; first | simp; done | (and_intros <;> (repeat' split) <;> simp)

@[simp] theorem beginPockets_frame (s : State) :
    (beginPockets s).inReset = s.inReset ∧ (beginPockets s).inputs = s.inputs ∧ (beginPockets s).trk = s.trk ∧
    (beginPockets s).lch = s.lch ∧ (beginPockets s).scan = s.scan ∧ (beginPockets s).held = s.held ∧
    (beginPockets s).cnu = s.cnu ∧ (beginPockets s).lnc = s.lnc ∧ (beginPockets s).lki = s.lki ∧
    (beginPockets s).prl = s.prl ∧ (beginPockets s).pending = s.pending := by
  unfold beginPockets; and_intros <;> (apply foldl_keeps; intros; simp)

@[simp] theorem resumePockets_frame (s : State) :
    (resumePockets s).inReset = s.inReset ∧ (resumePockets s).inputs = s.inputs ∧ (resumePockets s).lch = s.lch ∧
    (resumePockets s).scan = s.scan ∧ (resumePockets s).held = s.held ∧ (resumePockets s).cnu = s.cnu ∧
    (resumePockets s).pending = s.pending := by
  simp only [resumePockets]
  and_intros <;>
    (refine (foldl_keeps _ _ _ (by intros; simp) _).trans ((foldl_keeps _ _ _ (by intros; simp) _).trans ?_)) <;>
    simp <;> (apply foldl_keeps; intros; simp)

@[simp] theorem endLoading_frame (p : Profile) (r : LoadResult) (s : State) :
    (endLoading p r s).inReset = s.inReset ∧ (endLoading p r s).inputs = s.inputs ∧
    (endLoading p r s).pending = s.pending := by
  simp only [endLoading]; first | simp; done | (and_intros <;> (repeat' split) <;> simp)

@[simp] theorem endLoad_frame (image : List Byte) (s : State) :
    (endLoad image s).inReset = s.inReset ∧ (endLoad image s).inputs = s.inputs ∧
    (endLoad image s).pending = s.pending := by
  simp only [endLoad]; and_intros <;> (repeat' split) <;> simp

@[simp] theorem loadNoResponse_frame (s : State) :
    (loadNoResponse s).inReset = s.inReset ∧ (loadNoResponse s).inputs = s.inputs ∧
    (loadNoResponse s).pending = s.pending := by
  simp only [loadNoResponse]; and_intros <;> (repeat' split) <;> simp

end Sys2Proof.Machine
end

