-- ==== Sys2Proof/Laws/Ops.lean ====
section
/-! SUPPORT. What each shared operation does, said once: reading and replacing one entry of a table, one letter's record,
one head or pocket, the hold set, the service of a request, and an entry to FAULTED. -/

namespace Sys2Proof.Machine

/-! ### Tables -/

@[simp] theorem PerChan.get_set {α : Type} (t : PerChan α) (c d : Chan) (x : α) :
    (t.set c x).get d = if d = c then x else t.get d := by
  cases c <;> cases d <;> simp [PerChan.get, PerChan.set]

@[simp] theorem PerChan.get_map {α β : Type} (f : α → β) (t : PerChan α) (c : Chan) :
    (t.map f).get c = f (t.get c) := by
  cases c <;> rfl

@[simp] theorem PerChan.get_all {α : Type} (x : α) (c : Chan) : (PerChan.all x).get c = x := by
  cases c <;> rfl

theorem PerChan.ext_get {α : Type} {t u : PerChan α} (h : ∀ c, t.get c = u.get c) : t = u := by
  obtain ⟨a, b, c, d⟩ := t
  obtain ⟨a', b', c', d'⟩ := u
  have h1 := h .au
  have h2 := h .al
  have h3 := h .bu
  have h4 := h .bl
  simp only [PerChan.get] at h1 h2 h3 h4
  rw [h1, h2, h3, h4]

@[simp] theorem PerFace.get_set {α : Type} (t : PerFace α) (f g : Face) (x : α) :
    (t.set f x).get g = if g = f then x else t.get g := by
  cases f <;> cases g <;> simp [PerFace.get, PerFace.set]

@[simp] theorem PerFace.get_all {α : Type} (x : α) (f : Face) : (PerFace.all x).get f = x := by
  cases f <;> rfl

@[simp] theorem PerHead.get_set {α : Type} (t : PerHead α) (h g : Head) (x : α) :
    (t.set h x).get g = if g = h then x else t.get g := by
  cases h <;> cases g <;> simp [PerHead.get, PerHead.set]

@[simp] theorem PerHead.get_all {α : Type} (x : α) (h : Head) : (PerHead.all x).get h = x := by
  cases h <;> rfl

@[simp] theorem PerHead.set_set {α : Type} (t : PerHead α) (h : Head) (x y : α) : (t.set h x).set h y = t.set h y := by
  cases h <;> rfl

@[simp] theorem PerHead.set_get {α : Type} (t : PerHead α) (h : Head) : t.set h (t.get h) = t := by
  cases h <;> rfl

theorem PerHead.ext_get {α : Type} {t u : PerHead α} (h : ∀ g, t.get g = u.get g) : t = u := by
  obtain ⟨a, b⟩ := t
  obtain ⟨a', b'⟩ := u
  have h1 := h .upper
  have h2 := h .lower
  simp only [PerHead.get] at h1 h2
  rw [h1, h2]

/-! ### One channel, head, gate or pocket -/

@[simp] theorem updateChan_get (c d : Chan) (f : Channel → Channel) (s : State) :
    (updateChan c f s).lch.chans.get d = if d = c then f (s.lch.chans.get c) else s.lch.chans.get d := by
  simp [updateChan]

@[simp] theorem updateHead_get (h g : Head) (f : HeadUnit → HeadUnit) (s : State) :
    (updateHead h f s).cnu.heads.get g = if g = h then f (s.cnu.heads.get h) else s.cnu.heads.get g := by
  simp [updateHead]

@[simp] theorem gateOf_setGate (g k : GateId) (x : Gate) (s : State) :
    gateOf k (setGate g x s) = if gateIdx k = gateIdx g then x else gateOf k s := by
  simp only [gateOf, setGate]
  split
  · next h => simp [h]
  · next h =>
    have : (gateIdx g : Nat) ≠ gateIdx k := fun e => h (Fin.ext e.symm)
    simp [this]

theorem gateIdx_inj {g k : GateId} : gateIdx g = gateIdx k ↔ g = k := by
  constructor
  · intro h
    have hv : (gateIdx g).val = (gateIdx k).val := congrArg Fin.val h
    cases g <;> cases k <;> first
      | rfl
      | (simp only [gateIdx] at hv; exact absurd hv (by decide))
      | (simp only [gateIdx] at hv; exfalso; revert hv; show ¬ (_ : Nat) = _; simp; done)
      | (simp only [gateIdx] at hv; congr 1; exact Fin.ext (by omega))
  · intro h
    rw [h]

theorem updatePocket_get (k j : PocketNo) (f : Pocket → Pocket) (s : State) :
    (updatePocket k f s).pkm.pockets[j] = if j = k then f s.pkm.pockets[k] else s.pkm.pockets[j] := by
  simp only [updatePocket]
  split
  · next h => simp [h]
  · next h =>
    have : (k : Nat) ≠ j := fun e => h (Fin.ext e.symm)
    simp [this]

/-- Giving a pocket a letter changes that pocket alone, as R121 and R122 have it. -/
theorem assignPocket_pockets (k : PocketNo) (s : State) :
    (assignPocket k s).pkm.pockets = s.pkm.pockets.set k (givenLetters k 1 s.pkm.pockets[k]) := by
  have hb : ∀ k : PocketNo, (!isBank k) = true ↔ k = 0 ∨ k = 9 := by decide
  simp only [assignPocket, refreshCatchFull_frame, updatePocket, givenLetters, hb, Pocket.emptied]
  split <;> simp

/-! ### Frames sent -/

/-- The end of a frame being sent touches the link's view of TXD and DE alone (R167). -/
theorem endSending_link (s : State) :
    endSending s = { s with lki := { s.lki with sending := false, deFalls := fallsAfter s.lki } } := rfl

/-- A frame that begins to be sent touches the link's view of TXD and DE alone: DE falls for the frame before it, where
one is still being sent in the HALF mode, and is up from then on (R167). -/
theorem transmit_link (f : Frame) (s : State) :
    transmit f s = { s with lki := { s.lki with
      sending := true, deFalls := fallsAfter s.lki, txd := frameBytes f } } := rfl

/-! ### Letter records -/

theorem find_updateList (id k : LetterId) (f : Letter → Letter) (hf : ∀ l, (f l).id = l.id) (ls : List Letter) :
    (updateList id f ls).find? (·.id == k) =
      (ls.find? (·.id == k)).map fun l => if l.id == id then f l else l := by
  induction ls with
  | nil => rfl
  | cons l ls ih =>
    have hid : (if l.id == id then f l else l).id = l.id := by split <;> simp [hf]
    simp only [updateList, List.map_cons, List.find?_cons, hid] at ih ⊢
    cases h : l.id == k
    · exact ih
    · rfl

/-- Finding a letter after a change of one letter's record that keeps its id. -/
theorem findLetter_updateLetter (id k : LetterId) (f : Letter → Letter) (hf : ∀ l, (f l).id = l.id) (s : State) :
    findLetter k (updateLetter id f s) = (findLetter k s).map fun l => if l.id = id then f l else l := by
  have := find_updateList id k f hf s.trk.letters
  simpa [findLetter, updateLetter] using this

theorem findLetter_id {id : LetterId} {s : State} {l : Letter} (h : findLetter id s = some l) : l.id = id := by
  have := List.find?_some h
  simpa using this

theorem updateList_ids (id : LetterId) (f : Letter → Letter) (hf : ∀ l, (f l).id = l.id) (ls : List Letter) :
    (updateList id f ls).map (·.id) = ls.map (·.id) := by
  simp only [updateList, List.map_map]
  refine List.map_congr_left fun l _ => ?_
  simp only [Function.comp_apply]
  split <;> simp [hf]

theorem updateList_length (id : LetterId) (f : Letter → Letter) (ls : List Letter) :
    (updateList id f ls).length = ls.length := by
  simp [updateList]

/-! ### Events -/

theorem EventKind.bit_getLsbD (k j : EventKind) : k.bit.getLsbD j.idx = decide (j = k) := by
  cases k <;> cases j <;> decide

@[simp] theorem raise_has (k j : EventKind) (s : State) :
    EventSet.has (raise k s).lki.events j = (EventSet.has s.lki.events j || decide (j = k)) := by
  simp only [raise, EventSet.has, BitVec.getLsbD_or, EventKind.bit_getLsbD]

/-- The hold set after `setHold`, and what else of the line controller stands as it was. -/
theorem setHold_lnc (h : HoldSet) (s : State) : (setHold h s).lnc = { s.lnc with hold := h } := by
  simp only [setHold]
  split <;> rfl

/-- `setHold` makes HOLD pending when the set goes between empty and non-empty outside LOADING, and no other kind. -/
theorem setHold_has (h : HoldSet) (s : State) (j : EventKind) :
    EventSet.has (setHold h s).lki.events j =
      (EventSet.has s.lki.events j ||
        (decide (j = .hold) && (h.isEmpty != s.lnc.hold.isEmpty && s.lnc.line != .loading))) := by
  have e : (setHold h s).lki =
      if h.isEmpty != s.lnc.hold.isEmpty && s.lnc.line != .loading then (raise .hold s).lki else s.lki := by
    simp only [setHold]
    split <;> rfl
  rw [e]
  split
  · next hc => rw [raise_has, hc, Bool.and_true]
  · next hc => simp only [Bool.not_eq_true] at hc; rw [hc, Bool.and_false, Bool.or_false]

/-! ### Requests -/

theorem live_out {s : State} (h : s.inReset = false) (f : State → State) : live f s = .next (f s) := by
  simp [live, h]

theorem pushAnswer_eq (r : Request) (a : Answer) (s : State) :
    pushAnswer r.kind r.tag a s =
      { s with lki := { s.lki with replies := s.lki.replies ++ [placeOf r a] } } := by
  cases a <;> rfl

/-- A ready request is served. -/
theorem dispatch_ready {k : ReqKind} {r : Request} {rest : List Request} {s : State} (h : Ready k r rest s)
    (o : Owner) : dispatch k o s = serve k o r rest s := by
  simp [dispatch, h.front, h.kind, h.room]

/-- A request that the link interface does not refuse is decided by its owner, and the owner's answer stands last in
the reply queue. -/
theorem serve_served {k : ReqKind} {r : Request} {rest : List Request} {s : State} (h : Served k r rest s) (o : Owner) :
    serve k o r rest s =
      pushAnswer r.kind r.tag (o r (updateLink (fun l => { l with requests := rest }) s)).2
        (o r (updateLink (fun l => { l with requests := rest }) s)).1 := by
  have h' : linkRefusal k r (updateLink (fun l => { l with requests := rest }) s) = none := h.taken
  simp only [serve, decideRequest, h']

/-- A request that the link interface refuses leaves the queue, with the ERROR last in the reply queue. -/
theorem serve_refused {k : ReqKind} {r : Request} {rest : List Request} {s : State} {e : ErrorCode}
    (h : linkRefusal k r s = some e) (o : Owner) : serve k o r rest s = refused r rest e s := by
  have h' : linkRefusal k r (updateLink (fun l => { l with requests := rest }) s) = some e := h
  simp only [serve, decideRequest, h', refuse]
  rfl

/-- A served request of a kind not answered in LOADING finds the line out of LOADING. -/
theorem Served.notLoading {k : ReqKind} {r : Request} {rest : List Request} {s : State} (h : Served k r rest s)
    (hk : k.inLoading = false) : s.lnc.line ≠ .loading := by
  intro hl
  have := h.taken
  simp only [linkRefusal, hl, hk] at this
  split at this
  · cases this
  · split at this <;> simp at this

end Sys2Proof.Machine
end

