-- ==== Sys2Proof/Laws/Kept.lean ====
section
/-! SUPPORT. What the shared operations keep of the line controller, of the belt, and of the pending events, for the claims
about every command. -/

namespace Sys2Proof.Machine

/-- The line controller without the three hold reasons that other blocks keep. -/
def lineView (s : State) : LineController :=
  { s.lnc with hold := { s.lnc.hold with listHigh := false, catchFull := false, headDown := false } }

theorem lineView_of {s t : State} (h : t.lnc = s.lnc) : lineView t = lineView s := by rw [lineView, lineView, h]

theorem lineView_line {s t : State} (h : lineView t = lineView s) :
    t.lnc.line = s.lnc.line ∧ t.lnc.reason = s.lnc.reason ∧ t.lnc.hold.operator = s.lnc.hold.operator ∧
    t.lnc.startTimer = s.lnc.startTimer ∧ t.lnc.drainTimer = s.lnc.drainTimer ∧ t.lnc.stopTimer = s.lnc.stopTimer ∧
    t.lnc.atSpeed = s.lnc.atSpeed ∧ t.lnc.below = s.lnc.below ∧ t.lnc.blindAtStart = s.lnc.blindAtStart ∧
    t.lnc.wake = s.lnc.wake := by
  simp only [lineView, LineController.mk.injEq, HoldSet.mk.injEq] at h
  simp [h]

/-- The belt's position, speed and stillness, and the next letter id. -/
def beltView (s : State) : Pos × LetterId × Nat × Nat × Bool :=
  (s.trk.belt, s.trk.nextId, s.trk.speed, s.trk.windowCount, s.trk.moving)

theorem beltView_of {s t : State} (h : t.trk = s.trk) : beltView t = beltView s := by rw [beltView, beltView, h]

@[simp] theorem lineView_keep (u : State) (a b c d e f g h i j k) :
    lineView ⟨a, b, c, d, e, f, g, h, u.lnc, i, j, k⟩ = lineView u := rfl

@[simp] theorem beltView_keep (u : State) (a b d e f g h i j k l) :
    beltView ⟨a, b, u.trk, d, e, f, g, h, i, j, k, l⟩ = beltView u := rfl

@[simp] theorem beltView_letters (u : State) (a b d e f g h i j k l ls m te gs) :
    beltView ⟨a, b, ⟨u.trk.belt, u.trk.windowCount, u.trk.speed, u.trk.moving, ls, u.trk.nextId, m, te, gs⟩,
      d, e, f, g, h, i, j, k, l⟩ = beltView u := rfl

/-! ### The line controller -/

@[simp] theorem raise_lineView (k : EventKind) (s : State) :
    lineView (raise k s) = lineView s := lineView_of (by simp)

@[simp] theorem bump_lineView (x : Tally) (s : State) : lineView (bump x s) = lineView s := lineView_of (by simp)

@[simp] theorem updateLetter_lineView (id : LetterId) (f : Letter → Letter) (s : State) :
    lineView (updateLetter id f s) = lineView s := lineView_of (by simp)

@[simp] theorem updateChan_lineView (c : Chan) (f : Channel → Channel) (s : State) :
    lineView (updateChan c f s) = lineView s := lineView_of (by simp)

@[simp] theorem updateHead_lineView (h : Head) (f : HeadUnit → HeadUnit) (s : State) :
    lineView (updateHead h f s) = lineView s := lineView_of (by simp)

@[simp] theorem updatePocket_lineView (k : PocketNo) (f : Pocket → Pocket) (s : State) :
    lineView (updatePocket k f s) = lineView s := lineView_of (by simp)

@[simp] theorem setGate_lineView (g : GateId) (x : Gate) (s : State) :
    lineView (setGate g x s) = lineView s := lineView_of (by simp)

@[simp] theorem restGates_lineView (s : State) : lineView (restGates s) = lineView s := lineView_of (by simp)

@[simp] theorem clearMeasuring_lineView (s : State) :
    lineView (clearMeasuring s) = lineView s := lineView_of (by simp)

@[simp] theorem pushAnswer_lineView (kind tag : Byte) (a : Answer) (s : State) :
    lineView (pushAnswer kind tag a s) = lineView s := lineView_of (by simp)

@[simp] theorem fillDeferred_lineView (a : Answer) (s : State) :
    lineView (fillDeferred a s) = lineView s := lineView_of (by simp)

@[simp] theorem appendLog_lineView (x : TrayRecord) (s : State) :
    lineView (appendLog x s) = lineView s := lineView_of (by simp)

@[simp] theorem dropRecord_lineView (l : Letter) (s : State) :
    lineView (dropRecord l s) = lineView s := lineView_of (by simp)

@[simp] theorem updateScan_lineView (f : ScanContext → ScanContext) (s : State) :
    lineView (updateScan f s) = lineView s := lineView_of (by simp)

@[simp] theorem idleChannels_lineView (s : State) : lineView (idleChannels s) = lineView s := lineView_of (by simp)

@[simp] theorem channelsStart_lineView (s : State) : lineView (channelsStart s) = lineView s := lineView_of (by simp)

@[simp] theorem captureSample_lineView (c : Chan) (letter : Option LetterId) (e : CaptureEntry) (s : State) :
    lineView (captureSample c letter e s) = lineView s := lineView_of (by simp)

@[simp] theorem stopSampling_lineView (s : State) : lineView (stopSampling s) = lineView s := lineView_of (by simp)

@[simp] theorem leaveCalibration_lineView (s : State) :
    lineView (leaveCalibration s) = lineView s := lineView_of (by simp)

@[simp] theorem pulseLamps_lineView (pos : Pos) (s : State) :
    lineView (pulseLamps pos s) = lineView s := lineView_of (by simp)

@[simp] theorem encPulse_lineView (s : State) : lineView (encPulse s) = lineView s := lineView_of (by simp)

@[simp] theorem addRecord_lineView (l : Letter) (s : State) :
    lineView (addRecord l s) = lineView s := lineView_of (by simp)

@[simp] theorem updateLink_lineView (f : Link → Link) (s : State) :
    lineView (updateLink f s) = lineView s := lineView_of (by simp)

@[simp] theorem transmit_lineView (f : Frame) (s : State) :
    lineView (transmit f s) = lineView s := lineView_of (by simp)

@[simp] theorem updateLoader_lineView (f : Loader → Loader) (s : State) :
    lineView (updateLoader f s) = lineView s := lineView_of (by simp)

@[simp] theorem updateProfile_lineView (f : Profile → Profile) (s : State) :
    lineView (updateProfile f s) = lineView s := lineView_of (by simp)

@[simp] theorem setDebounce_lineView (k : PocketNo) (running : Bool) (s : State) :
    lineView (setDebounce k running s) = lineView s := lineView_of (by simp)

@[simp] theorem setMask_lineView (m : EventSet) (s : State) :
    lineView (setMask m s) = lineView s := lineView_of (by simp)

theorem setHold_lineView (h : HoldSet) (s : State) (e : h.operator = s.lnc.hold.operator) :
    lineView (setHold h s) = lineView s := by
  simp [lineView, setHold_lnc, e]

@[simp] theorem refreshListHigh_lineView (s : State) :
    lineView (refreshListHigh s) = lineView s := setHold_lineView _ _ rfl

@[simp] theorem refreshCatchFull_lineView (s : State) :
    lineView (refreshCatchFull s) = lineView s := setHold_lineView _ _ rfl

@[simp] theorem applyHeadDown_lineView (s : State) :
    lineView (applyHeadDown s) = lineView s := setHold_lineView _ _ rfl

@[simp] theorem refreshHeadDown_lineView (s : State) : lineView (refreshHeadDown s) = lineView s := by
  simp only [refreshHeadDown]; (repeat' split) <;> simp

@[simp] theorem takeGate_lineView (l : Letter) (g : GateId) (s : State) :
    lineView (takeGate l g s) = lineView s := lineView_of (by simp)

@[simp] theorem releaseGateFuel_lineView (n : Nat) (g : GateId) (s : State) :
    lineView (releaseGateFuel n g s) = lineView s := lineView_of (by simp)

@[simp] theorem releaseGate_lineView (g : GateId) (s : State) :
    lineView (releaseGate g s) = lineView s := lineView_of (by simp)

@[simp] theorem releaseIfDue_lineView (g : GateId) (s : State) :
    lineView (releaseIfDue g s) = lineView s := lineView_of (by simp)

@[simp] theorem reachSetup_lineView (l : Letter) (g : GateId) (s : State) :
    lineView (reachSetup l g s) = lineView s := lineView_of (by simp)

@[simp] theorem updateOwner_lineView (f : GateOwner → GateOwner) (g : GateId) (s : State) :
    lineView (updateOwner f g s) = lineView s := lineView_of (by simp)

@[simp] theorem setReleasePoints_lineView (l : Letter) (s : State) :
    lineView (setReleasePoints l s) = lineView s := lineView_of (by simp)

@[simp] theorem moveReleasePoints_lineView (id : LetterId) (d : Int) (s : State) :
    lineView (moveReleasePoints id d s) = lineView s := lineView_of (by simp)

@[simp] theorem releaseUnmeasured_lineView (id : LetterId) (s : State) :
    lineView (releaseUnmeasured id s) = lineView s := lineView_of (by simp)

@[simp] theorem driveOwnedBank_lineView (l : Letter) (s : State) :
    lineView (driveOwnedBank l s) = lineView s := lineView_of (by simp)

@[simp] theorem closeTray_lineView (k : PocketNo) (s : State) : lineView (closeTray k s) = lineView s := by
  simp only [closeTray]; simp

@[simp] theorem settleDraining_lineView (k : PocketNo) (s : State) : lineView (settleDraining k s) = lineView s := by
  simp only [settleDraining]; (repeat' split) <;> simp

@[simp] theorem beginDraining_lineView (k : PocketNo) (reason : CloseReason) (s : State) :
    lineView (beginDraining k reason s) = lineView s := by
  simp only [beginDraining]; simp

@[simp] theorem becomeFull_lineView (k : PocketNo) (s : State) : lineView (becomeFull k s) = lineView s := by
  simp only [becomeFull]; (repeat' split) <;> simp

@[simp] theorem assignPocket_lineView (k : PocketNo) (s : State) : lineView (assignPocket k s) = lineView s := by
  simp only [assignPocket]; simp

@[simp] theorem countDelivery_lineView (l : Letter) (k : PocketNo) (s : State) :
    lineView (countDelivery l k s) = lineView s := by
  simp only [countDelivery]; (repeat' split) <;> simp

@[simp] theorem countLoss_lineView (l : Letter) (t : Tally) (s : State) :
    lineView (countLoss l t s) = lineView s := by
  simp only [countLoss]; (repeat' split) <;> simp

@[simp] theorem countRemoval_lineView (l : Letter) (d : Disposition) (s : State) :
    lineView (countRemoval l d s) = lineView s := by
  simp only [countRemoval]; (repeat' split) <;> simp

@[simp] theorem pullLetter_lineView (k : PocketNo) (l : Letter) (s : State) :
    lineView (pullLetter k l s) = lineView s := by
  simp only [pullLetter]; (repeat' split) <;> simp

@[simp] theorem pull_lineView (k : PocketNo) (s : State) : lineView (pull k s) = lineView s := by
  simp only [pull, refreshCatchFull_lineView]
  exact (foldl_keeps _ lineView _ (by intros; simp) _).trans (by (repeat' split) <;> simp)

@[simp] theorem takeRemoval_lineView (k : PocketNo) (s : State) : lineView (takeRemoval k s) = lineView s := by
  simp only [takeRemoval]; (repeat' split) <;> simp

@[simp] theorem takeInsertion_lineView (k : PocketNo) (s : State) : lineView (takeInsertion k s) = lineView s := by
  simp only [takeInsertion]; (repeat' split) <;> simp

@[simp] theorem applyLimit_lineView (k : PocketNo) (s : State) : lineView (applyLimit k s) = lineView s := by
  simp only [applyLimit]; (repeat' split) <;> simp

@[simp] theorem adoptClasses_lineView (changed : PocketNo → Bool) (s : State) :
    lineView (adoptClasses changed s) = lineView s := lineView_of (by simp)

@[simp] theorem raiseLimit_lineView (k : PocketNo) (s : State) :
    lineView (raiseLimit k s) = lineView s := lineView_of (by simp)

@[simp] theorem queueReport_lineView (r : LetterReport) (s : State) :
    lineView (queueReport r s) = lineView s := lineView_of (by simp)

@[simp] theorem reportRemoval_lineView (l : Letter) (d : Disposition) (s : State) :
    lineView (reportRemoval l d s) = lineView s := lineView_of (by simp)

@[simp] theorem dropScan_lineView (l : Letter) (s : State) :
    lineView (dropScan l s) = lineView s := lineView_of (by simp)

@[simp] theorem removeRecord_lineView (l : Letter) (d : Disposition) (s : State) :
    lineView (removeRecord l d s) = lineView s := by
  simp only [removeRecord]; simp

@[simp] theorem writeOutcome_lineView (id : LetterId) (o : CancelOutcome) (m : Option MissedReason) (s : State) :
    lineView (writeOutcome id o m s) = lineView s := lineView_of (by simp)

@[simp] theorem schedulePrint_lineView (l : Letter) (o : Orientation) (run : ChosenRun) (s : State) :
    lineView (schedulePrint l o run s) = lineView s := lineView_of (by simp)

@[simp] theorem startPrint_lineView (h : Head) (l : Letter) (x : PrintPart) (s : State) :
    lineView (startPrint h l x s) = lineView s := lineView_of (by simp)

@[simp] theorem takeFireStart_lineView (h : Head) (l : Letter) (x : PrintPart) (s : State) :
    lineView (takeFireStart h l x s) = lineView s := lineView_of (by simp)

@[simp] theorem reachFireStart_lineView (h : Head) (s : State) :
    lineView (reachFireStart h s) = lineView s := lineView_of (by simp)

@[simp] theorem endPrint_lineView (h : Head) (s : State) :
    lineView (endPrint h s) = lineView s := lineView_of (by simp)

@[simp] theorem reachFireEnd_lineView (h : Head) (s : State) :
    lineView (reachFireEnd h s) = lineView s := lineView_of (by simp)

@[simp] theorem emptyQueue_lineView (h : Head) (s : State) :
    lineView (emptyQueue h s) = lineView s := lineView_of (by simp)

@[simp] theorem faultHead_lineView (h : Head) (s : State) : lineView (faultHead h s) = lineView s := by
  simp only [faultHead]; (repeat' split) <;> simp

@[simp] theorem reachRecoveryEnd_lineView (h : Head) (s : State) : lineView (reachRecoveryEnd h s) = lineView s := by
  simp only [reachRecoveryEnd]; (repeat' split) <;> simp

@[simp] theorem abortPrints_lineView (s : State) : lineView (abortPrints s) = lineView s := lineView_of (by simp)

@[simp] theorem settleHeads_lineView (s : State) : lineView (settleHeads s) = lineView s := by
  simp only [settleHeads]; simp

@[simp] theorem movePrint_lineView (id : LetterId) (d : Int) (s : State) :
    lineView (movePrint id d s) = lineView s := lineView_of (by simp)

@[simp] theorem countSources_lineView (c : Chan) (srcs : List CounterSource) (s : State) :
    lineView (countSources c srcs s) = lineView s := lineView_of (by simp)

@[simp] theorem ensureScan_lineView (id : LetterId) (s : State) :
    lineView (ensureScan id s) = lineView s := lineView_of (by simp)

@[simp] theorem markBlindAt_lineView (pos : Pos) (c : Chan) (s : State) :
    lineView (markBlindAt pos c s) = lineView s := lineView_of (by simp)

@[simp] theorem darkSample_lineView (c : Chan) (x : SamplePair) (s : State) :
    lineView (darkSample c x s) = lineView s := lineView_of (by simp)

@[simp] theorem faultFace_lineView (f : Face) (cause : FaultCause) (s : State) :
    lineView (faultFace f cause s) = lineView s := lineView_of (by simp)

@[simp] theorem failFace_lineView (f : Face) (cause : FaultCause) (s : State) :
    lineView (failFace f cause s) = lineView s := lineView_of (by simp)

@[simp] theorem handToCancel_lineView (l : Letter) (v : Verdict) (s : State) :
    lineView (handToCancel l v s) = lineView s := lineView_of (by simp)

@[simp] theorem handToPockets_lineView (l : Letter) (r : Route) (s : State) :
    lineView (handToPockets l r s) = lineView s := by
  simp only [handToPockets]; (repeat' split) <;> simp

@[simp] theorem writeVerdict_lineView (l : Letter) (v : Verdict) (s : State) :
    lineView (writeVerdict l v s) = lineView s := by
  simp only [writeVerdict]; (repeat' split) <;> simp

@[simp] theorem judgeLetter_lineView (l : Letter) (s : State) : lineView (judgeLetter l s) = lineView s := by
  simp only [judgeLetter]; simp

@[simp] theorem evaluate_lineView (id : LetterId) (s : State) : lineView (evaluate id s) = lineView s := by
  simp only [evaluate]; (repeat' split) <;> simp

@[simp] theorem endHold_lineView (close : Bool) (s : State) : lineView (endHold close s) = lineView s := by
  simp only [endHold]; (repeat' split) <;> simp

@[simp] theorem reachPairPoint_lineView (s : State) : lineView (reachPairPoint s) = lineView s := by
  simp only [reachPairPoint]; (repeat' split) <;> simp

@[simp] theorem reachVerdictLimit_lineView (s : State) : lineView (reachVerdictLimit s) = lineView s := by
  simp only [reachVerdictLimit]; (repeat' split) <;> simp

@[simp] theorem closeChannel_lineView (c : Chan) (x : ScanContext) (s : State) :
    lineView (closeChannel c x s) = lineView s := lineView_of (by simp)

@[simp] theorem completeScan_lineView (id : LetterId) (s : State) : lineView (completeScan id s) = lineView s := by
  simp only [completeScan]; (repeat' split) <;> simp

@[simp] theorem endCalibration_lineView (k : Calibration) (s : State) :
    lineView (endCalibration k s) = lineView s := lineView_of (by simp)

@[simp] theorem abandonCalibration_lineView (s : State) :
    lineView (abandonCalibration s) = lineView s := lineView_of (by simp)

@[simp] theorem calibrationFlash_lineView (s : State) :
    lineView (calibrationFlash s) = lineView s := lineView_of (by simp)

@[simp] theorem endDark_lineView (k : Calibration) (s : State) :
    lineView (endDark k s) = lineView s := lineView_of (by simp)

@[simp] theorem endReference_lineView (k : Calibration) (s : State) :
    lineView (endReference k s) = lineView s := lineView_of (by simp)

@[simp] theorem endPhase_lineView (s : State) : lineView (endPhase s) = lineView s := lineView_of (by simp)

@[simp] theorem calibrationReturn_lineView (k : Calibration) (f : Face) (upper lower : SamplePair) (s : State) :
    lineView (calibrationReturn k f upper lower s) = lineView s := lineView_of (by simp)

@[simp] theorem calibrationTimeout_lineView (k : Calibration) (f : Face) (s : State) :
    lineView (calibrationTimeout k f s) = lineView s := lineView_of (by simp)

@[simp] theorem endSettle_lineView (s : State) : lineView (endSettle s) = lineView s := lineView_of (by simp)

@[simp] theorem loseRecord_lineView (l : Letter) (s : State) : lineView (loseRecord s l) = lineView s := by
  simp only [loseRecord]; simp

@[simp] theorem loseAllRecords_lineView (s : State) : lineView (loseAllRecords s) = lineView s := by
  simp only [loseAllRecords, clearMeasuring_lineView, restGates_lineView]
  exact foldl_keeps _ lineView _ (by intros; simp) _

@[simp] theorem settleFaulted_lineView (s : State) : lineView (settleFaulted s) = lineView s := by
  simp only [settleFaulted]; simp

@[simp] theorem overrun_lineView (f : Face) (s : State) : lineView (overrun f s) = lineView s := lineView_of (by simp)

@[simp] theorem settleStep_lineView (c : Chan) (s : State) :
    lineView (settleStep c s) = lineView s := lineView_of (by simp)

@[simp] theorem blindIfFault_lineView (pos : Pos) (c : Chan) (s : State) :
    lineView (blindIfFault pos c s) = lineView s := lineView_of (by simp)

@[simp] theorem beginStep_lineView (pos : Pos) (s : State) :
    lineView (beginStep pos s) = lineView s := lineView_of (by simp)

@[simp] theorem makeFlash_lineView (pos : Pos) (s : State) : lineView (makeFlash pos s) = lineView s := by
  simp only [makeFlash, beginStep_lineView]
  exact (foldl_keeps _ lineView _ (by intros; simp) _).trans (by simp)

@[simp] theorem letterSample_lineView (c : Chan) (l : Letter) (pos : Pos) (x : SamplePair) (s : State) :
    lineView (letterSample c l pos x s) = lineView s := lineView_of (by simp)

@[simp] theorem sampleTimeout_lineView (f : Face) (s : State) :
    lineView (sampleTimeout f s) = lineView s := lineView_of (by simp)

@[simp] theorem markLong_lineView (id : LetterId) (s : State) : lineView (markLong id s) = lineView s := by
  simp only [markLong]; simp

@[simp] theorem reachLongPoint_lineView (s : State) : lineView (reachLongPoint s) = lineView s := by
  simp only [reachLongPoint]; (repeat' split) <;> simp

@[simp] theorem setLength_lineView (id : LetterId) (s : State) :
    lineView (setLength id s) = lineView s := lineView_of (by simp)

@[simp] theorem completeIfPassed_lineView (id : LetterId) (s : State) :
    lineView (completeIfPassed id s) = lineView s := by
  simp only [completeIfPassed]; (repeat' split) <;> simp

@[simp] theorem measureLetter_lineView (l : Letter) (s : State) : lineView (measureLetter l s) = lineView s := by
  simp only [measureLetter]; (repeat' split) <;> simp

@[simp] theorem e0TrailingEdge_lineView (s : State) : lineView (e0TrailingEdge s) = lineView s := by
  simp only [e0TrailingEdge]; (repeat' split) <;> simp

@[simp] theorem resynchronise_lineView (l : Letter) (s : State) :
    lineView (resynchronise l s) = lineView s := lineView_of (by simp)

@[simp] theorem reachSetupPoint_lineView (id : LetterId) (g : GateId) (s : State) :
    lineView (reachSetupPoint id g s) = lineView s := lineView_of (by simp)

@[simp] theorem decidePocket_lineView (l : Letter) (s : State) : lineView (decidePocket l s) = lineView s := by
  simp only [decidePocket]; (repeat' split) <;> simp

@[simp] theorem settlePrint_lineView (id : LetterId) (s : State) :
    lineView (settlePrint id s) = lineView s := lineView_of (by simp)

@[simp] theorem reachDecision_lineView (id : LetterId) (s : State) : lineView (reachDecision id s) = lineView s := by
  simp only [reachDecision]; (repeat' split) <;> simp

@[simp] theorem countBad_lineView (s : State) : lineView (countBad s) = lineView s := lineView_of (by simp)

@[simp] theorem refuseBusy_lineView (f : Frame) (s : State) :
    lineView (refuseBusy f s) = lineView s := lineView_of (by simp)

@[simp] theorem goodFrame_lineView (f : Frame) (s : State) :
    lineView (goodFrame f s) = lineView s := lineView_of (by simp)

@[simp] theorem receiveByte_lineView (x : Byte) (s : State) :
    lineView (receiveByte s x) = lineView s := lineView_of (by simp)

@[simp] theorem receive_lineView (cs : List (Option Byte)) (s : State) :
    lineView (receive cs s) = lineView s := lineView_of (by simp)

@[simp] theorem endSending_lineView (s : State) : lineView (endSending s) = lineView s := lineView_of (by simp)

@[simp] theorem receiveOver_lineView (overlap : Nat) (cs : List (Option Byte)) (s : State) :
    lineView (receiveOver overlap cs s) = lineView s := lineView_of (by simp)

@[simp] theorem framingError_lineView (s : State) : lineView (framingError s) = lineView s := lineView_of (by simp)

@[simp] theorem interByteTimeout_lineView (s : State) :
    lineView (interByteTimeout s) = lineView s := lineView_of (by simp)

@[simp] theorem dispatchUnknown_lineView (s : State) :
    lineView (dispatchUnknown s) = lineView s := lineView_of (by simp)

@[simp] theorem sendReply_lineView (s : State) : lineView (sendReply s) = lineView s := lineView_of (by simp)

@[simp] theorem sendNotice_lineView (s : State) : lineView (sendNotice s) = lineView s := lineView_of (by simp)

@[simp] theorem sendReport_lineView (s : State) : lineView (sendReport s) = lineView s := lineView_of (by simp)

@[simp] theorem clearEvents_lineView (named : EventSet) (s : State) :
    lineView (clearEvents named s) = lineView s := lineView_of (by simp)

@[simp] theorem updateChans_lineView (named : List Chan) (f : Channel → Channel) (s : State) :
    lineView (updateChans named f s) = lineView s := lineView_of (by simp)

@[simp] theorem pressSweep_lineView (k : PocketNo) (s : State) : lineView (pressSweep k s) = lineView s := by
  simp only [pressSweep]; (repeat' split) <;> simp

@[simp] theorem bringIn_lineView (k : PocketNo) (s : State) : lineView (bringIn k s) = lineView s := by
  simp only [bringIn]; (repeat' split) <;> simp

@[simp] theorem answerBehind_lineView (s : State) : lineView (answerBehind s) = lineView s := lineView_of (by simp)

@[simp] theorem takeFlash_lineView (s : State) : lineView (takeFlash s) = lineView s := by
  simp only [takeFlash]; (repeat' split) <;> simp

@[simp] theorem endWrite_lineView (a : Answer) (s : State) :
    lineView (endWrite a s) = lineView s := lineView_of (by simp)

@[simp] theorem writePage_lineView (p : Nat) (image : List Byte) (s : State) :
    lineView (writePage p image s) = lineView s := lineView_of (by simp)

@[simp] theorem storeNotBusy_lineView (s : State) : lineView (storeNotBusy s) = lineView s := lineView_of (by simp)

@[simp] theorem storePageDone_lineView (s : State) : lineView (storePageDone s) = lineView s := lineView_of (by simp)

@[simp] theorem storeWriteNoResponse_lineView (s : State) :
    lineView (storeWriteNoResponse s) = lineView s := lineView_of (by simp)

@[simp] theorem storeVerifyDone_lineView (readBack : List Byte) (s : State) :
    lineView (storeVerifyDone readBack s) = lineView s := lineView_of (by simp)

@[simp] theorem matchSensor_lineView (k : PocketNo) (s : State) : lineView (matchSensor s k) = lineView s := by
  unfold matchSensor; split <;> simp

@[simp] theorem beginPockets_lineView (s : State) : lineView (beginPockets s) = lineView s := lineView_of (by simp)

@[simp] theorem resumePockets_lineView (s : State) : lineView (resumePockets s) = lineView s := by
  unfold resumePockets
  refine (foldl_keeps _ lineView _ (by intros; simp) _).trans ((foldl_keeps _ lineView _ (by intros; simp) _).trans ?_)
  simp only [adoptClasses_lineView]
  exact foldl_keeps _ lineView _ (by intros; simp) _

/-! ### The belt -/

@[simp] theorem raise_beltView (k : EventKind) (s : State) :
    beltView (raise k s) = beltView s := beltView_of (by simp)

@[simp] theorem bump_beltView (x : Tally) (s : State) : beltView (bump x s) = beltView s := beltView_of (by simp)

@[simp] theorem updateLetter_beltView (id : LetterId) (f : Letter → Letter) (s : State) :
    beltView (updateLetter id f s) = beltView s := rfl

@[simp] theorem updateChan_beltView (c : Chan) (f : Channel → Channel) (s : State) :
    beltView (updateChan c f s) = beltView s := beltView_of (by simp)

@[simp] theorem updateHead_beltView (h : Head) (f : HeadUnit → HeadUnit) (s : State) :
    beltView (updateHead h f s) = beltView s := beltView_of (by simp)

@[simp] theorem updatePocket_beltView (k : PocketNo) (f : Pocket → Pocket) (s : State) :
    beltView (updatePocket k f s) = beltView s := beltView_of (by simp)

@[simp] theorem setGate_beltView (g : GateId) (x : Gate) (s : State) : beltView (setGate g x s) = beltView s := rfl

@[simp] theorem restGates_beltView (s : State) : beltView (restGates s) = beltView s := rfl

@[simp] theorem clearMeasuring_beltView (s : State) : beltView (clearMeasuring s) = beltView s := rfl

@[simp] theorem pushAnswer_beltView (kind tag : Byte) (a : Answer) (s : State) :
    beltView (pushAnswer kind tag a s) = beltView s := beltView_of (by simp)

@[simp] theorem fillDeferred_beltView (a : Answer) (s : State) :
    beltView (fillDeferred a s) = beltView s := beltView_of (by simp)

@[simp] theorem appendLog_beltView (x : TrayRecord) (s : State) :
    beltView (appendLog x s) = beltView s := beltView_of (by simp)

@[simp] theorem dropRecord_beltView (l : Letter) (s : State) : beltView (dropRecord l s) = beltView s := rfl

@[simp] theorem updateScan_beltView (f : ScanContext → ScanContext) (s : State) :
    beltView (updateScan f s) = beltView s := beltView_of (by simp)

@[simp] theorem idleChannels_beltView (s : State) : beltView (idleChannels s) = beltView s := beltView_of (by simp)

@[simp] theorem channelsStart_beltView (s : State) : beltView (channelsStart s) = beltView s := beltView_of (by simp)

@[simp] theorem captureSample_beltView (c : Chan) (letter : Option LetterId) (e : CaptureEntry) (s : State) :
    beltView (captureSample c letter e s) = beltView s := beltView_of (by simp)

@[simp] theorem stopSampling_beltView (s : State) : beltView (stopSampling s) = beltView s := beltView_of (by simp)

@[simp] theorem leaveCalibration_beltView (s : State) :
    beltView (leaveCalibration s) = beltView s := beltView_of (by simp)

@[simp] theorem updateLine_beltView (f : LineController → LineController) (s : State) :
    beltView (updateLine f s) = beltView s := beltView_of (by simp)

@[simp] theorem pulseLamps_beltView (pos : Pos) (s : State) :
    beltView (pulseLamps pos s) = beltView s := beltView_of (by simp)

@[simp] theorem updateLink_beltView (f : Link → Link) (s : State) :
    beltView (updateLink f s) = beltView s := beltView_of (by simp)

@[simp] theorem transmit_beltView (f : Frame) (s : State) :
    beltView (transmit f s) = beltView s := beltView_of (by simp)

@[simp] theorem updateLoader_beltView (f : Loader → Loader) (s : State) :
    beltView (updateLoader f s) = beltView s := beltView_of (by simp)

@[simp] theorem updateProfile_beltView (f : Profile → Profile) (s : State) :
    beltView (updateProfile f s) = beltView s := beltView_of (by simp)

@[simp] theorem setDebounce_beltView (k : PocketNo) (running : Bool) (s : State) :
    beltView (setDebounce k running s) = beltView s := beltView_of (by simp)

@[simp] theorem setMask_beltView (m : EventSet) (s : State) :
    beltView (setMask m s) = beltView s := beltView_of (by simp)

@[simp] theorem setHold_beltView (h : HoldSet) (s : State) :
    beltView (setHold h s) = beltView s := beltView_of (by simp)

@[simp] theorem refreshListHigh_beltView (s : State) :
    beltView (refreshListHigh s) = beltView s := beltView_of (by simp)

@[simp] theorem refreshCatchFull_beltView (s : State) :
    beltView (refreshCatchFull s) = beltView s := beltView_of (by simp)

@[simp] theorem applyHeadDown_beltView (s : State) : beltView (applyHeadDown s) = beltView s := beltView_of (by simp)

@[simp] theorem refreshHeadDown_beltView (s : State) :
    beltView (refreshHeadDown s) = beltView s := beltView_of (by simp)

@[simp] theorem takeGate_beltView (l : Letter) (g : GateId) (s : State) : beltView (takeGate l g s) = beltView s := rfl

@[simp] theorem releaseGateFuel_beltView (n : Nat) (g : GateId) (s : State) :
    beltView (releaseGateFuel n g s) = beltView s := by
  induction n generalizing s with
  | zero => simp [releaseGateFuel]
  | succ n ih => simp only [releaseGateFuel]; (repeat' split) <;> simp [ih]

@[simp] theorem releaseGate_beltView (g : GateId) (s : State) : beltView (releaseGate g s) = beltView s := by
  simp only [releaseGate]; simp

@[simp] theorem releaseIfDue_beltView (g : GateId) (s : State) : beltView (releaseIfDue g s) = beltView s := by
  simp only [releaseIfDue]; (repeat' split) <;> simp

@[simp] theorem reachSetup_beltView (l : Letter) (g : GateId) (s : State) :
    beltView (reachSetup l g s) = beltView s := by
  simp only [reachSetup]; (repeat' split) <;> simp

@[simp] theorem updateOwner_beltView (f : GateOwner → GateOwner) (g : GateId) (s : State) :
    beltView (updateOwner f g s) = beltView s := rfl

@[simp] theorem setReleasePoints_beltView (l : Letter) (s : State) :
    beltView (setReleasePoints l s) = beltView s := by
  unfold setReleasePoints; exact foldl_keeps _ beltView _ (by intros; simp) _

@[simp] theorem moveReleasePoints_beltView (id : LetterId) (d : Int) (s : State) :
    beltView (moveReleasePoints id d s) = beltView s := by
  unfold moveReleasePoints; exact foldl_keeps _ beltView _ (by intros; simp) _

@[simp] theorem releaseUnmeasured_beltView (id : LetterId) (s : State) :
    beltView (releaseUnmeasured id s) = beltView s := by
  unfold releaseUnmeasured; exact foldl_keeps _ beltView _ (by intros; (repeat' split) <;> simp) _

@[simp] theorem driveOwnedBank_beltView (l : Letter) (s : State) : beltView (driveOwnedBank l s) = beltView s := by
  simp only [driveOwnedBank]; (repeat' split) <;> simp

@[simp] theorem closeTray_beltView (k : PocketNo) (s : State) :
    beltView (closeTray k s) = beltView s := beltView_of (by simp)

@[simp] theorem settleDraining_beltView (k : PocketNo) (s : State) :
    beltView (settleDraining k s) = beltView s := beltView_of (by simp)

@[simp] theorem beginDraining_beltView (k : PocketNo) (reason : CloseReason) (s : State) :
    beltView (beginDraining k reason s) = beltView s := beltView_of (by simp)

@[simp] theorem becomeFull_beltView (k : PocketNo) (s : State) :
    beltView (becomeFull k s) = beltView s := beltView_of (by simp)

@[simp] theorem assignPocket_beltView (k : PocketNo) (s : State) :
    beltView (assignPocket k s) = beltView s := beltView_of (by simp)

@[simp] theorem countDelivery_beltView (l : Letter) (k : PocketNo) (s : State) :
    beltView (countDelivery l k s) = beltView s := beltView_of (by simp)

@[simp] theorem countLoss_beltView (l : Letter) (t : Tally) (s : State) :
    beltView (countLoss l t s) = beltView s := beltView_of (by simp)

@[simp] theorem countRemoval_beltView (l : Letter) (d : Disposition) (s : State) :
    beltView (countRemoval l d s) = beltView s := beltView_of (by simp)

@[simp] theorem pullLetter_beltView (k : PocketNo) (l : Letter) (s : State) :
    beltView (pullLetter k l s) = beltView s := by
  simp only [pullLetter]; (repeat' split) <;> simp

@[simp] theorem pull_beltView (k : PocketNo) (s : State) : beltView (pull k s) = beltView s := by
  simp only [pull, refreshCatchFull_beltView]
  exact (foldl_keeps _ beltView _ (by intros; simp) _).trans (by (repeat' split) <;> simp)

@[simp] theorem takeRemoval_beltView (k : PocketNo) (s : State) : beltView (takeRemoval k s) = beltView s := by
  simp only [takeRemoval]; (repeat' split) <;> simp

@[simp] theorem takeInsertion_beltView (k : PocketNo) (s : State) :
    beltView (takeInsertion k s) = beltView s := beltView_of (by simp)

@[simp] theorem applyLimit_beltView (k : PocketNo) (s : State) :
    beltView (applyLimit k s) = beltView s := beltView_of (by simp)

@[simp] theorem adoptClasses_beltView (changed : PocketNo → Bool) (s : State) :
    beltView (adoptClasses changed s) = beltView s := beltView_of (by simp)

@[simp] theorem raiseLimit_beltView (k : PocketNo) (s : State) :
    beltView (raiseLimit k s) = beltView s := beltView_of (by simp)

@[simp] theorem queueReport_beltView (r : LetterReport) (s : State) :
    beltView (queueReport r s) = beltView s := beltView_of (by simp)

@[simp] theorem reportRemoval_beltView (l : Letter) (d : Disposition) (s : State) :
    beltView (reportRemoval l d s) = beltView s := beltView_of (by simp)

@[simp] theorem dropScan_beltView (l : Letter) (s : State) :
    beltView (dropScan l s) = beltView s := beltView_of (by simp)

@[simp] theorem removeRecord_beltView (l : Letter) (d : Disposition) (s : State) :
    beltView (removeRecord l d s) = beltView s := by
  simp only [removeRecord]; simp

@[simp] theorem writeOutcome_beltView (id : LetterId) (o : CancelOutcome) (m : Option MissedReason) (s : State) :
    beltView (writeOutcome id o m s) = beltView s := by
  simp only [writeOutcome]; (repeat' split) <;> simp

@[simp] theorem schedulePrint_beltView (l : Letter) (o : Orientation) (run : ChosenRun) (s : State) :
    beltView (schedulePrint l o run s) = beltView s := by
  simp only [schedulePrint]; (repeat' split) <;> simp

@[simp] theorem startPrint_beltView (h : Head) (l : Letter) (x : PrintPart) (s : State) :
    beltView (startPrint h l x s) = beltView s := by
  simp only [startPrint]; (repeat' split) <;> simp

@[simp] theorem takeFireStart_beltView (h : Head) (l : Letter) (x : PrintPart) (s : State) :
    beltView (takeFireStart h l x s) = beltView s := by
  simp only [takeFireStart]; (repeat' split) <;> simp

@[simp] theorem reachFireStart_beltView (h : Head) (s : State) : beltView (reachFireStart h s) = beltView s := by
  simp only [reachFireStart]; (repeat' split) <;> simp

@[simp] theorem endPrint_beltView (h : Head) (s : State) : beltView (endPrint h s) = beltView s := by
  simp only [endPrint]; (repeat' split) <;> simp

@[simp] theorem reachFireEnd_beltView (h : Head) (s : State) : beltView (reachFireEnd h s) = beltView s := by
  simp only [reachFireEnd]; (repeat' split) <;> simp

@[simp] theorem emptyQueue_beltView (h : Head) (s : State) : beltView (emptyQueue h s) = beltView s := by
  unfold emptyQueue
  exact (foldl_keeps _ beltView _ (by intros; simp) _).trans (by simp)

@[simp] theorem faultHead_beltView (h : Head) (s : State) : beltView (faultHead h s) = beltView s := by
  simp only [faultHead]; (repeat' split) <;> simp

@[simp] theorem reachRecoveryEnd_beltView (h : Head) (s : State) : beltView (reachRecoveryEnd h s) = beltView s := by
  simp only [reachRecoveryEnd]; (repeat' split) <;> simp

@[simp] theorem abortPrints_beltView (s : State) : beltView (abortPrints s) = beltView s := beltView_of (by simp)

@[simp] theorem settleHeads_beltView (s : State) : beltView (settleHeads s) = beltView s := beltView_of (by simp)

@[simp] theorem movePrint_beltView (id : LetterId) (d : Int) (s : State) :
    beltView (movePrint id d s) = beltView s := beltView_of (by simp)

@[simp] theorem countSources_beltView (c : Chan) (srcs : List CounterSource) (s : State) :
    beltView (countSources c srcs s) = beltView s := beltView_of (by simp)

@[simp] theorem ensureScan_beltView (id : LetterId) (s : State) :
    beltView (ensureScan id s) = beltView s := beltView_of (by simp)

@[simp] theorem markBlindAt_beltView (pos : Pos) (c : Chan) (s : State) :
    beltView (markBlindAt pos c s) = beltView s := beltView_of (by simp)

@[simp] theorem darkSample_beltView (c : Chan) (x : SamplePair) (s : State) :
    beltView (darkSample c x s) = beltView s := beltView_of (by simp)

@[simp] theorem faultFace_beltView (f : Face) (cause : FaultCause) (s : State) :
    beltView (faultFace f cause s) = beltView s := beltView_of (by simp)

@[simp] theorem failFace_beltView (f : Face) (cause : FaultCause) (s : State) :
    beltView (failFace f cause s) = beltView s := beltView_of (by simp)

@[simp] theorem handToCancel_beltView (l : Letter) (v : Verdict) (s : State) :
    beltView (handToCancel l v s) = beltView s := by
  simp only [handToCancel]; (repeat' split) <;> simp

@[simp] theorem handToPockets_beltView (l : Letter) (r : Route) (s : State) :
    beltView (handToPockets l r s) = beltView s := by
  simp only [handToPockets]; (repeat' split) <;> simp

@[simp] theorem writeVerdict_beltView (l : Letter) (v : Verdict) (s : State) :
    beltView (writeVerdict l v s) = beltView s := by
  simp only [writeVerdict]; (repeat' split) <;> simp

@[simp] theorem judgeLetter_beltView (l : Letter) (s : State) : beltView (judgeLetter l s) = beltView s := by
  simp only [judgeLetter]; simp

@[simp] theorem evaluate_beltView (id : LetterId) (s : State) : beltView (evaluate id s) = beltView s := by
  simp only [evaluate]; (repeat' split) <;> simp

@[simp] theorem endHold_beltView (close : Bool) (s : State) : beltView (endHold close s) = beltView s := by
  simp only [endHold]; (repeat' split) <;> simp

@[simp] theorem reachPairPoint_beltView (s : State) : beltView (reachPairPoint s) = beltView s := by
  simp only [reachPairPoint]; (repeat' split) <;> simp

@[simp] theorem reachVerdictLimit_beltView (s : State) : beltView (reachVerdictLimit s) = beltView s := by
  simp only [reachVerdictLimit]; (repeat' split) <;> simp

@[simp] theorem closeChannel_beltView (c : Chan) (x : ScanContext) (s : State) :
    beltView (closeChannel c x s) = beltView s := beltView_of (by simp)

@[simp] theorem completeScan_beltView (id : LetterId) (s : State) : beltView (completeScan id s) = beltView s := by
  simp only [completeScan]; (repeat' split) <;> simp

@[simp] theorem endCalibration_beltView (k : Calibration) (s : State) :
    beltView (endCalibration k s) = beltView s := beltView_of (by simp)

@[simp] theorem abandonCalibration_beltView (s : State) :
    beltView (abandonCalibration s) = beltView s := beltView_of (by simp)

@[simp] theorem calibrationFlash_beltView (s : State) :
    beltView (calibrationFlash s) = beltView s := beltView_of (by simp)

@[simp] theorem endDark_beltView (k : Calibration) (s : State) :
    beltView (endDark k s) = beltView s := beltView_of (by simp)

@[simp] theorem endReference_beltView (k : Calibration) (s : State) :
    beltView (endReference k s) = beltView s := beltView_of (by simp)

@[simp] theorem endPhase_beltView (s : State) : beltView (endPhase s) = beltView s := beltView_of (by simp)

@[simp] theorem calibrationReturn_beltView (k : Calibration) (f : Face) (upper lower : SamplePair) (s : State) :
    beltView (calibrationReturn k f upper lower s) = beltView s := beltView_of (by simp)

@[simp] theorem calibrationTimeout_beltView (k : Calibration) (f : Face) (s : State) :
    beltView (calibrationTimeout k f s) = beltView s := beltView_of (by simp)

@[simp] theorem endSettle_beltView (s : State) : beltView (endSettle s) = beltView s := beltView_of (by simp)

@[simp] theorem enterLine_beltView (t : LineState) (s : State) :
    beltView (enterLine t s) = beltView s := beltView_of (by simp)

@[simp] theorem loseRecord_beltView (l : Letter) (s : State) : beltView (loseRecord s l) = beltView s := by
  simp only [loseRecord]; simp

@[simp] theorem loseAllRecords_beltView (s : State) : beltView (loseAllRecords s) = beltView s := by
  unfold loseAllRecords
  refine (clearMeasuring_beltView _).trans ((restGates_beltView _).trans ?_)
  exact foldl_keeps _ beltView _ (by intros; simp) _

@[simp] theorem settleFaulted_beltView (s : State) : beltView (settleFaulted s) = beltView s := beltView_of (by simp)

@[simp] theorem enterFaulted_beltView (cause : LineCause) (s : State) :
    beltView (enterFaulted cause s) = beltView s := by
  simp only [enterFaulted]; (repeat' split) <;> simp

@[simp] theorem jam_beltView (kind : JamKind) (eye : Eye) (letter : Option LetterId) (s : State) :
    beltView (jam kind eye letter s) = beltView s := by
  simp only [jam]; simp

@[simp] theorem enterRunning_beltView (s : State) : beltView (enterRunning s) = beltView s := rfl

@[simp] theorem checkStart_beltView (s : State) : beltView (checkStart s) = beltView s := by
  simp only [checkStart]; (repeat' split) <;> simp

@[simp] theorem startTimeout_beltView (s : State) : beltView (startTimeout s) = beltView s := by
  simp only [startTimeout]; (repeat' split) <;> simp

@[simp] theorem enterStopped_beltView (s : State) : beltView (enterStopped s) = beltView s := beltView_of (by simp)

@[simp] theorem endDrain_beltView (ms : Nat) (s : State) :
    beltView (endDrain ms s) = beltView s := beltView_of (by simp)

@[simp] theorem checkDrain_beltView (s : State) : beltView (checkDrain s) = beltView s := beltView_of (by simp)

@[simp] theorem resumeDrain_beltView (s : State) : beltView (resumeDrain s) = beltView s := beltView_of (by simp)

@[simp] theorem enterStopping_beltView (s : State) : beltView (enterStopping s) = beltView s := beltView_of (by simp)

@[simp] theorem drainTimeout_beltView (s : State) : beltView (drainTimeout s) = beltView s := by
  simp only [drainTimeout]; (repeat' split) <;> simp

@[simp] theorem stopFail_beltView (s : State) : beltView (stopFail s) = beltView s := by
  simp only [stopFail]; (repeat' split) <;> simp

@[simp] theorem startWake_beltView (s : State) : beltView (startWake s) = beltView s := beltView_of (by simp)

@[simp] theorem stopWake_beltView (s : State) : beltView (stopWake s) = beltView s := beltView_of (by simp)

@[simp] theorem completeWake_beltView (s : State) : beltView (completeWake s) = beltView s := beltView_of (by simp)

@[simp] theorem overrun_beltView (f : Face) (s : State) : beltView (overrun f s) = beltView s := beltView_of (by simp)

@[simp] theorem settleStep_beltView (c : Chan) (s : State) :
    beltView (settleStep c s) = beltView s := beltView_of (by simp)

@[simp] theorem blindIfFault_beltView (pos : Pos) (c : Chan) (s : State) :
    beltView (blindIfFault pos c s) = beltView s := beltView_of (by simp)

@[simp] theorem beginStep_beltView (pos : Pos) (s : State) :
    beltView (beginStep pos s) = beltView s := beltView_of (by simp)

@[simp] theorem makeFlash_beltView (pos : Pos) (s : State) : beltView (makeFlash pos s) = beltView s := by
  simp only [makeFlash, beginStep_beltView]
  exact (foldl_keeps _ beltView _ (by intros; simp) _).trans (by simp)

@[simp] theorem letterSample_beltView (c : Chan) (l : Letter) (pos : Pos) (x : SamplePair) (s : State) :
    beltView (letterSample c l pos x s) = beltView s := beltView_of (by simp)

@[simp] theorem takeSample_beltView (c : Chan) (pos : Pos) (x : SamplePair) (s : State) :
    beltView (takeSample c pos x s) = beltView s := by
  simp only [takeSample]; (repeat' split) <;> simp

@[simp] theorem travelReturn_beltView (f : Face) (upper lower : SamplePair) (s : State) :
    beltView (travelReturn f upper lower s) = beltView s := by
  simp only [travelReturn]; (repeat' split) <;> simp

@[simp] theorem sampleReturn_beltView (f : Face) (upper lower : SamplePair) (s : State) :
    beltView (sampleReturn f upper lower s) = beltView s := by
  simp only [sampleReturn]; (repeat' split) <;> simp

@[simp] theorem sampleTimeout_beltView (f : Face) (s : State) :
    beltView (sampleTimeout f s) = beltView s := beltView_of (by simp)

@[simp] theorem retire_beltView (l : Letter) (d : Disposition) (s : State) :
    beltView (retire l d s) = beltView s := by
  simp only [retire]; simp

@[simp] theorem markLong_beltView (id : LetterId) (s : State) : beltView (markLong id s) = beltView s := by
  simp only [markLong]; simp

@[simp] theorem reachLongPoint_beltView (s : State) : beltView (reachLongPoint s) = beltView s := by
  simp only [reachLongPoint]; (repeat' split) <;> simp

@[simp] theorem setLength_beltView (id : LetterId) (s : State) : beltView (setLength id s) = beltView s := rfl

@[simp] theorem completeIfPassed_beltView (id : LetterId) (s : State) :
    beltView (completeIfPassed id s) = beltView s := by
  simp only [completeIfPassed]; (repeat' split) <;> simp

@[simp] theorem measureLetter_beltView (l : Letter) (s : State) : beltView (measureLetter l s) = beltView s := by
  simp only [measureLetter]; (repeat' split) <;> simp

@[simp] theorem e0TrailingEdge_beltView (s : State) : beltView (e0TrailingEdge s) = beltView s := by
  simp only [e0TrailingEdge]; (repeat' split) <;> simp

@[simp] theorem reachBlockedPoint_beltView (s : State) : beltView (reachBlockedPoint s) = beltView s := by
  simp only [reachBlockedPoint]; (repeat' split) <;> simp

@[simp] theorem resynchronise_beltView (l : Letter) (s : State) : beltView (resynchronise l s) = beltView s := by
  simp only [resynchronise]; simp

@[simp] theorem arrive_beltView (l : Letter) (e : Eye) (s : State) : beltView (arrive l e s) = beltView s := by
  simp only [arrive]; (repeat' split) <;> simp

@[simp] theorem expire_beltView (l : Letter) (e : Eye) (s : State) : beltView (expire l e s) = beltView s := by
  simp only [expire]; (repeat' split) <;> simp

@[simp] theorem reachExpiry_beltView (id : LetterId) (e : Eye) (s : State) :
    beltView (reachExpiry id e s) = beltView s := by
  simp only [reachExpiry]; (repeat' split) <;> simp

@[simp] theorem expireWaiting_beltView (n : Nat) (e : Eye) (s : State) :
    beltView (expireWaiting n e s) = beltView s := by
  induction n generalizing s with
  | zero => rfl
  | succ n ih => simp only [expireWaiting]; (repeat' split) <;> simp [ih]

@[simp] theorem eyeLeadingEdge_beltView (e : Eye) (s : State) : beltView (eyeLeadingEdge e s) = beltView s := by
  simp only [eyeLeadingEdge]; (repeat' split) <;> simp

@[simp] theorem reachSetupPoint_beltView (id : LetterId) (g : GateId) (s : State) :
    beltView (reachSetupPoint id g s) = beltView s := by
  simp only [reachSetupPoint]; (repeat' split) <;> simp

@[simp] theorem decidePocket_beltView (l : Letter) (s : State) : beltView (decidePocket l s) = beltView s := by
  simp only [decidePocket]; (repeat' split) <;> simp

@[simp] theorem settlePrint_beltView (id : LetterId) (s : State) : beltView (settlePrint id s) = beltView s := by
  simp only [settlePrint]; (repeat' split) <;> simp

@[simp] theorem reachDecision_beltView (id : LetterId) (s : State) : beltView (reachDecision id s) = beltView s := by
  simp only [reachDecision]; (repeat' split) <;> simp

@[simp] theorem countBad_beltView (s : State) : beltView (countBad s) = beltView s := beltView_of (by simp)

@[simp] theorem refuseBusy_beltView (f : Frame) (s : State) :
    beltView (refuseBusy f s) = beltView s := beltView_of (by simp)

@[simp] theorem goodFrame_beltView (f : Frame) (s : State) :
    beltView (goodFrame f s) = beltView s := beltView_of (by simp)

@[simp] theorem receiveByte_beltView (x : Byte) (s : State) :
    beltView (receiveByte s x) = beltView s := beltView_of (by simp)

@[simp] theorem receive_beltView (cs : List (Option Byte)) (s : State) :
    beltView (receive cs s) = beltView s := beltView_of (by simp)

@[simp] theorem endSending_beltView (s : State) : beltView (endSending s) = beltView s := beltView_of (by simp)

@[simp] theorem receiveOver_beltView (overlap : Nat) (cs : List (Option Byte)) (s : State) :
    beltView (receiveOver overlap cs s) = beltView s := beltView_of (by simp)

@[simp] theorem framingError_beltView (s : State) : beltView (framingError s) = beltView s := beltView_of (by simp)

@[simp] theorem interByteTimeout_beltView (s : State) :
    beltView (interByteTimeout s) = beltView s := beltView_of (by simp)

@[simp] theorem dispatchUnknown_beltView (s : State) :
    beltView (dispatchUnknown s) = beltView s := beltView_of (by simp)

@[simp] theorem sendReply_beltView (s : State) : beltView (sendReply s) = beltView s := beltView_of (by simp)

@[simp] theorem sendNotice_beltView (s : State) : beltView (sendNotice s) = beltView s := beltView_of (by simp)

@[simp] theorem sendReport_beltView (s : State) : beltView (sendReport s) = beltView s := beltView_of (by simp)

@[simp] theorem clearEvents_beltView (named : EventSet) (s : State) :
    beltView (clearEvents named s) = beltView s := beltView_of (by simp)

@[simp] theorem updateChans_beltView (named : List Chan) (f : Channel → Channel) (s : State) :
    beltView (updateChans named f s) = beltView s := beltView_of (by simp)

@[simp] theorem pressSweep_beltView (k : PocketNo) (s : State) :
    beltView (pressSweep k s) = beltView s := beltView_of (by simp)

@[simp] theorem bringIn_beltView (k : PocketNo) (s : State) :
    beltView (bringIn k s) = beltView s := beltView_of (by simp)

@[simp] theorem enterStarting_beltView (s : State) : beltView (enterStarting s) = beltView s := beltView_of (by simp)

@[simp] theorem answerBehind_beltView (s : State) : beltView (answerBehind s) = beltView s := beltView_of (by simp)

@[simp] theorem refreshWake_beltView (s : State) : beltView (refreshWake s) = beltView s := beltView_of (by simp)

@[simp] theorem fieldEffects_beltView (n : Nat) (old : Profile) (s : State) :
    beltView (fieldEffects n old s) = beltView s := beltView_of (by simp)

@[simp] theorem takeFlash_beltView (s : State) : beltView (takeFlash s) = beltView s := by
  simp only [takeFlash]; (repeat' split) <;> simp

@[simp] theorem endWrite_beltView (a : Answer) (s : State) :
    beltView (endWrite a s) = beltView s := beltView_of (by simp)

@[simp] theorem writePage_beltView (p : Nat) (image : List Byte) (s : State) :
    beltView (writePage p image s) = beltView s := beltView_of (by simp)

@[simp] theorem storeNotBusy_beltView (s : State) : beltView (storeNotBusy s) = beltView s := beltView_of (by simp)

@[simp] theorem storePageDone_beltView (s : State) : beltView (storePageDone s) = beltView s := beltView_of (by simp)

@[simp] theorem storeWriteNoResponse_beltView (s : State) :
    beltView (storeWriteNoResponse s) = beltView s := beltView_of (by simp)

@[simp] theorem storeVerifyDone_beltView (readBack : List Byte) (s : State) :
    beltView (storeVerifyDone readBack s) = beltView s := beltView_of (by simp)

@[simp] theorem matchSensor_beltView (k : PocketNo) (s : State) : beltView (matchSensor s k) = beltView s := by
  unfold matchSensor; split <;> simp

@[simp] theorem beginPockets_beltView (s : State) : beltView (beginPockets s) = beltView s := beltView_of (by simp)

@[simp] theorem resumePockets_beltView (s : State) : beltView (resumePockets s) = beltView s := by
  unfold resumePockets
  refine (foldl_keeps _ beltView _ (by intros; simp) _).trans ((foldl_keeps _ beltView _ (by intros; simp) _).trans ?_)
  simp only [adoptClasses_beltView]
  exact foldl_keeps _ beltView _ (by intros; simp) _

@[simp] theorem endLoading_beltView (p : Profile) (r : LoadResult) (s : State) :
    beltView (endLoading p r s) = beltView s := by
  simp only [endLoading]; (repeat' split) <;> simp

@[simp] theorem endLoad_beltView (image : List Byte) (s : State) : beltView (endLoad image s) = beltView s := by
  simp only [endLoad]; (repeat' split) <;> simp

@[simp] theorem loadNoResponse_beltView (s : State) : beltView (loadNoResponse s) = beltView s := by
  simp only [loadNoResponse]; (repeat' split) <;> simp

/-! ### The pending events -/

theorem foldl_pending {α : Type} {ev : EventKind} (f : State → α → State) (l : List α)
    (h : ∀ s a, EventSet.has s.lki.events ev = true → EventSet.has (f s a).lki.events ev = true) (s : State)
    (hs : EventSet.has s.lki.events ev = true) : EventSet.has (l.foldl f s).lki.events ev = true := by
  induction l generalizing s with
  | nil => exact hs
  | cons a l ih => exact ih _ (h s a hs)

@[simp] theorem raise_pending (k : EventKind) (s : State) {ev : EventKind} (hev :
    EventSet.has s.lki.events ev = true) :
    EventSet.has (raise k s).lki.events ev = true := by
  rw [raise_has, hev, Bool.true_or]

@[simp] theorem has_or (a b : EventSet) (k : EventKind) :
    EventSet.has (a ||| b) k = (EventSet.has a k || EventSet.has b k) := by
  simp [EventSet.has]

@[simp] theorem setHold_pending (h : HoldSet) (s : State)
    {ev : EventKind} (hev : EventSet.has s.lki.events ev = true) :
    EventSet.has (setHold h s).lki.events ev = true := by
  rw [setHold_has, hev, Bool.true_or]

@[simp] theorem refreshListHigh_pending (s : State) {ev : EventKind} (hev : EventSet.has s.lki.events ev = true) :
    EventSet.has (refreshListHigh s).lki.events ev = true := by
  simp only [refreshListHigh]; simp [hev]

@[simp] theorem refreshCatchFull_pending (s : State) {ev : EventKind} (hev : EventSet.has s.lki.events ev = true) :
    EventSet.has (refreshCatchFull s).lki.events ev = true := by
  simp only [refreshCatchFull]; simp [hev]

@[simp] theorem applyHeadDown_pending (s : State) {ev : EventKind} (hev : EventSet.has s.lki.events ev = true) :
    EventSet.has (applyHeadDown s).lki.events ev = true := by
  simp only [applyHeadDown]; simp [hev]

@[simp] theorem refreshHeadDown_pending (s : State) {ev : EventKind} (hev : EventSet.has s.lki.events ev = true) :
    EventSet.has (refreshHeadDown s).lki.events ev = true := by
  simp only [refreshHeadDown]; (repeat' split) <;> simp [hev]

@[simp] theorem closeTray_pending (k : PocketNo) (s : State)
    {ev : EventKind} (hev : EventSet.has s.lki.events ev = true) :
    EventSet.has (closeTray k s).lki.events ev = true := by
  simp only [closeTray]; simp [hev]

@[simp] theorem settleDraining_pending (k : PocketNo) (s : State)
    {ev : EventKind} (hev : EventSet.has s.lki.events ev = true) :
    EventSet.has (settleDraining k s).lki.events ev = true := by
  simp only [settleDraining]; (repeat' split) <;> simp [hev]

@[simp] theorem beginDraining_pending (k : PocketNo) (reason : CloseReason) (s : State)
    {ev : EventKind} (hev : EventSet.has s.lki.events ev = true) :
    EventSet.has (beginDraining k reason s).lki.events ev = true := by
  simp only [beginDraining]; simp [hev]

@[simp] theorem becomeFull_pending (k : PocketNo) (s : State)
    {ev : EventKind} (hev : EventSet.has s.lki.events ev = true) :
    EventSet.has (becomeFull k s).lki.events ev = true := by
  simp only [becomeFull]; (repeat' split) <;> simp [hev]

@[simp] theorem assignPocket_pending (k : PocketNo) (s : State)
    {ev : EventKind} (hev : EventSet.has s.lki.events ev = true) :
    EventSet.has (assignPocket k s).lki.events ev = true := by
  simp only [assignPocket]; simp [hev]

@[simp] theorem countDelivery_pending (l : Letter) (k : PocketNo) (s : State)
    {ev : EventKind} (hev : EventSet.has s.lki.events ev = true) :
    EventSet.has (countDelivery l k s).lki.events ev = true := by
  simp only [countDelivery]; (repeat' split) <;> simp (maxDischargeDepth := 9) [hev]

@[simp] theorem countLoss_pending (l : Letter) (t : Tally) (s : State)
    {ev : EventKind} (hev : EventSet.has s.lki.events ev = true) :
    EventSet.has (countLoss l t s).lki.events ev = true := by
  simp only [countLoss]; (repeat' split) <;> simp [hev]

@[simp] theorem countRemoval_pending (l : Letter) (d : Disposition) (s : State)
    {ev : EventKind} (hev : EventSet.has s.lki.events ev = true) :
    EventSet.has (countRemoval l d s).lki.events ev = true := by
  simp only [countRemoval]; (repeat' split) <;> simp [hev]

@[simp] theorem pullLetter_pending (k : PocketNo) (l : Letter) (s : State)
    {ev : EventKind} (hev : EventSet.has s.lki.events ev = true) :
    EventSet.has (pullLetter k l s).lki.events ev = true := by
  simp only [pullLetter]; (repeat' split) <;> simp [hev]

@[simp] theorem pull_pending (k : PocketNo) (s : State) {ev : EventKind} (hev : EventSet.has s.lki.events ev = true) :
    EventSet.has (pull k s).lki.events ev = true := by
  simp only [pull]
  refine refreshCatchFull_pending _ (foldl_pending _ _ (by intros; simp [*]) _ ?_)
  refine raise_pending _ _ ?_
  simp only [updatePocket_frame]
  (repeat' split) <;> simp [hev]

@[simp] theorem takeRemoval_pending (k : PocketNo) (s : State)
    {ev : EventKind} (hev : EventSet.has s.lki.events ev = true) :
    EventSet.has (takeRemoval k s).lki.events ev = true := by
  simp only [takeRemoval]; (repeat' split) <;> simp [hev]

@[simp] theorem takeInsertion_pending (k : PocketNo) (s : State)
    {ev : EventKind} (hev : EventSet.has s.lki.events ev = true) :
    EventSet.has (takeInsertion k s).lki.events ev = true := by
  simp only [takeInsertion]; (repeat' split) <;> simp [hev]

@[simp] theorem applyLimit_pending (k : PocketNo) (s : State)
    {ev : EventKind} (hev : EventSet.has s.lki.events ev = true) :
    EventSet.has (applyLimit k s).lki.events ev = true := by
  simp only [applyLimit]; (repeat' split) <;> simp [hev]

@[simp] theorem queueReport_pending (r : LetterReport) (s : State)
    {ev : EventKind} (hev : EventSet.has s.lki.events ev = true) :
    EventSet.has (queueReport r s).lki.events ev = true := by
  simp only [queueReport]; (repeat' split) <;> simp [hev]

@[simp] theorem reportRemoval_pending (l : Letter) (d : Disposition) (s : State)
    {ev : EventKind} (hev : EventSet.has s.lki.events ev = true) :
    EventSet.has (reportRemoval l d s).lki.events ev = true := by
  simp only [reportRemoval]; (repeat' split) <;> simp [hev]

@[simp] theorem removeRecord_pending (l : Letter) (d : Disposition) (s : State)
    {ev : EventKind} (hev : EventSet.has s.lki.events ev = true) :
    EventSet.has (removeRecord l d s).lki.events ev = true := by
  simp only [removeRecord]; simp (maxDischargeDepth := 9) [hev]

@[simp] theorem startPrint_pending (h : Head) (l : Letter) (x : PrintPart) (s : State)
    {ev : EventKind} (hev : EventSet.has s.lki.events ev = true) :
    EventSet.has (startPrint h l x s).lki.events ev = true := by
  simp only [startPrint]; (repeat' split) <;> simp [hev]

@[simp] theorem takeFireStart_pending (h : Head) (l : Letter) (x : PrintPart) (s : State)
    {ev : EventKind} (hev : EventSet.has s.lki.events ev = true) :
    EventSet.has (takeFireStart h l x s).lki.events ev = true := by
  simp only [takeFireStart]; (repeat' split) <;> simp [hev]

@[simp] theorem reachFireStart_pending (h : Head) (s : State)
    {ev : EventKind} (hev : EventSet.has s.lki.events ev = true) :
    EventSet.has (reachFireStart h s).lki.events ev = true := by
  simp only [reachFireStart]; (repeat' split) <;> simp [hev]

@[simp] theorem faultHead_pending (h : Head) (s : State)
    {ev : EventKind} (hev : EventSet.has s.lki.events ev = true) :
    EventSet.has (faultHead h s).lki.events ev = true := by
  simp only [faultHead]; (repeat' split) <;> simp [hev]

@[simp] theorem reachRecoveryEnd_pending (h : Head) (s : State)
    {ev : EventKind} (hev : EventSet.has s.lki.events ev = true) :
    EventSet.has (reachRecoveryEnd h s).lki.events ev = true := by
  simp only [reachRecoveryEnd]; (repeat' split) <;> simp [hev]

@[simp] theorem settleHeads_pending (s : State) {ev : EventKind} (hev : EventSet.has s.lki.events ev = true) :
    EventSet.has (settleHeads s).lki.events ev = true := by
  simp only [settleHeads]; simp [hev]

@[simp] theorem darkSample_pending (c : Chan) (x : SamplePair) (s : State)
    {ev : EventKind} (hev : EventSet.has s.lki.events ev = true) :
    EventSet.has (darkSample c x s).lki.events ev = true := by
  simp only [darkSample]; (repeat' split) <;> simp [hev]

@[simp] theorem faultFace_pending (f : Face) (cause : FaultCause) (s : State)
    {ev : EventKind} (hev : EventSet.has s.lki.events ev = true) :
    EventSet.has (faultFace f cause s).lki.events ev = true := by
  simp only [faultFace]; simp [hev]

@[simp] theorem failFace_pending (f : Face) (cause : FaultCause) (s : State)
    {ev : EventKind} (hev : EventSet.has s.lki.events ev = true) :
    EventSet.has (failFace f cause s).lki.events ev = true := by
  simp only [failFace]; (repeat' split) <;> simp [hev]

@[simp] theorem handToPockets_pending (l : Letter) (r : Route) (s : State)
    {ev : EventKind} (hev : EventSet.has s.lki.events ev = true) :
    EventSet.has (handToPockets l r s).lki.events ev = true := by
  simp only [handToPockets]; (repeat' split) <;> simp [hev]

@[simp] theorem writeVerdict_pending (l : Letter) (v : Verdict) (s : State)
    {ev : EventKind} (hev : EventSet.has s.lki.events ev = true) :
    EventSet.has (writeVerdict l v s).lki.events ev = true := by
  simp only [writeVerdict]; (repeat' split) <;> simp [hev]

@[simp] theorem judgeLetter_pending (l : Letter) (s : State)
    {ev : EventKind} (hev : EventSet.has s.lki.events ev = true) :
    EventSet.has (judgeLetter l s).lki.events ev = true := by
  simp only [judgeLetter]; simp [hev]

@[simp] theorem evaluate_pending (id : LetterId) (s : State)
    {ev : EventKind} (hev : EventSet.has s.lki.events ev = true) :
    EventSet.has (evaluate id s).lki.events ev = true := by
  simp only [evaluate]; (repeat' split) <;> simp [hev]

@[simp] theorem endHold_pending (close : Bool) (s : State)
    {ev : EventKind} (hev : EventSet.has s.lki.events ev = true) :
    EventSet.has (endHold close s).lki.events ev = true := by
  simp only [endHold]; (repeat' split) <;> simp [hev]

@[simp] theorem reachPairPoint_pending (s : State) {ev : EventKind} (hev : EventSet.has s.lki.events ev = true) :
    EventSet.has (reachPairPoint s).lki.events ev = true := by
  simp only [reachPairPoint]; (repeat' split) <;> simp [hev]

@[simp] theorem reachVerdictLimit_pending (s : State) {ev : EventKind} (hev : EventSet.has s.lki.events ev = true) :
    EventSet.has (reachVerdictLimit s).lki.events ev = true := by
  simp only [reachVerdictLimit]; (repeat' split) <;> simp [hev]

@[simp] theorem completeScan_pending (id : LetterId) (s : State)
    {ev : EventKind} (hev : EventSet.has s.lki.events ev = true) :
    EventSet.has (completeScan id s).lki.events ev = true := by
  simp only [completeScan]; (repeat' split) <;> simp [hev]

@[simp] theorem endCalibration_pending (k : Calibration) (s : State)
    {ev : EventKind} (hev : EventSet.has s.lki.events ev = true) :
    EventSet.has (endCalibration k s).lki.events ev = true := by
  simp only [endCalibration]; simp [hev]

@[simp] theorem abandonCalibration_pending (s : State) {ev : EventKind} (hev : EventSet.has s.lki.events ev = true) :
    EventSet.has (abandonCalibration s).lki.events ev = true := by
  simp only [abandonCalibration]; (repeat' split) <;> simp [hev]

@[simp] theorem endPhase_pending (s : State) {ev : EventKind} (hev : EventSet.has s.lki.events ev = true) :
    EventSet.has (endPhase s).lki.events ev = true := by
  simp only [endPhase]
  split
  · exact hev
  · split
    · split
      · split
        · exact hev
        · exact hev
      · exact hev
      · split
        · simpa [endReference, endCalibration, leaveCalibration] using hev
        · exact hev
    · exact hev

@[simp] theorem calibrationReturn_pending (k : Calibration) (f : Face) (upper lower : SamplePair) (s : State)
    {ev : EventKind} (hev : EventSet.has s.lki.events ev = true) :
    EventSet.has (calibrationReturn k f upper lower s).lki.events ev = true := by
  simp only [calibrationReturn]; (repeat' split) <;> simp [hev]

@[simp] theorem calibrationTimeout_pending (k : Calibration) (f : Face) (s : State)
    {ev : EventKind} (hev : EventSet.has s.lki.events ev = true) :
    EventSet.has (calibrationTimeout k f s).lki.events ev = true := by
  simp only [calibrationTimeout]; (repeat' split) <;> simp [hev]

@[simp] theorem enterLine_pending (t : LineState) (s : State)
    {ev : EventKind} (hev : EventSet.has s.lki.events ev = true) :
    EventSet.has (enterLine t s).lki.events ev = true := by
  simp only [enterLine]; simp [hev]

@[simp] theorem loseRecord_pending (l : Letter) (s : State)
    {ev : EventKind} (hev : EventSet.has s.lki.events ev = true) :
    EventSet.has (loseRecord s l).lki.events ev = true := by
  simp only [loseRecord]; simp (maxDischargeDepth := 9) [hev]

@[simp] theorem loseAllRecords_pending (s : State) {ev : EventKind} (hev : EventSet.has s.lki.events ev = true) :
    EventSet.has (loseAllRecords s).lki.events ev = true := by
  simp only [loseAllRecords, clearMeasuring_frame, restGates_frame]
  exact foldl_pending _ _ (fun s l h => loseRecord_pending l s h) _ hev

@[simp] theorem settleFaulted_pending (s : State) {ev : EventKind} (hev : EventSet.has s.lki.events ev = true) :
    EventSet.has (settleFaulted s).lki.events ev = true := by
  simp only [settleFaulted]; simp [hev]

@[simp] theorem enterFaulted_pending (cause : LineCause) (s : State)
    {ev : EventKind} (hev : EventSet.has s.lki.events ev = true) :
    EventSet.has (enterFaulted cause s).lki.events ev = true := by
  simp only [enterFaulted]; (repeat' split) <;> simp (maxDischargeDepth := 9) [hev]

@[simp] theorem jam_pending (kind : JamKind) (eye : Eye) (letter : Option LetterId) (s : State)
    {ev : EventKind} (hev : EventSet.has s.lki.events ev = true) :
    EventSet.has (jam kind eye letter s).lki.events ev = true := by
  simp only [jam]; simp [hev]

@[simp] theorem enterRunning_pending (s : State) {ev : EventKind} (hev : EventSet.has s.lki.events ev = true) :
    EventSet.has (enterRunning s).lki.events ev = true := by
  simp only [enterRunning]; simp [hev]

@[simp] theorem checkStart_pending (s : State) {ev : EventKind} (hev : EventSet.has s.lki.events ev = true) :
    EventSet.has (checkStart s).lki.events ev = true := by
  simp only [checkStart]; (repeat' split) <;> simp [hev]

@[simp] theorem startTimeout_pending (s : State) {ev : EventKind} (hev : EventSet.has s.lki.events ev = true) :
    EventSet.has (startTimeout s).lki.events ev = true := by
  simp only [startTimeout]; (repeat' split) <;> simp [hev]

@[simp] theorem enterStopped_pending (s : State) {ev : EventKind} (hev : EventSet.has s.lki.events ev = true) :
    EventSet.has (enterStopped s).lki.events ev = true := by
  simp only [enterStopped]; simp [hev]

@[simp] theorem endDrain_pending (ms : Nat) (s : State) {ev : EventKind} (hev : EventSet.has s.lki.events ev = true) :
    EventSet.has (endDrain ms s).lki.events ev = true := by
  simp only [endDrain]; (repeat' split) <;> simp [hev]

@[simp] theorem checkDrain_pending (s : State) {ev : EventKind} (hev : EventSet.has s.lki.events ev = true) :
    EventSet.has (checkDrain s).lki.events ev = true := by
  simp only [checkDrain]; (repeat' split) <;> simp [hev]

@[simp] theorem enterStopping_pending (s : State) {ev : EventKind} (hev : EventSet.has s.lki.events ev = true) :
    EventSet.has (enterStopping s).lki.events ev = true := by
  simp only [enterStopping]; simp [hev]

@[simp] theorem drainTimeout_pending (s : State) {ev : EventKind} (hev : EventSet.has s.lki.events ev = true) :
    EventSet.has (drainTimeout s).lki.events ev = true := by
  simp only [drainTimeout]; (repeat' split) <;> simp [hev]

@[simp] theorem stopFail_pending (s : State) {ev : EventKind} (hev : EventSet.has s.lki.events ev = true) :
    EventSet.has (stopFail s).lki.events ev = true := by
  simp only [stopFail]; (repeat' split) <;> simp [hev]

@[simp] theorem beltStill_pending (s : State) {ev : EventKind} (hev : EventSet.has s.lki.events ev = true) :
    EventSet.has (beltStill s).lki.events ev = true := by
  simp only [beltStill]; (repeat' split) <;> simp [hev]

@[simp] theorem superviseSpeed_pending (s : State) {ev : EventKind} (hev : EventSet.has s.lki.events ev = true) :
    EventSet.has (superviseSpeed s).lki.events ev = true := by
  simp only [superviseSpeed]; (repeat' split) <;> simp [hev]

@[simp] theorem endWindow_pending (s : State) {ev : EventKind} (hev : EventSet.has s.lki.events ev = true) :
    EventSet.has (endWindow s).lki.events ev = true := by
  simp only [endWindow]; simp [hev]

@[simp] theorem completeWake_pending (s : State) {ev : EventKind} (hev : EventSet.has s.lki.events ev = true) :
    EventSet.has (completeWake s).lki.events ev = true := by
  simp only [completeWake]; (repeat' split) <;> simp [hev]

@[simp] theorem overrun_pending (f : Face) (s : State) {ev : EventKind} (hev : EventSet.has s.lki.events ev = true) :
    EventSet.has (overrun f s).lki.events ev = true := by
  simp only [overrun]; (repeat' split) <;> simp [hev]

@[simp] theorem makeFlash_pending (pos : Pos) (s : State)
    {ev : EventKind} (hev : EventSet.has s.lki.events ev = true) :
    EventSet.has (makeFlash pos s).lki.events ev = true := by
  simp only [makeFlash, beginStep_frame]
  exact foldl_pending _ _ (fun s l h => completeScan_pending l s h) _ (by simp [hev])

@[simp] theorem takeSample_pending (c : Chan) (pos : Pos) (x : SamplePair) (s : State)
    {ev : EventKind} (hev : EventSet.has s.lki.events ev = true) :
    EventSet.has (takeSample c pos x s).lki.events ev = true := by
  simp only [takeSample]; (repeat' split) <;> simp [hev]

@[simp] theorem travelReturn_pending (f : Face) (upper lower : SamplePair) (s : State)
    {ev : EventKind} (hev : EventSet.has s.lki.events ev = true) :
    EventSet.has (travelReturn f upper lower s).lki.events ev = true := by
  simp only [travelReturn]; (repeat' split) <;> simp [hev]

@[simp] theorem sampleReturn_pending (f : Face) (upper lower : SamplePair) (s : State)
    {ev : EventKind} (hev : EventSet.has s.lki.events ev = true) :
    EventSet.has (sampleReturn f upper lower s).lki.events ev = true := by
  simp only [sampleReturn]; (repeat' split) <;> simp [hev]

@[simp] theorem sampleTimeout_pending (f : Face) (s : State)
    {ev : EventKind} (hev : EventSet.has s.lki.events ev = true) :
    EventSet.has (sampleTimeout f s).lki.events ev = true := by
  simp only [sampleTimeout]; (repeat' split) <;> simp [hev]

@[simp] theorem retire_pending (l : Letter) (d : Disposition) (s : State)
    {ev : EventKind} (hev : EventSet.has s.lki.events ev = true) :
    EventSet.has (retire l d s).lki.events ev = true := by
  simp only [retire]; simp [hev]

@[simp] theorem induct_pending (s : State) {ev : EventKind} (hev : EventSet.has s.lki.events ev = true) :
    EventSet.has (induct s).lki.events ev = true := by
  simp only [induct]; simp [hev]

@[simp] theorem e0LeadingEdge_pending (s : State) {ev : EventKind} (hev : EventSet.has s.lki.events ev = true) :
    EventSet.has (e0LeadingEdge s).lki.events ev = true := by
  simp only [e0LeadingEdge]; (repeat' split) <;> simp [hev]

@[simp] theorem markLong_pending (id : LetterId) (s : State)
    {ev : EventKind} (hev : EventSet.has s.lki.events ev = true) :
    EventSet.has (markLong id s).lki.events ev = true := by
  simp only [markLong]; simp [hev]

@[simp] theorem reachLongPoint_pending (s : State) {ev : EventKind} (hev : EventSet.has s.lki.events ev = true) :
    EventSet.has (reachLongPoint s).lki.events ev = true := by
  simp only [reachLongPoint]; (repeat' split) <;> simp [hev]

@[simp] theorem completeIfPassed_pending (id : LetterId) (s : State)
    {ev : EventKind} (hev : EventSet.has s.lki.events ev = true) :
    EventSet.has (completeIfPassed id s).lki.events ev = true := by
  simp only [completeIfPassed]; (repeat' split) <;> simp [hev]

@[simp] theorem measureLetter_pending (l : Letter) (s : State)
    {ev : EventKind} (hev : EventSet.has s.lki.events ev = true) :
    EventSet.has (measureLetter l s).lki.events ev = true := by
  simp only [measureLetter]; (repeat' split) <;> simp [hev]

@[simp] theorem e0TrailingEdge_pending (s : State) {ev : EventKind} (hev : EventSet.has s.lki.events ev = true) :
    EventSet.has (e0TrailingEdge s).lki.events ev = true := by
  simp only [e0TrailingEdge]; (repeat' split) <;> simp [hev]

@[simp] theorem reachBlockedPoint_pending (s : State) {ev : EventKind} (hev : EventSet.has s.lki.events ev = true) :
    EventSet.has (reachBlockedPoint s).lki.events ev = true := by
  simp only [reachBlockedPoint]; (repeat' split) <;> simp [hev]

@[simp] theorem arrive_pending (l : Letter) (e : Eye) (s : State)
    {ev : EventKind} (hev : EventSet.has s.lki.events ev = true) :
    EventSet.has (arrive l e s).lki.events ev = true := by
  simp only [arrive]; (repeat' split) <;> simp [hev]

@[simp] theorem expire_pending (l : Letter) (e : Eye) (s : State)
    {ev : EventKind} (hev : EventSet.has s.lki.events ev = true) :
    EventSet.has (expire l e s).lki.events ev = true := by
  simp only [expire]; (repeat' split) <;> simp [hev]

@[simp] theorem reachExpiry_pending (id : LetterId) (e : Eye) (s : State)
    {ev : EventKind} (hev : EventSet.has s.lki.events ev = true) :
    EventSet.has (reachExpiry id e s).lki.events ev = true := by
  simp only [reachExpiry]; (repeat' split) <;> simp [hev]

@[simp] theorem expireWaiting_pending (n : Nat) (e : Eye) (s : State)
    {ev : EventKind} (hev : EventSet.has s.lki.events ev = true) :
    EventSet.has (expireWaiting n e s).lki.events ev = true := by
  induction n generalizing s with
  | zero => exact hev
  | succ n ih =>
    simp only [expireWaiting]
    (repeat' split)
    · exact ih _ (by simp [hev])
    · exact hev
    · exact hev

@[simp] theorem eyeLeadingEdge_pending (e : Eye) (s : State)
    {ev : EventKind} (hev : EventSet.has s.lki.events ev = true) :
    EventSet.has (eyeLeadingEdge e s).lki.events ev = true := by
  simp only [eyeLeadingEdge]; (repeat' split) <;> simp [hev]

@[simp] theorem decidePocket_pending (l : Letter) (s : State)
    {ev : EventKind} (hev : EventSet.has s.lki.events ev = true) :
    EventSet.has (decidePocket l s).lki.events ev = true := by
  simp only [decidePocket]; (repeat' split) <;> simp [hev]

@[simp] theorem reachDecision_pending (id : LetterId) (s : State)
    {ev : EventKind} (hev : EventSet.has s.lki.events ev = true) :
    EventSet.has (reachDecision id s).lki.events ev = true := by
  simp only [reachDecision]; (repeat' split) <;> simp [hev]

@[simp] theorem countBad_pending (s : State) {ev : EventKind} (hev : EventSet.has s.lki.events ev = true) :
    EventSet.has (countBad s).lki.events ev = true := by
  simp only [countBad]; simp [hev]

@[simp] theorem refuseBusy_pending (f : Frame) (s : State)
    {ev : EventKind} (hev : EventSet.has s.lki.events ev = true) :
    EventSet.has (refuseBusy f s).lki.events ev = true := by
  simp only [refuseBusy]; (repeat' split) <;> simp [hev]

@[simp] theorem goodFrame_pending (f : Frame) (s : State)
    {ev : EventKind} (hev : EventSet.has s.lki.events ev = true) :
    EventSet.has (goodFrame f s).lki.events ev = true := by
  simp only [goodFrame]; (repeat' split) <;> simp [hev]

@[simp] theorem receiveByte_pending (x : Byte) (s : State)
    {ev : EventKind} (hev : EventSet.has s.lki.events ev = true) :
    EventSet.has (receiveByte s x).lki.events ev = true := by
  simp only [receiveByte]; (repeat' split) <;> simp [hev]

@[simp] theorem framingError_pending (s : State) {ev : EventKind} (hev : EventSet.has s.lki.events ev = true) :
    EventSet.has (framingError s).lki.events ev = true := by
  simp only [framingError]; (repeat' split) <;> simp [hev]

theorem receiveChar_pending (s : State) (c : Option Byte) {ev : EventKind} (hev : EventSet.has s.lki.events ev = true) :
    EventSet.has (receiveChar s c).lki.events ev = true := by
  cases c <;> simp [receiveChar, hev]

@[simp] theorem receive_pending (cs : List (Option Byte)) (s : State) {ev : EventKind}
    (hev : EventSet.has s.lki.events ev = true) : EventSet.has (receive cs s).lki.events ev = true := by
  exact foldl_pending _ _ (fun s c h => receiveChar_pending s c h) _ hev

@[simp] theorem endSending_pending (s : State) {ev : EventKind} (hev : EventSet.has s.lki.events ev = true) :
    EventSet.has (endSending s).lki.events ev = true := hev

@[simp] theorem receiveOver_pending (overlap : Nat) (cs : List (Option Byte)) (s : State) {ev : EventKind}
    (hev : EventSet.has s.lki.events ev = true) : EventSet.has (receiveOver overlap cs s).lki.events ev = true := by
  simp only [receiveOver, receiveSending]
  (repeat' split) <;> first
    | exact hev
    | exact receive_pending _ _ hev
    | exact receive_pending _ _ (endSending_pending _ (receive_pending _ _ hev))

@[simp] theorem interByteTimeout_pending (s : State) {ev : EventKind} (hev : EventSet.has s.lki.events ev = true) :
    EventSet.has (interByteTimeout s).lki.events ev = true := by
  simp only [interByteTimeout]; (repeat' split) <;> simp [hev]

@[simp] theorem dispatchUnknown_pending (s : State) {ev : EventKind} (hev : EventSet.has s.lki.events ev = true) :
    EventSet.has (dispatchUnknown s).lki.events ev = true := by
  simp only [dispatchUnknown]; (repeat' split) <;> simp [hev]

@[simp] theorem sendReply_pending (s : State) {ev : EventKind} (hev : EventSet.has s.lki.events ev = true) :
    EventSet.has (sendReply s).lki.events ev = true := by
  simp only [sendReply]; (repeat' split) <;> simp [hev]

@[simp] theorem sendNotice_pending (s : State) {ev : EventKind} (hev : EventSet.has s.lki.events ev = true) :
    EventSet.has (sendNotice s).lki.events ev = true := by
  simp only [sendNotice]; (repeat' split) <;> simp [hev]

@[simp] theorem sendReport_pending (s : State) {ev : EventKind} (hev : EventSet.has s.lki.events ev = true) :
    EventSet.has (sendReport s).lki.events ev = true := by
  simp only [sendReport]; (repeat' split) <;> simp [hev]

@[simp] theorem pressSweep_pending (k : PocketNo) (s : State)
    {ev : EventKind} (hev : EventSet.has s.lki.events ev = true) :
    EventSet.has (pressSweep k s).lki.events ev = true := by
  simp only [pressSweep]; (repeat' split) <;> simp [hev]

@[simp] theorem bringIn_pending (k : PocketNo) (s : State)
    {ev : EventKind} (hev : EventSet.has s.lki.events ev = true) :
    EventSet.has (bringIn k s).lki.events ev = true := by
  simp only [bringIn]; (repeat' split) <;> simp [hev]

@[simp] theorem enterStarting_pending (s : State) {ev : EventKind} (hev : EventSet.has s.lki.events ev = true) :
    EventSet.has (enterStarting s).lki.events ev = true := by
  simp only [enterStarting]; simp [hev]

@[simp] theorem answerBehind_pending (s : State) {ev : EventKind} (hev : EventSet.has s.lki.events ev = true) :
    EventSet.has (answerBehind s).lki.events ev = true := by
  simp only [answerBehind]
  split
  · exact foldl_pending _ _ (fun s r h => by simpa using h) _ (by simpa [updateLink] using hev)
  · exact hev

@[simp] theorem fieldEffects_pending (n : Nat) (old : Profile) (s : State)
    {ev : EventKind} (hev : EventSet.has s.lki.events ev = true) :
    EventSet.has (fieldEffects n old s).lki.events ev = true := by
  simp only [fieldEffects]; (repeat' split) <;> simp [hev]

@[simp] theorem takeFlash_pending (s : State) {ev : EventKind} (hev : EventSet.has s.lki.events ev = true) :
    EventSet.has (takeFlash s).lki.events ev = true := by
  simp only [takeFlash]; (repeat' split) <;> simp [hev]

@[simp] theorem endWrite_pending (a : Answer) (s : State)
    {ev : EventKind} (hev : EventSet.has s.lki.events ev = true) :
    EventSet.has (endWrite a s).lki.events ev = true := by
  simp only [endWrite]; simp [hev]

@[simp] theorem storeWriteNoResponse_pending (s : State)
    {ev : EventKind} (hev : EventSet.has s.lki.events ev = true) :
    EventSet.has (storeWriteNoResponse s).lki.events ev = true := by
  simp only [storeWriteNoResponse]; (repeat' split) <;> simp [hev]

@[simp] theorem storeVerifyDone_pending (readBack : List Byte) (s : State)
    {ev : EventKind} (hev : EventSet.has s.lki.events ev = true) :
    EventSet.has (storeVerifyDone readBack s).lki.events ev = true := by
  simp only [storeVerifyDone]; (repeat' split) <;> simp [hev]

@[simp] theorem matchSensor_pending (k : PocketNo) (s : State)
    {ev : EventKind} (hev : EventSet.has s.lki.events ev = true) :
    EventSet.has (matchSensor s k).lki.events ev = true := by
  simp only [matchSensor]; (repeat' split) <;> simp [hev]

@[simp] theorem resumePockets_pending (s : State) {ev : EventKind} (hev : EventSet.has s.lki.events ev = true) :
    EventSet.has (resumePockets s).lki.events ev = true := by
  simp only [resumePockets]
  exact foldl_pending _ _ (fun s l h => applyLimit_pending l s h) _ (foldl_pending _ _ (fun s l h => by simp [h]) _
    (by simp only [adoptClasses_frame]; exact foldl_pending _ _ (fun s l h => matchSensor_pending l s h) _ hev))

@[simp] theorem endLoading_pending (p : Profile) (r : LoadResult) (s : State)
    {ev : EventKind} (hev : EventSet.has s.lki.events ev = true) :
    EventSet.has (endLoading p r s).lki.events ev = true := by
  simp only [endLoading]; (repeat' split) <;> simp (maxDischargeDepth := 9) [hev]

@[simp] theorem endLoad_pending (image : List Byte) (s : State)
    {ev : EventKind} (hev : EventSet.has s.lki.events ev = true) :
    EventSet.has (endLoad image s).lki.events ev = true := by
  simp only [endLoad]; (repeat' split) <;> simp [hev]

@[simp] theorem loadNoResponse_pending (s : State) {ev : EventKind} (hev : EventSet.has s.lki.events ev = true) :
    EventSet.has (loadNoResponse s).lki.events ev = true := by
  simp only [loadNoResponse]; (repeat' split) <;> simp [hev]

end Sys2Proof.Machine
end

