-- ==== Sys2Proof/Laws/Faulted.lean ====
section
/-! SUPPORT. What an entry to FAULTED does, said once: the parts of the entry, the records lost at it with their counts,
trays and reports, and the whole of it. -/

namespace Sys2Proof.Machine

/-! ### The parts of the entry (R28, R115, R160, R161) -/

theorem loseRecord_letters (s : State) (l : Letter) :
    (loseRecord s l).trk.letters = s.trk.letters.filter (·.id != l.id) := by
  have h : (loseRecord s l).trk = (dropRecord l s).trk := by simp [loseRecord]
  rw [h, dropRecord]

/-- Losing every record of a list leaves only records of other letters. -/
theorem foldl_loseRecord_letters (ls : List Letter) (s : State) :
    (ls.foldl loseRecord s).trk.letters = s.trk.letters.filter fun x => ls.all fun l => x.id != l.id := by
  induction ls generalizing s with
  | nil => simp
  | cons l ls ih => simp [ih, loseRecord_letters, List.filter_filter, Bool.and_comm]

theorem loseAllRecords_letters (s : State) : (loseAllRecords s).trk.letters = [] := by
  have h : (loseAllRecords s).trk.letters = (s.trk.letters.foldl loseRecord s).trk.letters := by simp [loseAllRecords]
  rw [h, foldl_loseRecord_letters, List.filter_eq_nil_iff]
  intro x hx
  simpa using ⟨x, hx, rfl⟩

theorem loseAllRecords_lastTe (s : State) : (loseAllRecords s).trk.lastTe = s.trk.lastTe := by
  have h : (loseAllRecords s).trk.lastTe = (s.trk.letters.foldl loseRecord s).trk.lastTe := by simp [loseAllRecords]
  rw [h]
  refine foldl_keeps loseRecord (fun u => u.trk.lastTe) _ (fun u l => ?_) s
  have h : (loseRecord u l).trk = (dropRecord l u).trk := by simp [loseRecord]
  rw [h, dropRecord]

theorem abandonCalibration_lch (s : State) (ho : s.lch.outstanding = .all false) :
    (abandonCalibration s).lch.outstanding = .all false ∧ (abandonCalibration s).lch.flashDue = s.lch.flashDue ∧
    (abandonCalibration s).lch.calib = none := by
  unfold abandonCalibration
  split
  · exact ⟨ho, rfl, by assumption⟩
  · simp [endCalibration, leaveCalibration]

theorem abortPrints_head (s : State) (h : Head) :
    (abortPrints s).cnu.heads.get h = (s.cnu.heads.get h).abort s.trk.belt s.prl.profile.h := by
  cases h <;> rfl

theorem settleHeads_head (s : State) (h : Head) :
    (settleHeads s).cnu.heads.get h = (s.cnu.heads.get h).settle := by
  have e : (settleHeads s).cnu = (updateHead .upper HeadUnit.settle (updateHead .lower HeadUnit.settle s)).cnu := by
    simp [settleHeads]
  rw [e]; cases h <;> rfl

/-- The part of FAULTED entry before stillness is looked at. -/
theorem enterFaulted_eq {cause : LineCause} {s : State} (h1 : s.lnc.line ≠ .faulted) (h2 : s.lnc.line ≠ .loading) :
    ∃ b, b = raise .lineState (raise .fault (updateLine (·.faultEntry cause) s)) ∧
      enterFaulted cause s =
        if s.trk.moving then loseAllRecords (abortPrints (abandonCalibration (stopSampling b)))
        else settleFaulted (loseAllRecords (abortPrints (abandonCalibration (stopSampling b)))) := by
  refine ⟨_, rfl, ?_⟩
  have hm : (loseAllRecords (abortPrints (abandonCalibration (stopSampling
      (raise .lineState (raise .fault (updateLine (·.faultEntry cause) s))))))).trk.moving = s.trk.moving := by
    have := congrArg (fun v => v.2.2.2.2) (show beltView (loseAllRecords (abortPrints (abandonCalibration (stopSampling
      (raise .lineState (raise .fault (updateLine (·.faultEntry cause) s))))))) = beltView s by simp)
    exact this
  rw [enterFaulted, if_neg (by simp [h1, h2])]
  simp only [hm]

/-! ### The losses (R125, R144, R179, R180) -/

/-- A lost record is counted under LOST_FAULT (R125). -/
def countLost (m : PocketManager) : PocketManager :=
  { m with tallies := m.tallies.set (Tally.idx .lostFault) (min (m.tallies[Tally.idx .lostFault] + 1) 4294967295) }

/-- Pocket `k` loses one pending letter, and closes where it is DRAINING with nothing else pending (R125, R130). -/
def loseFrom (k : PocketNo) (m : PocketManager) : PocketManager :=
  if (m.pockets[k]).state = .draining ∧ (m.pockets[k]).pending ≤ 1 then
    { m with
      log := m.log ++ [makeTrayRecord k m.pockets[k] ((m.pockets[k]).reason.getD .sweepRequest)]
      tallies := m.tallies.set (Tally.idx .traysClosed) (min (m.tallies[Tally.idx .traysClosed] + 1) 4294967295)
      pockets := m.pockets.set k { (m.pockets[k]).closedTray with pending := 0 } }
  else { m with pockets := m.pockets.set k { m.pockets[k] with pending := (m.pockets[k]).pending - 1 } }

/-- What one lost record does to the pocket manager (R125, R130). -/
def lossStep (m : PocketManager) (l : Letter) : PocketManager :=
  match l.dest with
  | none => countLost m
  | some d => loseFrom d.pocket (countLost m)

@[simp] theorem countLost_pockets (m : PocketManager) : (countLost m).pockets = m.pockets := rfl
@[simp] theorem countLost_log (m : PocketManager) : (countLost m).log = m.log := rfl

theorem lossStep_none {l : Letter} (m : PocketManager) (h : l.dest = none) : lossStep m l = countLost m := by
  simp [lossStep, h]

theorem lossStep_some {l : Letter} {d : Destination} (m : PocketManager) (h : l.dest = some d) :
    lossStep m l = loseFrom d.pocket (countLost m) := by
  simp [lossStep, h]

theorem loseFrom_pocket (m : PocketManager) (k j : PocketNo) :
    (loseFrom k m).pockets[j] =
      if k = j then
        if (m.pockets[j]).state = .draining ∧ (m.pockets[j]).pending ≤ 1 then
          { (m.pockets[j]).closedTray with pending := 0 }
        else { m.pockets[j] with pending := (m.pockets[j]).pending - 1 }
      else m.pockets[j] := by
  by_cases hk : k = j
  · subst hk
    by_cases hc : (m.pockets[k]).state = .draining ∧ (m.pockets[k]).pending ≤ 1
    · rw [loseFrom, if_pos hc, if_pos rfl, if_pos hc]; simp
    · rw [loseFrom, if_neg hc, if_pos rfl, if_neg hc]; simp
  · have hv : k.val ≠ j.val := fun h => hk (Fin.ext h)
    rw [if_neg hk]
    by_cases hc : (m.pockets[k]).state = .draining ∧ (m.pockets[k]).pending ≤ 1
    · rw [loseFrom, if_pos hc]; simp [hv]
    · rw [loseFrom, if_neg hc]; simp [hv]

theorem loseFrom_log (m : PocketManager) (k : PocketNo) :
    (loseFrom k m).log = m.log ++
      if (m.pockets[k]).state = .draining ∧ (m.pockets[k]).pending ≤ 1 then
        [makeTrayRecord k m.pockets[k] ((m.pockets[k]).reason.getD .sweepRequest)] else [] := by
  by_cases hc : (m.pockets[k]).state = .draining ∧ (m.pockets[k]).pending ≤ 1
  · rw [loseFrom, if_pos hc, if_pos hc]
  · rw [loseFrom, if_neg hc, if_neg hc]; simp

theorem loseFrom_tally (m : PocketManager) (k : PocketNo) (i : Fin 34) (hi : i ≠ Tally.idx .traysClosed) :
    (loseFrom k m).tallies[i] = m.tallies[i] := by
  have hv : (Tally.idx .traysClosed).val ≠ i.val := fun h => hi (Fin.ext h.symm)
  by_cases hc : (m.pockets[k]).state = .draining ∧ (m.pockets[k]).pending ≤ 1
  · rw [loseFrom, if_pos hc]; simp [hv]
  · rw [loseFrom, if_neg hc]

theorem loseRecord_pkm (s : State) (l : Letter) : (loseRecord s l).pkm = lossStep s.pkm l := by
  have h : (loseRecord s l).pkm = (countLoss l .lostFault (refreshListHigh (dropRecord l s))).pkm := by
    simp [loseRecord, countRemoval]
  have hp : (bump .lostFault (refreshListHigh (dropRecord l s))).pkm = countLost s.pkm := by
    simp [bump, countLost, Config.tallyCeiling]
  rw [h]
  simp only [countLoss, lossStep]
  generalize bump .lostFault (refreshListHigh (dropRecord l s)) = u at hp ⊢
  cases l.dest with
  | none => exact hp
  | some d =>
    rw [← hp]
    have g : ∀ f : Pocket → Pocket, (updatePocket d.pocket f u).pkm.pockets[d.pocket] = f u.pkm.pockets[d.pocket] := by
      intro f; simp [updatePocket]
    have hz : (u.pkm.pockets[d.pocket]).pending - 1 = 0 ↔ (u.pkm.pockets[d.pocket]).pending ≤ 1 := by omega
    simp only [refreshCatchFull_frame, settleDraining, g, loseFrom, hz]
    split
    · next hc =>
      have hz' : (u.pkm.pockets[d.pocket.val]).pending - 1 = 0 := by have := hc.2; simp only [Fin.getElem_fin] at this; omega
      simp only [closeTray, refreshCatchFull_frame, raise_frame, g]
      simp [updatePocket, bump, appendLog, Config.tallyCeiling, Pocket.closedTray, Pocket.emptied, nextTrayNo,
        makeTrayRecord, hz']
    · rfl

theorem foldl_loseRecord_pkm (ls : List Letter) (s : State) :
    (ls.foldl loseRecord s).pkm = ls.foldl lossStep s.pkm := by
  induction ls generalizing s with
  | nil => rfl
  | cons l ls ih => rw [List.foldl_cons, List.foldl_cons, ih, loseRecord_pkm]

theorem lossStep_tally (m : PocketManager) (l : Letter) (i : Fin 34) (hi : i ≠ Tally.idx .traysClosed) :
    (lossStep m l).tallies[i] =
      if i = Tally.idx .lostFault then min (m.tallies[i] + 1) 4294967295 else m.tallies[i] := by
  have h : (lossStep m l).tallies[i] = (countLost m).tallies[i] := by
    cases h : l.dest with
    | none => rw [lossStep_none m h]
    | some d => rw [lossStep_some m h, loseFrom_tally _ _ _ hi]
  rw [h]
  simp only [countLost]
  split
  · next e => subst e; simp
  · next e =>
    have hv : (Tally.idx .lostFault).val ≠ i.val := fun h => e (Fin.ext h.symm)
    simp [hv]

/-- The tallies after the losses: LOST_FAULT counts each, TRAYS_CLOSED may count, no other moves. -/
theorem foldl_lossStep_tallies (ls : List Letter) (m : PocketManager) :
    (ls.foldl lossStep m).tallies[Tally.idx .lostFault] =
      ls.foldl (fun n _ => min (n + 1) 4294967295) m.tallies[Tally.idx .lostFault] ∧
    ∀ i : Fin 34, i ≠ Tally.idx .lostFault → i ≠ Tally.idx .traysClosed →
      (ls.foldl lossStep m).tallies[i] = m.tallies[i] := by
  induction ls generalizing m with
  | nil => simp
  | cons l ls ih =>
    rw [List.foldl_cons, List.foldl_cons]
    refine ⟨by rw [(ih _).1, lossStep_tally _ _ _ (by decide), if_pos rfl], fun i hi hj => ?_⟩
    rw [(ih _).2 i hi hj, lossStep_tally _ _ _ hj, if_neg hi]

/-- How many letters of a list go to pocket `k`. -/
def countTo (k : PocketNo) (ls : List Letter) : Nat :=
  (ls.filter fun l => l.dest.map Destination.pocket == some k).length

/-- Pocket `k` closes in the course of the losses of `ls` (R130). -/
def closesIn (k : PocketNo) (m : PocketManager) (ls : List Letter) : Prop :=
  (m.pockets[k]).state = .draining ∧ 0 < countTo k ls ∧ (m.pockets[k]).pending ≤ countTo k ls

theorem lossStep_pocket (m : PocketManager) (l : Letter) (k : PocketNo) :
    (lossStep m l).pockets[k] =
      if l.dest.map Destination.pocket = some k then
        if (m.pockets[k]).state = .draining ∧ (m.pockets[k]).pending ≤ 1 then
          { (m.pockets[k]).closedTray with pending := 0 }
        else { m.pockets[k] with pending := (m.pockets[k]).pending - 1 }
      else m.pockets[k] := by
  cases h : l.dest with
  | none => rw [lossStep_none m h]; simp
  | some d => rw [lossStep_some m h, loseFrom_pocket]; simp only [Option.map_some, Option.some.injEq, countLost_pockets]; rfl

theorem countTo_cons (k : PocketNo) (l : Letter) (ls : List Letter) :
    countTo k (l :: ls) = countTo k ls + if l.dest.map Destination.pocket = some k then 1 else 0 := by
  simp only [countTo, List.filter_cons, beq_iff_eq]
  split <;> simp

/-- The pockets after the losses (R125, R130, R144). -/
theorem foldl_lossStep_pocket (ls : List Letter) (m : PocketManager) (k : PocketNo) :
    (closesIn k m ls → (ls.foldl lossStep m).pockets[k] = { (m.pockets[k]).closedTray with pending := 0 }) ∧
    (¬ closesIn k m ls → (ls.foldl lossStep m).pockets[k] =
      { m.pockets[k] with pending := (m.pockets[k]).pending - countTo k ls }) := by
  induction ls generalizing m with
  | nil => simp [closesIn, countTo]
  | cons l ls ih =>
    have hs := lossStep_pocket m l k
    have ⟨ih1, ih2⟩ := ih (lossStep m l)
    simp only [closesIn] at ih1 ih2 ⊢
    rw [hs] at ih1 ih2
    rw [List.foldl_cons, countTo_cons]
    by_cases hk : l.dest.map Destination.pocket = some k
    · simp only [hk, if_true] at ih1 ih2 ⊢
      by_cases hc : (m.pockets[k]).state = .draining ∧ (m.pockets[k]).pending ≤ 1
      · rw [if_pos hc] at ih1 ih2
        have := ih2 (by simp [Pocket.closedTray])
        refine ⟨fun _ => by rw [this]; simp, fun h => absurd ⟨hc.1, by omega, by omega⟩ h⟩
      · rw [if_neg hc] at ih1 ih2
        constructor
        · rintro ⟨h1, -, h3⟩
          have hp : 1 < (m.pockets[k]).pending := by
            rcases Nat.lt_or_ge 1 (m.pockets[k]).pending with h | h
            · exact h
            · exact absurd ⟨h1, h⟩ hc
          rw [ih1 ⟨h1, by omega, by simp only; omega⟩]
          simp [Pocket.closedTray]
        · intro h
          rw [ih2 (fun g => h ⟨g.1, by omega, by have := g.2.2; simp only at this; omega⟩)]
          simp only [Pocket.mk.injEq, true_and, and_true]
          omega
    · simp only [hk, if_false, Nat.add_zero] at ih1 ih2 ⊢
      exact ⟨ih1, ih2⟩

/-- The record that the loss of one letter adds to the tray log. -/
def closedBy (m : PocketManager) (l : Letter) : List TrayRecord :=
  match l.dest with
  | some d => if (m.pockets[d.pocket]).state = .draining ∧ (m.pockets[d.pocket]).pending ≤ 1 then
      [makeTrayRecord d.pocket m.pockets[d.pocket] ((m.pockets[d.pocket]).reason.getD .sweepRequest)] else []
  | none => []

theorem lossStep_log (m : PocketManager) (l : Letter) : (lossStep m l).log = m.log ++ closedBy m l := by
  cases h : l.dest with
  | none => rw [lossStep_none m h]; simp [closedBy, h]
  | some d => rw [lossStep_some m h, loseFrom_log]; simp only [closedBy, h, countLost_pockets, countLost_log]; rfl

theorem mem_closedBy (m : PocketManager) (l : Letter) (x : TrayRecord) :
    x ∈ closedBy m l ↔ ∃ k : PocketNo, l.dest.map Destination.pocket = some k ∧
      ((m.pockets[k]).state = .draining ∧ (m.pockets[k]).pending ≤ 1) ∧
      x = makeTrayRecord k m.pockets[k] ((m.pockets[k]).reason.getD .sweepRequest) := by
  cases h : l.dest with
  | none => simp [closedBy, h]
  | some d =>
    simp only [closedBy, h, Option.map_some, Option.some.injEq]
    by_cases hc : (m.pockets[d.pocket]).state = .draining ∧ (m.pockets[d.pocket]).pending ≤ 1
    · rw [if_pos hc, List.mem_singleton]
      exact ⟨fun e => ⟨_, rfl, hc, e⟩, fun ⟨k, e, _, f⟩ => by subst e; exact f⟩
    · rw [if_neg hc]
      exact ⟨fun e => by simp at e, fun ⟨k, e, f, _⟩ => by subst e; exact absurd f hc⟩

/-- The tray log after the losses: the records of the pockets that closed join it (R130, R144). -/
theorem foldl_lossStep_log (ls : List Letter) (m : PocketManager) :
    ∃ xs, (ls.foldl lossStep m).log = m.log ++ xs ∧ ∀ x, x ∈ xs ↔ ∃ k : PocketNo, closesIn k m ls ∧
      x = makeTrayRecord k m.pockets[k] ((m.pockets[k]).reason.getD .sweepRequest) := by
  induction ls generalizing m with
  | nil => exact ⟨[], by simp [closesIn, countTo]⟩
  | cons l ls ih =>
    obtain ⟨xs, h1, h2⟩ := ih (lossStep m l)
    rw [List.foldl_cons, h1, lossStep_log, List.append_assoc]
    refine ⟨_, rfl, fun x => ?_⟩
    rw [List.mem_append, h2]
    have hother : ∀ k : PocketNo, l.dest.map Destination.pocket ≠ some k →
        (closesIn k (lossStep m l) ls ↔ closesIn k m (l :: ls)) ∧ (lossStep m l).pockets[k] = m.pockets[k] := by
      intro k hk
      have hs : (lossStep m l).pockets[k] = m.pockets[k] := by rw [lossStep_pocket, if_neg hk]
      exact ⟨by simp only [closesIn, hs, countTo_cons, hk, if_false, Nat.add_zero], hs⟩
    have hown : ∀ k : PocketNo, l.dest.map Destination.pocket = some k →
        (closesIn k m (l :: ls) ↔ ((m.pockets[k]).state = .draining ∧ (m.pockets[k]).pending ≤ 1) ∨
          closesIn k (lossStep m l) ls) ∧
        (closesIn k (lossStep m l) ls →
          makeTrayRecord k (lossStep m l).pockets[k] (((lossStep m l).pockets[k]).reason.getD .sweepRequest) =
          makeTrayRecord k m.pockets[k] ((m.pockets[k]).reason.getD .sweepRequest)) := by
      intro k hk
      have hs := lossStep_pocket m l k
      simp only [hk, if_true] at hs
      simp only [closesIn, hs, countTo_cons, hk, if_true]
      by_cases hc : (m.pockets[k]).state = .draining ∧ (m.pockets[k]).pending ≤ 1
      · simp only [hc, and_self, if_true, true_or, iff_true]
        have hp := hc.2
        refine ⟨?_, fun h => ?_⟩
        · exact ⟨trivial, by omega, by omega⟩
        simp [Pocket.closedTray] at h
      · rw [if_neg hc]
        refine ⟨⟨fun h => Or.inr ⟨h.1, ?_, by simp only; omega⟩, ?_⟩, fun _ => rfl⟩
        · rcases Nat.lt_or_ge 1 (m.pockets[k]).pending with h' | h'
          · omega
          · exact absurd ⟨h.1, h'⟩ hc
        · rintro (h | h)
          · exact absurd h hc
          · refine ⟨h.1, by omega, ?_⟩
            have := h.2.2
            simp only at this
            omega
    constructor
    · rintro (h | ⟨k, hk, rfl⟩)
      · obtain ⟨k, hd, hc, rfl⟩ := (mem_closedBy m l x).1 h
        exact ⟨k, ((hown k hd).1).2 (Or.inl hc), rfl⟩
      · by_cases hd : l.dest.map Destination.pocket = some k
        · exact ⟨k, ((hown k hd).1).2 (Or.inr hk), (hown k hd).2 hk⟩
        · exact ⟨k, ((hother k hd).1).1 hk, by rw [(hother k hd).2]⟩
    · rintro ⟨k, hk, rfl⟩
      by_cases hd : l.dest.map Destination.pocket = some k
      · rcases ((hown k hd).1).1 hk with hc | hc
        · exact Or.inl ((mem_closedBy m l _).2 ⟨k, hd, hc, rfl⟩)
        · exact Or.inr ⟨k, hc, ((hown k hd).2 hc).symm⟩
      · exact Or.inr ⟨k, ((hother k hd).1).2 hk, by rw [(hother k hd).2]⟩

/-- The reports of a list of lost records, oldest first (R28, R179). -/
def lossReportsOf (mode : ReportMode) (ls : List Letter) : List LetterReport :=
  (ls.filter fun l => reportCalled mode l .lostFault).map fun l => reportOf l .lostFault

/-- The link interface without its pending events and the notice that they make due. -/
def linkView (s : State) : Link := { s.lki with events := 0, noticeDue := false }

@[simp] theorem raise_linkView (k : EventKind) (s : State) : linkView (raise k s) = linkView s := rfl

@[simp] theorem setHold_linkView (h : HoldSet) (s : State) : linkView (setHold h s) = linkView s := by
  simp only [setHold]; split <;> rfl

@[simp] theorem refreshCatchFull_linkView (s : State) : linkView (refreshCatchFull s) = linkView s := by
  simp [refreshCatchFull]

@[simp] theorem refreshListHigh_linkView (s : State) : linkView (refreshListHigh s) = linkView s := by
  simp [refreshListHigh]

@[simp] theorem refreshHeadDown_linkView (s : State) : linkView (refreshHeadDown s) = linkView s := by
  simp only [refreshHeadDown, applyHeadDown]; split <;> simp

@[simp] theorem settleDraining_linkView (k : PocketNo) (s : State) : linkView (settleDraining k s) = linkView s := by
  simp only [settleDraining]
  split
  · simp only [closeTray, refreshCatchFull_linkView, raise_linkView]; rfl
  · rfl

@[simp] theorem countLoss_linkView (l : Letter) (t : Tally) (s : State) : linkView (countLoss l t s) = linkView s := by
  simp only [countLoss]
  split
  · simp only [refreshCatchFull_linkView, settleDraining_linkView]; rfl
  · rfl

theorem linkView_reports {s t : State} (h : linkView t = linkView s) :
    t.lki.reports = s.lki.reports ∧ t.lki.dropped = s.lki.dropped ∧ t.lki.replies = s.lki.replies := by
  simp only [linkView, Link.mk.injEq] at h
  simp [h]

theorem loseRecord_lki (s : State) (l : Letter) :
    (loseRecord s l).lki.reports = s.lki.reports ++
      (if reportCalled s.prl.profile.reportMode l .lostFault = true ∧ s.lki.reports.length < 64
        then [reportOf l .lostFault] else []) ∧
    (loseRecord s l).lki.dropped =
      (if reportCalled s.prl.profile.reportMode l .lostFault = true ∧ 64 ≤ s.lki.reports.length
        then min (s.lki.dropped + 1) 65535 else s.lki.dropped) ∧
    (reportCalled s.prl.profile.reportMode l .lostFault = true → 64 ≤ s.lki.reports.length →
      EventSet.has (loseRecord s l).lki.events .reportsDropped = true) := by
  have hp : (countRemoval l .lostFault (refreshListHigh (dropRecord l s))).prl = s.prl := by simp
  have hv := linkView_reports (show linkView (countRemoval l .lostFault (refreshListHigh (dropRecord l s))) = linkView s by
    rw [countRemoval, countLoss_linkView, refreshListHigh_linkView]; rfl)
  have hr := hv.1
  have hd := hv.2.1
  simp only [loseRecord, reportRemoval, hp, queueReport, hr, Config.reportCapacity]
  by_cases hc : reportCalled s.prl.profile.reportMode l .lostFault = true
  · by_cases hl : s.lki.reports.length < 64
    · simp [hc, hl, hd, Nat.not_le.mpr hl]
    · have hl' : 64 ≤ s.lki.reports.length := by omega
      simp only [hc, hl, hl', if_true, if_false, and_self, and_false, List.append_nil]
      refine ⟨by simp, by simp [hd, satSucc, Config.countCeiling], fun _ _ => by rw [raise_has]; simp⟩
  · simp [hc, hd, hr]

/-- The report queue and the dropped count after the losses (R180). -/
theorem foldl_loseRecord_reports (ls : List Letter) (s : State) :
    (ls.foldl loseRecord s).lki.reports = s.lki.reports ++
      (lossReportsOf s.prl.profile.reportMode ls).take (64 - s.lki.reports.length) ∧
    (ls.foldl loseRecord s).lki.dropped =
      ((lossReportsOf s.prl.profile.reportMode ls).drop (64 - s.lki.reports.length)).foldl
        (fun n _ => min (n + 1) 65535) s.lki.dropped ∧
    (64 - s.lki.reports.length < (lossReportsOf s.prl.profile.reportMode ls).length →
      EventSet.has (ls.foldl loseRecord s).lki.events .reportsDropped = true) := by
  induction ls generalizing s with
  | nil => simp [lossReportsOf]
  | cons l ls ih =>
    obtain ⟨h1, h2, h3⟩ := loseRecord_lki s l
    obtain ⟨i1, i2, i3⟩ := ih (loseRecord s l)
    have hp : (loseRecord s l).prl = s.prl := by simp
    rw [hp, h1] at i1 i2 i3
    rw [h2] at i2
    rw [List.foldl_cons]
    by_cases hc : reportCalled s.prl.profile.reportMode l .lostFault = true
    · have e : lossReportsOf s.prl.profile.reportMode (l :: ls) =
          reportOf l .lostFault :: lossReportsOf s.prl.profile.reportMode ls := by
        simp [lossReportsOf, hc]
      rw [e]
      by_cases hl : s.lki.reports.length < 64
      · have hl' : ¬ 64 ≤ s.lki.reports.length := by omega
        simp only [hc, hl, hl', and_self, and_false, if_true, if_false, List.length_append, List.length_singleton] at i1 i2 i3
        obtain ⟨n, hn⟩ : ∃ n, 64 - s.lki.reports.length = n + 1 := ⟨63 - s.lki.reports.length, by omega⟩
        have hn' : 64 - (s.lki.reports.length + 1) = n := by omega
        rw [hn'] at i1 i2 i3
        rw [hn]
        refine ⟨by simpa using i1, by simpa using i2, fun h => i3 (by simpa using h)⟩
      · have hl' : 64 ≤ s.lki.reports.length := by omega
        have h0 : 64 - s.lki.reports.length = 0 := by omega
        simp only [hc, hl, hl', and_self, and_false, if_true, if_false, List.append_nil, h0, List.take_zero,
          List.drop_zero] at i1 i2 i3
        rw [h0]
        refine ⟨by simpa using i1, by simpa using i2, fun _ => ?_⟩
        exact foldl_pending _ _ (fun s l h => loseRecord_pending l s h) _ (h3 hc hl')
    · have e : lossReportsOf s.prl.profile.reportMode (l :: ls) = lossReportsOf s.prl.profile.reportMode ls := by
        simp [lossReportsOf, hc]
      rw [e]
      simp only [hc, Bool.false_eq_true, false_and, if_false, List.append_nil] at i1 i2 i3
      exact ⟨i1, i2, i3⟩

theorem abandonCalibration_kept (s : State) :
    (abandonCalibration s).lch.chans = s.lch.chans ∧ (abandonCalibration s).lch.capture = s.lch.capture ∧
    (abandonCalibration s).lki.reports = s.lki.reports ∧ (abandonCalibration s).lki.dropped = s.lki.dropped ∧
    (abandonCalibration s).prl = s.prl := by
  unfold abandonCalibration
  split <;> simp [endCalibration, leaveCalibration]

theorem Tally.idx_lostFault {x : Tally} (h : x.idx = Tally.idx .lostFault) : x = .lostFault := by
  cases x with
  | delivered k => have := congrArg Fin.val h; simp only [Tally.idx] at this; omega
  | stamp o => cases o <;> exact absurd h (by decide)
  | meter o => cases o <;> exact absurd h (by decide)
  | reject o => cases o <;> exact absurd h (by decide)
  | _ => first | rfl | exact absurd h (by decide)

theorem Tally.idx_traysClosed {x : Tally} (h : x.idx = Tally.idx .traysClosed) : x = .traysClosed := by
  cases x with
  | delivered k => have := congrArg Fin.val h; simp only [Tally.idx] at this; omega
  | stamp o => cases o <;> exact absurd h (by decide)
  | meter o => cases o <;> exact absurd h (by decide)
  | reject o => cases o <;> exact absurd h (by decide)
  | _ => first | rfl | exact absurd h (by decide)

/-- The report queue after FAULTED entry (R179, R180). -/
theorem enterFaulted_reports {cause : LineCause} {s b : State}
    (e : enterFaulted cause s =
        if s.trk.moving then loseAllRecords (abortPrints (abandonCalibration (stopSampling b)))
        else settleFaulted (loseAllRecords (abortPrints (abandonCalibration (stopSampling b)))))
    (ht : b.trk = s.trk) (hp : b.prl = s.prl) (hr : b.lki.reports = s.lki.reports ∧ b.lki.dropped = s.lki.dropped) :
    (enterFaulted cause s).lki.reports = s.lki.reports ++ (lossReports s).take (64 - s.lki.reports.length) ∧
    (enterFaulted cause s).lki.dropped = ((lossReports s).drop (64 - s.lki.reports.length)).foldl
        (fun n _ => min (n + 1) 65535) s.lki.dropped ∧
    (64 - s.lki.reports.length < (lossReports s).length →
      EventSet.has (enterFaulted cause s).lki.events .reportsDropped = true) := by
  have hk := abandonCalibration_kept (stopSampling b)
  have hup : (abortPrints (abandonCalibration (stopSampling b))).prl = s.prl := by simp [hp]
  have hul : (abortPrints (abandonCalibration (stopSampling b))).trk.letters = s.trk.letters := by simp [ht]
  have hur : (abortPrints (abandonCalibration (stopSampling b))).lki.reports = s.lki.reports ∧
      (abortPrints (abandonCalibration (stopSampling b))).lki.dropped = s.lki.dropped := by
    simp only [abortPrints_frame, hk.2.2.1, hk.2.2.2.1]
    exact ⟨hr.1, hr.2⟩
  generalize abortPrints (abandonCalibration (stopSampling b)) = u at hup hul hur e
  obtain ⟨f1, f2, f3⟩ := foldl_loseRecord_reports u.trk.letters u
  rw [hup, hur.1, hul] at f1 f2 f3
  rw [hur.2] at f2
  have hc : linkView (enterFaulted cause s) = linkView (s.trk.letters.foldl loseRecord u) := by
    rw [e, ← hul]; split
    · rfl
    · simp only [settleFaulted, settleHeads, refreshHeadDown_linkView]; rfl
  have hv := linkView_reports hc
  refine ⟨hv.1.trans f1, hv.2.1.trans f2, fun h => ?_⟩
  have hl : EventSet.has (loseAllRecords u).lki.events .reportsDropped = true := by
    have := f3 h
    rw [← hul] at this
    exact this
  rw [e]; split
  · exact hl
  · simp [settleFaulted, hl]

/-- What FAULTED entry does, said once (R160, R161). -/
theorem enterFaulted_entry {cause : LineCause} {s : State} (h1 : s.lnc.line ≠ .faulted) (h2 : s.lnc.line ≠ .loading) :
    FaultedEntry cause s (enterFaulted cause s) := by
  obtain ⟨b, hb, e⟩ := enterFaulted_eq (cause := cause) h1 h2
  have hl : lineView (enterFaulted cause s) = lineView b := by rw [e]; split <;> simp
  have hbl : b.lnc = s.lnc.faultEntry cause := by subst hb; simp [updateLine]
  have hv := lineView_line hl
  rw [hbl] at hv
  have hbelt : beltView (enterFaulted cause s) = beltView s := by rw [e]; subst hb; split <;> simp
  have hbt : b.trk = s.trk := by subst hb; simp [updateLine]
  have hbc : b.cnu = s.cnu := by subst hb; simp [updateLine]
  have hbp : b.prl = s.prl := by subst hb; simp [updateLine]
  have hbk : b.pkm = s.pkm := by subst hb; simp [updateLine]
  have hbh : b.lch = s.lch := by subst hb; simp [updateLine]
  have hbr : b.lki.reports = s.lki.reports ∧ b.lki.dropped = s.lki.dropped := by subst hb; simp [updateLine]
  have hpkm : (enterFaulted cause s).pkm = s.trk.letters.foldl lossStep s.pkm := by
    have h : (enterFaulted cause s).pkm =
        ((abortPrints (abandonCalibration (stopSampling b))).trk.letters.foldl loseRecord
          (abortPrints (abandonCalibration (stopSampling b)))).pkm := by
      rw [e]; split <;> simp [settleFaulted, loseAllRecords]
    rw [h, foldl_loseRecord_pkm]; simp [hbt, hbk]
  constructor
  · exact hv.1
  · exact hv.2.1
  · exact ⟨hv.2.2.2.1, hv.2.2.2.2.1, hv.2.2.2.2.2.1, hv.2.2.2.2.2.2.2.2.2⟩
  · exact hv.2.2.1
  · have hx : ∀ k, EventSet.has b.lki.events k = true → EventSet.has (enterFaulted cause s).lki.events k = true := by
      intro k hk; rw [e]; split <;> simp (maxDischargeDepth := 9) [hk]
    exact ⟨hx _ (by rw [hb, raise_has]; simp), hx _ (by rw [hb, raise_has, raise_has]; simp)⟩
  · rw [e]; split <;> simp [loseAllRecords_letters, settleFaulted]
  · rw [e]; split <;> simp [loseAllRecords, settleFaulted, clearMeasuring]
  · rw [e]; split <;> simp [loseAllRecords, settleFaulted, clearMeasuring, restGates]
  · simp only [beltView, Prod.mk.injEq] at hbelt
    refine ⟨hbelt.1, hbelt.2.1, ?_, hbelt.2.2.1, hbelt.2.2.2.1, hbelt.2.2.2.2⟩
    rw [e, ← hbt]; split <;> simp [settleFaulted, loseAllRecords_lastTe]
  · rw [e]; split <;> simp [stopSampling, settleFaulted]
  · have ha := abandonCalibration_lch (stopSampling b) (by simp [stopSampling])
    have hq : (stopSampling b).lch.flashDue = none := rfl
    rw [e]; split <;> simp only [settleFaulted, loseAllRecords_frame, abortPrints_frame, settleHeads_frame, idleChannels_parts, ha, hq, and_self]
  · intro c
    have hc : (abandonCalibration (stopSampling b)).lch.chans = s.lch.chans := by
      rw [(abandonCalibration_kept _).1, ← hbh]; rfl
    rw [e]
    by_cases hm : s.trk.moving = true
    · simp [hm, hc]
    · rw [if_neg hm]
      have : (settleFaulted (loseAllRecords (abortPrints (abandonCalibration (stopSampling b))))).lch.chans =
          s.lch.chans.map Channel.toIdle := by
        simp only [settleFaulted, settleHeads_frame]
        simp [idleChannels, hc]
      rw [this, PerChan.get_map]
      simp [hm, Channel.toIdle]
  · have hc : (abandonCalibration (stopSampling b)).lch.capture = s.lch.capture.leave := by
      rw [(abandonCalibration_kept _).2.1, ← hbh]; rfl
    have : (enterFaulted cause s).lch.capture = s.lch.capture.leave := by
      rw [e]; split <;> simp [settleFaulted, hc]
    rw [this, Capture.leave]
    cases s.lch.capture.state <;> simp [Capture.cleared]
  · intro h
    have hh : (enterFaulted cause s).cnu.heads.get h =
        if s.trk.moving then (s.cnu.heads.get h).abort s.trk.belt s.prl.profile.h
        else ((s.cnu.heads.get h).abort s.trk.belt s.prl.profile.h).settle := by
      rw [e]; split <;> simp [settleFaulted, settleHeads_head, abortPrints_head, hbc, hbt, hbp]
    rw [hh]
    simp only [HeadUnit.abort, HeadUnit.settle, HeadUnit.atFault, HeadUnit.leavePrint, HeadUnit.recovered, beyond]
    (repeat' split) <;> simp_all
  · rw [e]; split <;> simp [settleFaulted, settleHeads, abortPrints, updateHead, hbc]
  · rw [tally, hpkm]; exact (foldl_lossStep_tallies _ _).1
  · intro x hx hy
    rw [tally, hpkm, tally]
    exact (foldl_lossStep_tallies _ _).2 _ (fun h => hx (Tally.idx_lostFault h)) (fun h => hy (Tally.idx_traysClosed h))
  · intro k
    rw [hpkm]; exact foldl_lossStep_pocket _ _ k
  · rw [hpkm]; exact foldl_lossStep_log _ _
  · exact (enterFaulted_reports e hbt hbp hbr).1
  · exact (enterFaulted_reports e hbt hbp hbr).2
  · intro x hx
    have hf := enterFaulted_frame cause s
    cases x <;> first | exact hf.1 | exact hf.2.1 | exact hf.2.2.1 | exact hf.2.2.2 | simp at hx

end Sys2Proof.Machine
end

