-- ==== Sys2Proof/Tests/Slice0.lean ====
section
/-! SUPPORT. Tests of the model: one ill-formed command for each check of well-formedness, results that the spec works
out, and for every statement with hypotheses a state and operands that meet them. -/

set_option Elab.async false

namespace Sys2Proof.Tests

open Sys2Proof Sys2Proof.Machine

/-! ### Small states -/

/-- The machine in a line state, otherwise as right after reset. -/
def inLine (l : LineState) : State := { State.reset with lnc := { State.reset.lnc with line := l } }

/-- A request of kind `k`, with the tag 7. -/
def ask (k : ReqKind) (payload : List Byte) : Request := ⟨k.code, 7, payload⟩

/-- The request at the front of an otherwise empty request queue. -/
def asked (k : ReqKind) (payload : List Byte) (s : State) : State :=
  { s with lki := { s.lki with requests := [ask k payload] } }

/-- The request is ready to be served. -/
def ready (k : ReqKind) (payload : List Byte) (s : State) : Bool :=
  !s.inReset && dispatchable (ask k payload) (asked k payload s) && !s.lki.resetPending

theorem ready_of {k : ReqKind} {payload : List Byte} {s : State} (h : ready k payload s = true) :
    Ready k (ask k payload) [] (asked k payload s) := by
  simp only [ready, Bool.and_eq_true, Bool.not_eq_true'] at h
  exact ⟨h.1.1, rfl, rfl, h.1.2, h.2⟩

theorem served_of {k : ReqKind} {payload : List Byte} {s : State}
    (h : (ready k payload s && (linkRefusal k (ask k payload) (asked k payload s)).isNone) = true) :
    Served k (ask k payload) [] (asked k payload s) := by
  simp only [Bool.and_eq_true] at h
  exact ⟨ready_of h.1, Option.isNone_iff_eq_none.mp h.2⟩

/-- The belt at `belt`, still or moving. -/
def onBelt (belt : Pos) (moving : Bool) (s : State) : State :=
  { s with trk := { s.trk with belt := belt, moving := moving } }

/-- The letters of the transport list. -/
def carrying (ls : List Letter) (s : State) : State := { s with trk := { s.trk with letters := ls, nextId := 100 } }

/-- A fresh letter of id 5 with its leading edge at 1000. -/
def fresh : Letter where
  id := 5
  lePos := 1000
  length := none
  gap := none
  flags := .empty
  resync := none
  results := none
  verdict := none
  route := none
  cancel := none
  dest := none
  noTray := false
  arrived := []
  setupReached := []
  owned := []
  longPoint := some 1661
  blockedPoint := some 3641
  pdecPoint := none

/-- One tag run, of the class, with 11 samples. -/
def tagRun (cls : TagClass) : Run := ⟨cls, 40, 44, 950, 0⟩

/-- The results of a letter whose upper channel on face A holds one run of the class. -/
def oneRun (cls : TagClass) : PerChan ChanResult :=
  { PerChan.all (⟨false, [], false, false, false⟩ : ChanResult) with au := ⟨false, [tagRun cls], false, false, false⟩ }

/-- The letter measured, with one PHOS run on A-U. -/
def measured : Letter :=
  { fresh with length := some 460, longPoint := none, blockedPoint := none, results := some (oneRun .phos) }

/-- The letter judged STAMP, its print scheduled on the upper head. -/
def stamped : Letter :=
  { measured with
    verdict := some ⟨.stamp, some .o1, .empty, some ⟨40, 44, 950⟩⟩
    route := some (.main false .lead)
    cancel := some ⟨.scheduled, none, some ⟨.upper, 20, 180, ⟨⟨2024, 5, 17⟩, 60, 0⟩⟩, none⟩ }

/-- The letter on its way to pocket 1. -/
def bound : Letter := { stamped with dest := some ⟨1, some .facedLead⟩ }

/-- The letter culled. -/
def culled : Letter :=
  { measured with
    route := some .cull, dest := some ⟨0, none⟩, cancel := some .notRequired
    verdict := some ⟨.noTag, none, .empty, none⟩ }

/-- A head's state, with a queue. -/
def withHead (u : HeadUnit) (s : State) : State := { s with cnu := { s.cnu with heads := s.cnu.heads.set .upper u } }

/-- A READY head with letter 5 in its queue. -/
def loaded : HeadUnit := { HeadUnit.initial false with queue := [5] }

/-- A head printing letter 5, until the belt is at 6800. -/
def printing : HeadUnit :=
  { HeadUnit.initial false with state := .printing, printing := some 5, fireEnd := some 6800 }

/-- Pocket 1 changed. -/
def pocket1 (f : Pocket → Pocket) (s : State) : State := updatePocket 1 f s

/-- Every pocket OPEN with an empty tray in it. -/
def trays (s : State) : State :=
  { s with
    inputs := { s.inputs with tray := Vector.replicate 10 true }
    pkm := { s.pkm with pockets := Vector.ofFn fun k => { Pocket.initial with
      state := .open, tray := true, trayClass := Profile.builtin.mappedClass k } } }

/-! ### Well-formedness: each check refuses an ill-formed command -/

theorem test_loadImageSize : wellFormed (.profileLoadEnd [1, 2]) = false := by decide +kernel
theorem test_readBackSize : wellFormed (.storeVerifyDone []) = false := by decide +kernel
theorem test_goodFrameCrc : wellFormed (.goodFrame ⟨[0xA5, 2, 1, 7, 0, 0], 0⟩) = false := by decide +kernel
theorem test_badFrameGoodCrc : wellFormed (.badFrame ⟨frameBytes ⟨1, 7, []⟩, 0⟩ false) = false := by decide +kernel
theorem test_framingErrorWhole : wellFormed (.badFrame ⟨frameBytes ⟨1, 7, []⟩, 0⟩ true) = false := by decide +kernel
theorem test_laterEyeE0 : wellFormed (.eyeLeEdge ⟨.e0, true⟩) = false := by decide +kernel
theorem test_expiryE0 : wellFormed (.expiryPoint 5 .e0) = false := by decide +kernel
theorem test_wellFormed : ([.goodFrame ⟨frameBytes ⟨1, 7, []⟩, 0⟩, .badFrame ⟨[0xA5, 2, 1, 7, 0, 0], 3⟩ false,
    .badFrame ⟨[0xA5, 1], 0⟩ false, .badFrame ⟨[0xA5, 2, 1], 0⟩ true, .profileLoadEnd [],
    .eyeLeEdge ⟨.pe 8, false⟩] : List Instr).all wellFormed = true := by decide +kernel

/-- No row of the table has bits, so no word spells a command (log entry 23). -/
theorem test_noWordDecodes : decodeTableWord 16 0x0000 = none := by decide +kernel

/-! ### The queue, the resets, the load and the store: states that meet the hypotheses -/

theorem witness_StepRunsFrontCommand :
    (State.pinReset .idle strapsLow [.encPulse]).pending = .encPulse :: [] ∧ State.reset.pending = [] := ⟨rfl, rfl⟩

theorem witness_EveryCommandCompletes : ∀ b, Instr.encPulse ≠ .eyeLeEdge ⟨.e0, b⟩ := by decide

/-- RESET_N held active. -/
def heldReset : State := { State.reset with inReset := true }

theorem witness_PinResetHoldsAndReleases :
    (heldReset.inReset = true ∧ (∀ b, Instr.headFault .lower true ≠ .eyeLeEdge ⟨.e0, b⟩) ∧
      Instr.headFault .lower true ≠ .resetNAssert ∧ ∀ straps, Instr.headFault .lower true ≠ .resetNRelease straps) ∧
    State.reset.inReset = false :=
  ⟨⟨rfl, by decide, by decide, nofun⟩, rfl⟩

/-- LOADING from the store, after a pin reset or a soft reset, with ESTOP_N as given. -/
def loading (afterPin estop : Bool) : State :=
  { State.reset with
    inputs := { Inputs.idle with estop := estop }
    prl := { Loader.initial .store with afterPin := afterPin } }

/-- The load from the store may end with any image, one from the defaults with the defaults, and one without an answer
of the store with the defaults. -/
theorem witness_LoadEndsInStopped_ends :
    EndsLoad (.profileLoadEnd []) State.reset .builtin .ok ∧
    EndsLoad (.profileLoadEnd [1]) (loading true false) (loadImage [1]).1 (loadImage [1]).2 ∧
    EndsLoad .storeLoadNoResponse (loading false true) .builtin (.defaulted .noResponse 0) :=
  ⟨.inl ⟨[], rfl, .inl ⟨rfl, rfl, rfl⟩⟩, .inl ⟨[1], rfl, .inr ⟨rfl, rfl⟩⟩, .inr ⟨rfl, rfl, rfl, rfl⟩⟩

/-- LOADING after a soft reset from the defaults, with pocket 1 standing as `f` makes it and its tray present or not. -/
def reloading (tray : Bool) (f : Pocket → Pocket) : State :=
  pocket1 f { State.reset with
    inputs := { Inputs.idle with tray := Inputs.idle.tray.set 1 tray }
    prl := { State.reset.prl with afterPin := false } }

/-- Pocket 1 of a state as the end of LOADING finds it. -/
def found1 (tray : Bool) (f : Pocket → Pocket) : Pocket :=
  (((reloading tray f).pkm.pockets[(1 : PocketNo)]).matched tray (Profile.builtin.mappedClass 1)).classed (isBank 1)
    (Profile.builtin.mappedClass 1)

theorem witness_LoadEndsInStopped :
    (State.reset.inReset = false ∧ State.reset.lnc.line = .loading ∧ State.reset.prl.afterPin = true ∧
      State.reset.inputs.estop = false ∧ (inLine .stopped).lnc.line ≠ .loading ∧ State.reset.prl.source = .builtin) ∧
    ((loading true false).lnc.line = .loading ∧ (loading true false).inReset = false ∧
      (loading true false).prl.afterPin = true ∧ (loading true false).inputs.estop = false) ∧
    ((loading false true).inReset = false ∧ (loading false true).lnc.line = .loading ∧
      (loading false true).prl.afterPin = false ∧ (loading false true).trk.letters = [] ∧
      (loading false true).inputs.estop = true ∧ (loading false false).inputs.estop = false) ∧
    ((reloading true id).prl.afterPin = false ∧ (reloading true id).trk.letters = [] ∧
      (reloading true id).lnc.line = .loading ∧ (reloading true id).prl.source = .builtin) := by
  decide +kernel

/-- Each form of a pocket at the end of LOADING: a FULL tray below the loaded limit and at it, an OPEN one below it, at
it and above it, and a tray gone from OPEN. -/
theorem witness_LoadEndsInStopped_pockets :
    ((found1 true fun p => { p with state := .full, delivered := 499 }).state = .full ∧ isBank 1 = true ∧
      499 < max (Profile.builtin.limits[(1 : PocketNo)]) 499) ∧
    (500 = max (Profile.builtin.limits[(1 : PocketNo)]) 500 ∧ 600 = max (Profile.builtin.limits[(1 : PocketNo)]) 600) ∧
    ((found1 true fun p => { p with state := .open, delivered := 600 }).state = .open ∧
      (found1 true fun p => { p with state := .open, delivered := 600 }).delivered = 600) ∧
    ((found1 false fun p => { p with state := .open, delivered := 600 }).state = .noTray ∧
      (found1 false fun p => { p with state := .open, delivered := 600 }).delivered = 0) := by
  decide +kernel

theorem witness_StoreImageRoundTrip : Profile.builtin.valid = true := by decide +kernel

/-- The profile source STORE, with the store write in a state. -/
def writing (w : StoreWrite) (s : State) : State := { s with prl := { s.prl with source := .store, store := w } }

/-- Two places of the reply queue: a composed reply, then the reserved one. -/
def reservedSecond : State :=
  { inLine .stopped with lki := { State.reset.lki with
      replies := [.composed ⟨0x81, 3, [0]⟩, .reserved 0x62 7] } }

theorem witness_StoreWriteRuns :
    Served .writeProfile (ask .writeProfile []) [] (asked .writeProfile [] (inLine .stopped)) ∧
    Served .writeProfile (ask .writeProfile []) [] (asked .writeProfile [] (writing .idle (inLine .running))) ∧
    Served .writeProfile (ask .writeProfile []) [] (asked .writeProfile [] (writing .idle (inLine .standby))) ∧
    (inLine .stopped).prl.source = .builtin ∧ (writing .idle (inLine .standby)).prl.source = .store ∧
    (writing (.waiting [1]) (inLine .stopped)).prl.store = .waiting [1] ∧
    ((writing (.page 20 [1]) (inLine .stopped)).prl.store = .page 20 [1] ∧ 20 < 21) ∧
    ((writing (.page 21 [1]) (inLine .stopped)).prl.store = .page 21 [1] ∧ 21 ≤ 21) ∧
    (writing (.verifying [1]) (inLine .stopped)).prl.store = .verifying [1] ∧
    ((writing .idle (inLine .stopped)).lnc.line ≠ .loading ∧ (writing .idle (inLine .stopped)).prl.store = .idle) ∧
    ((∀ p ∈ [ReplyPlace.composed ⟨0x81, 3, [0]⟩], ∃ f, p = .composed f) ∧
      reservedSecond.lki.replies = [.composed ⟨0x81, 3, [0]⟩] ++ .reserved 0x62 7 :: []) :=
  ⟨served_of (by decide +kernel), served_of (by decide +kernel), served_of (by decide +kernel), rfl, rfl, rfl,
    ⟨rfl, by decide⟩, ⟨rfl, by decide⟩, rfl, ⟨by decide, rfl⟩, by simp, rfl⟩

/-- A SET_FIELD of field `n` with the value bytes `v` in line state `l`, served. -/
theorem witness_SetFieldStores :
    (Served .setField (ask .setField [1, 0xFF, 0xFF]) [] (asked .setField [1, 0xFF, 0xFF] (inLine .stopped)) ∧
      fieldShape 1 = some (.num 0 16000) ∧ fieldWritable 1 (inLine .stopped).lnc.line = true ∧
      (FieldShape.num 0 16000).ofLink [0xFF, 0xFF] = some (.num 16000, true)) ∧
    (Served .setField (ask .setField [1, 0, 0]) [] (asked .setField [1, 0, 0] (inLine .running)) ∧
      fieldWritable 1 (inLine .running).lnc.line = false) ∧
    (Served .setField (ask .setField [59, 2]) [] (asked .setField [59, 2] (inLine .stopped)) ∧
      fieldShape 59 = some (.code 2) ∧ (FieldShape.code 2).ofLink [2] = none) ∧
    (Served .setField (ask .setField [50, 0, 1]) [] (asked .setField [50, 0, 1] (inLine .stopped)) ∧
      limitPocket 50 = some 1) ∧
    (Served .setField (ask .setField [60, 1, 2]) [] (asked .setField [60, 1, 2]
        (pocket1 (fun p => { p with delivered := 1 }) (trays (inLine .stopped)))) ∧
      isClassField 60 = true) ∧
    (Served .setField (ask .setField [48, 1]) [] (asked .setField [48, 1] (inLine .stopped))) ∧
    (Served .setField (ask .setField [69, 1]) [] (asked .setField [69, 1]
        { inLine .standby with inputs := { Inputs.idle with feedload := true } })) := by
  refine ⟨⟨served_of ?_, ?_⟩, ⟨served_of ?_, ?_⟩, ⟨served_of ?_, ?_⟩, ⟨served_of ?_, ?_⟩, ⟨served_of ?_, ?_⟩,
    served_of ?_, served_of ?_⟩ <;> decide +kernel

/-- SET_FIELD of F50, pocket 1's limit, to 2, with pocket 1 as `f` makes it. -/
def limiting (auto : Bool) (f : Pocket → Pocket) (s : State) : State :=
  { pocket1 f s with prl := { s.prl with profile := { s.prl.profile with autoClose := auto } } }

/-- The tray log with `n` records. -/
def logged (n : Nat) (s : State) : State :=
  { s with pkm := { s.pkm with log := List.replicate n (makeTrayRecord 1 Pocket.initial .full) } }

/-- A new limit's effects: the pocket OPEN at it, with the auto-close off, without a free slot, with nothing pending and
with one letter pending; FULL below it; and FULL or OPEN elsewhere. F48 and F69 are written with both values. -/
theorem witness_SetFieldStores_effects :
    (∀ auto, ∀ n ∈ [0, 1, 2, 3], Served .setField (ask .setField [50, 0, 2]) [] (asked .setField [50, 0, 2]
      (limiting auto (fun p => { p with state := .open, delivered := n }) (trays (inLine .stopped))))) ∧
    (SlotFree (logged 15 (inLine .stopped)) ∧ ¬ SlotFree (logged 16 (inLine .stopped))) ∧
    (max 2 2 = 2 ∧ max 2 1 ≠ 1 ∧ max 2 3 = 3 ∧ (1 : Nat) < max 2 1) ∧
    (∀ x ∈ [[48, 0], [48, 1], [69, 0], [69, 1]],
      Served .setField (ask .setField x) [] (asked .setField x (inLine .standby))) := by
  refine ⟨?_, by simp only [SlotFree]; decide +kernel, by decide, ?_⟩
  · intro auto n hn
    exact served_of (by revert n; revert auto; decide +kernel)
  · intro x hx
    exact served_of (by revert x; decide +kernel)

/-- The class list of FACED_LEAD, 1 then 2, is kept by a value that names pocket 1 and refused by one that leaves a
pocket with a letter out. -/
theorem witness_SetFieldStores_inUse :
    classInUse (Profile.builtin.setField 60 (.pockets [2]))
      (pocket1 (fun p => { p with delivered := 1 }) (trays (inLine .stopped))) = true ∧
    classInUse (Profile.builtin.setField 60 (.pockets [2])) (trays (inLine .stopped)) = false := by decide +kernel

/-! ### The link: states that meet the hypotheses -/

/-- A number of requests in the request queue. -/
def requests (n : Nat) (s : State) : State :=
  { s with lki := { s.lki with requests := List.replicate n (ask .getStatus []) } }

/-- An accepted RESET waits. -/
def resetWaits (s : State) : State := { s with lki := { s.lki with resetPending := true } }

/-- A calibration of channel A-U runs, in a phase, with its face outstanding or not. -/
def calibrating (phase : CalPhase) (outstanding : Bool) (s : State) : State :=
  { s with lch := { s.lch with
      outstanding := ⟨outstanding, false⟩, calib := some { Calibration.start [.au] s with phase := phase } } }

theorem witness_GoodFrameTaken :
    ((inLine .stopped).inReset = false ∧ (inLine .stopped).lki.rx = .hunt ∧
      (List.replicate 248 (0x55 : Byte)).length ≤ 248 ∧ (inLine .stopped).lki.resetPending = false ∧
      (inLine .stopped).lki.requests.length < 4 ∧ (inLine .stopped).lch.calib = none) ∧
    ((requests 3 (inLine .stopped)).lki.requests.length < 4 ∧ (requests 3 (inLine .stopped)).lki.rx = .hunt) ∧
    ((resetWaits (inLine .stopped)).lki.resetPending = true ∧ (resetWaits (inLine .stopped)).lki.rx = .hunt) ∧
    ((calibrating .settle false (inLine .stopped)).lch.calib =
        some { Calibration.start [.au] (inLine .stopped) with phase := .settle } ∧ (ask .start []).kind = 0x10 ∧
      (calibrating .settle false (inLine .stopped)).lki.rx = .hunt) ∧
    (4 ≤ (requests 4 (inLine .stopped)).lki.requests.length ∧ (requests 4 (inLine .stopped)).lki.rx = .hunt) := by
  decide +kernel

/-- A frame being sent in the mode. -/
def transmitting (mode : LinkMode) : State :=
  { inLine .stopped with lki := { (inLine .stopped).lki with mode := mode, sending := true } }

/-- A frame of 6 characters is heard while the part sends in the FULL mode, and in the HALF mode where none of them comes
during it; it is discarded where all of them come during it. -/
theorem witness_GoodFrameTaken_sending :
    (Heard ⟨frameBytes ⟨1, 7, []⟩, 5⟩ (transmitting .full) ∧ Heard ⟨frameBytes ⟨1, 7, []⟩, 0⟩ (transmitting .half) ∧
      (transmitting .half).lki.rx = .hunt ∧ (transmitting .full).lki.rx = .hunt) ∧
    ((transmitting .half).lki.sending = true ∧ (transmitting .half).lki.mode = .half ∧
      (frameBytes ⟨1, 7, []⟩).length ≤ 6 ∧ [(0xA5 : Byte)].length + 1 ≤ 2) := by
  simp only [Heard]; decide +kernel

/-- The receiver in a state of its own. -/
def receiving (x : Receiver) : State := { inLine .stopped with lki := { State.reset.lki with rx := x } }

theorem witness_BadFramesCounted :
    ((receiving .hunt).inReset = false ∧ (receiving .hunt).lki.rx = .hunt ∧
      Heard ⟨[0xA5, 0x01], 0⟩ (transmitting .half) ∧
      wellFormed (.badFrame ⟨[0xA5, 0x01], 0⟩ false) = true ∧ wellFormed (.badFrame ⟨[0xA5, 0xFB], 0⟩ false) = true ∧
      wellFormed (.badFrame ⟨[0xA5, 2, 1, 7, 0, 0], 0⟩ false) = true ∧
      wellFormed (.badFrame ⟨[0xA5], 0⟩ true) = true) ∧
    ((receiving .length).inReset = false ∧ (receiving .length).lki.rx ≠ .hunt) := by
  simp only [Heard]; decide +kernel

theorem witness_LinkRefusals :
    (Ready .stop ⟨ReqKind.stop.code, 7, []⟩ [] (asked .stop [] (inLine .loading)) ∧
      linkRefusal .stop (ask .stop []) (asked .stop [] (inLine .loading)) = some .notReady) ∧
    (linkRefusal .stop ⟨0x11, 0, []⟩ (inLine .loading) = some .badValue ∧
      lengthRefusal .stop [1] = some .badLength ∧ lengthRefusal .getField [73] = some .badValue ∧
      lengthRefusal .stop [] = none ∧ (inLine .loading).lnc.line = .loading ∧ (inLine .stopped).lnc.line ≠ .loading) ∧
    (∀ k : ReqKind, (0x7F : Byte) ≠ k.code) ∧
    dispatchable ⟨0x7F, 7, []⟩ (inLine .stopped) = true ∧
    ((asked .stop [] (inLine .stopped)).lki.requests = [ask .stop []] ∧ (ask .stop []).kind ≠ ReqKind.start.code ∧
      (inLine .stopped).lki.resetPending = false) := by
  refine ⟨⟨ready_of ?_, ?_⟩, ?_, fun k => ?_, ?_, ?_⟩
  · decide +kernel
  · decide +kernel
  · decide +kernel
  · cases k <;> decide
  · decide +kernel
  · decide +kernel

/-- A deferred reply holds back every request, and RESET waits for an empty reply queue. -/
theorem witness_LinkRefusals_waiting :
    replyDeferred reservedSecond = true ∧ reservedSecond.lki.replies ≠ [] ∧
    4 ≤ (List.replicate 4 (ReplyPlace.composed ⟨0x81, 3, [0]⟩)).length := by decide +kernel

/-- A reserved place before a composed reply. -/
def composedSecond (mode : LinkMode) (rx : Receiver) : State :=
  { inLine .stopped with lki := { State.reset.lki with
      mode := mode, rx := rx, replies := [.reserved 0x30 7] ++ .composed ⟨0x81, 3, [0]⟩ :: [] } }

/-- A notice due, with the pending set `e`, behind a deferred reply. -/
def noticeDue (e : EventSet) : State :=
  { inLine .stopped with lki := { State.reset.lki with
      noticeDue := true, events := e, replies := [.reserved 0x30 7] } }

/-- A report waits, in a link mode. -/
def reportWaits (mode : LinkMode) : State :=
  { inLine .stopped with lki := { State.reset.lki with mode := mode, reports := [reportOf culled .delivered] } }

theorem witness_FramesSentInOrder :
    ((∀ p ∈ [ReplyPlace.reserved 0x30 7], ∃ kind tag, p = .reserved kind tag) ∧
      (composedSecond .full .length).lki.replies = [.reserved 0x30 7] ++ .composed ⟨0x81, 3, [0]⟩ :: []) ∧
    ((composedSecond .full .length).inReset = false ∧ (composedSecond .full .length).lki.mode = .full ∧
      (composedSecond .half .hunt).lki.rx = .hunt ∧ (composedSecond .half .length).lki.mode = .half ∧
      (composedSecond .half .length).lki.rx ≠ .hunt) ∧
    ((noticeDue 1).lki.replies = [.reserved 0x30 7] ∧ (noticeDue 1).lki.mode = .full ∧
      (noticeDue 1).lki.noticeDue = true ∧ (noticeDue 1).lki.events &&& (noticeDue 1).prl.profile.eventMask ≠ 0 ∧
      (noticeDue 0).lki.events &&& (noticeDue 0).prl.profile.eventMask = 0 ∧
      (noticeDue 1).lki.resetPending = false ∧ (resetWaits (noticeDue 1)).lki.resetPending = true) ∧
    ((reportWaits .full).lki.resetPending = false ∧ (reportWaits .full).lki.noticeDue = false ∧ (reportWaits .full).lki.replies = [] ∧
      (reportWaits .full).lki.reports = [reportOf culled .delivered] ∧ (reportWaits .half).lki.mode = .half) :=
  ⟨⟨by simp, rfl⟩, by decide +kernel, by decide +kernel, by decide +kernel⟩

/-- In the HALF mode DE falls between two replies sent back to back, and once more when the second has ended (R167). -/
theorem test_deFallsBetweenFrames :
    let s := { composedSecond .half .hunt with lki := { (composedSecond .half .hunt).lki with
      replies := [.composed ⟨0x81, 3, [0]⟩, .composed ⟨0x82, 4, [0]⟩] } }
    ([s, sendReply s, sendReply (sendReply s), endSending (sendReply (sendReply s))].map fun s =>
      (dePin s, s.lki.deFalls)) = [(false, 0), (true, 0), (true, 1), (false, 2)] := by decide +kernel

theorem witness_ReadRequestsChangeNothing :
    Served .identify (ask .identify []) [] (asked .identify [] State.reset) ∧
    Served .getStatus (ask .getStatus []) [] (asked .getStatus [] State.reset) ∧
    Served .getPostmark (ask .getPostmark []) [] (asked .getPostmark [] (inLine .running)) ∧
    Served .readChannels (ask .readChannels []) [] (asked .readChannels [] (inLine .running)) ∧
    Served .readPockets (ask .readPockets []) [] (asked .readPockets [] (inLine .running)) ∧
    Served .readTallies (ask .readTallies []) [] (asked .readTallies [] (inLine .running)) ∧
    (Served .getField (ask .getField [72]) [] (asked .getField [72] (inLine .running)) ∧
      (inLine .running).prl.profile.field (72 : Byte).toNat = some (.code 1)) := by
  refine ⟨served_of ?_, served_of ?_, served_of ?_, served_of ?_, served_of ?_, served_of ?_, served_of ?_, ?_⟩ <;>
    decide +kernel

theorem witness_PollCarriesReports :
    Served .poll (ask .poll []) [] (asked .poll [] (reportWaits .half)) := served_of (by decide +kernel)

theorem witness_EventSetRules :
    (attnPin (raise .wake (inLine .running)) = true ∧ attnPin (inLine .running) = false) ∧
    Served .setEventMask (ask .setEventMask [63, 255]) [] (asked .setEventMask [63, 255] (inLine .running)) ∧
    Served .setEventMask (ask .setEventMask [64, 0]) [] (asked .setEventMask [64, 0] (inLine .running)) ∧
    Served .clearEvents (ask .clearEvents [63, 255]) [] (asked .clearEvents [63, 255] (noticeDue 3 |> fun s =>
      { s with lki := { s.lki with replies := [] } })) ∧
    Served .clearEvents (ask .clearEvents [64, 0]) [] (asked .clearEvents [64, 0] (inLine .running)) ∧
    Served .setReportMode (ask .setReportMode [2]) [] (asked .setReportMode [2] (inLine .running)) ∧
    Served .setReportMode (ask .setReportMode [3]) [] (asked .setReportMode [3] (inLine .running)) := by
  refine ⟨?_, served_of ?_, served_of ?_, served_of ?_, served_of ?_, served_of ?_, served_of ?_⟩ <;> decide +kernel

theorem witness_SoftResetActs_requested :
    Served .reset (ask .reset []) [] (asked .reset [] (inLine .stopped)) ∧
    (Served .reset (ask .reset []) [] (asked .reset [] (onBelt 0 false (inLine .faulted))) ∧
      (onBelt 0 false (inLine .faulted)).trk.moving = false) ∧
    (Served .reset (ask .reset []) [] (asked .reset [] (inLine .faulted)) ∧
      ¬ ((inLine .faulted).lnc.line = .stopped ∨ (inLine .faulted).lnc.line = .standby ∨
        ((inLine .faulted).lnc.line = .faulted ∧ (inLine .faulted).trk.moving = false))) := by
  refine ⟨served_of ?_, ⟨served_of ?_, ?_⟩, served_of ?_, ?_⟩ <;> decide +kernel

theorem witness_SoftResetActs :
    ((inLine .stopped).inReset = false ∧ (inLine .stopped).lki.resetPending = false) ∧
    (resetWaits reservedSecond).lki.replies ≠ [] ∧
    ((resetWaits (inLine .stopped)).lki.resetPending = true ∧ (resetWaits (inLine .stopped)).lki.replies = []) := by
  decide +kernel

/-! ### The line: states that meet the hypotheses -/

/-- A date is set. -/
def dated (s : State) : State := { s with cnu := { s.cnu with date := some ⟨2031, 5, 20⟩ } }

/-- ESTOP_N is active. -/
def stopPressed (s : State) : State := { s with inputs := { s.inputs with estop := true } }

/-- The profile changed. -/
def profiled (f : Profile → Profile) (s : State) : State := { s with prl := { s.prl with profile := f s.prl.profile } }

/-- The line controller's timers and counts changed. -/
def timed (f : LineController → LineController) (s : State) : State := { s with lnc := f s.lnc }

theorem witness_StartEntersStarting :
    (Served .start (ask .start []) [] (asked .start [] (inLine .running)) ∧
      (inLine .running).lnc.line ≠ .stopped ∧ (inLine .running).lnc.line ≠ .standby) ∧
    (Served .start (ask .start []) [] (asked .start [] (profiled (fun p => { p with sPos := 16000 }) (inLine .stopped))) ∧
      (profiled (fun p => { p with sPos := 16000 }) (inLine .stopped)).prl.profile.firstFailing.isSome = true) ∧
    (Served .start (ask .start []) [] (asked .start [] (inLine .standby)) ∧
      (inLine .standby).prl.profile.firstFailing = none ∧ (inLine .standby).cnu.date = none) ∧
    (Served .start (ask .start []) [] (asked .start [] (stopPressed (dated (inLine .stopped)))) ∧
      (stopPressed (dated (inLine .stopped))).cnu.date.isSome = true ∧
      (stopPressed (dated (inLine .stopped))).inputs.estop = true) ∧
    (Served .start (ask .start []) [] (asked .start [] (dated (inLine .stopped))) ∧
      (dated (inLine .stopped)).prl.profile.firstFailing = none ∧
      (dated (inLine .stopped)).cnu.date.isSome = true ∧ (dated (inLine .stopped)).inputs.estop = false) := by
  refine ⟨⟨served_of ?_, ?_⟩, ⟨served_of ?_, ?_⟩, ⟨served_of ?_, ?_⟩, ⟨served_of ?_, ?_⟩, ⟨served_of ?_, ?_⟩⟩ <;>
    decide +kernel

theorem witness_StopEntersStopping :
    (Served .stop (ask .stop []) [] (asked .stop [] (carrying [fresh] (inLine .running))) ∧
      (carrying [fresh] (inLine .running)).trk.letters ≠ []) ∧
    (Served .stop (ask .stop []) [] (asked .stop [] (inLine .starting)) ∧
      (inLine .starting).trk.letters = [] ∧ (inLine .starting).trk.moving = true) ∧
    (Served .stop (ask .stop []) [] (asked .stop [] (onBelt 0 false (inLine .starting))) ∧
      (onBelt 0 false (inLine .starting)).trk.letters = [] ∧
      (onBelt 0 false (inLine .starting)).trk.moving = false) ∧
    Served .stop (ask .stop []) [] (asked .stop [] (inLine .stopping)) ∧
    Served .stop (ask .stop []) [] (asked .stop [] (inLine .faulted)) := by
  refine ⟨⟨served_of ?_, ?_⟩, ⟨served_of ?_, ?_⟩, ⟨served_of ?_, ?_⟩, served_of ?_, served_of ?_⟩ <;> decide +kernel

theorem witness_StandbyAndWake :
    Served .standby (ask .standby []) [] (asked .standby [] (inLine .stopped)) ∧
    Served .standby (ask .standby []) [] (asked .standby [] (inLine .standby)) ∧
    (Served .standby (ask .standby []) [] (asked .standby [] (inLine .running)) ∧
      (inLine .running).lnc.line ≠ .stopped ∧ (inLine .running).lnc.line ≠ .standby) ∧
    ((timed (fun c => { c with wake := some 50 }) (inLine .standby)).lnc.line = .standby ∧
      (timed (fun c => { c with wake := some 50 }) (inLine .standby)).lnc.wake.isSome = true ∧
      (inLine .standby).inReset = false ∧ (inLine .standby).lnc.wake = none) := by
  refine ⟨served_of ?_, served_of ?_, ⟨served_of ?_, ?_⟩, ?_⟩ <;> decide +kernel

theorem witness_ClearFaultAndFeedHold :
    (feedPin (inLine .running) = true ∧ feedPin (inLine .starting) = false) ∧
    (Served .clearFault (ask .clearFault []) [] (asked .clearFault [] (inLine .stopped)) ∧
      (inLine .stopped).lnc.line ≠ .faulted) ∧
    (Served .clearFault (ask .clearFault []) [] (asked .clearFault [] (inLine .faulted)) ∧
      (inLine .faulted).trk.moving = true) ∧
    (Served .clearFault (ask .clearFault []) [] (asked .clearFault [] (stopPressed (onBelt 0 false (inLine .faulted)))) ∧
      (stopPressed (onBelt 0 false (inLine .faulted))).inputs.estop = true) ∧
    (Served .clearFault (ask .clearFault []) [] (asked .clearFault [] (onBelt 0 false (inLine .faulted))) ∧
      (onBelt 0 false (inLine .faulted)).trk.moving = false ∧
      (onBelt 0 false (inLine .faulted)).inputs.estop = false) ∧
    Served .holdFeed (ask .holdFeed []) [] (asked .holdFeed [] (inLine .running)) ∧
    Served .releaseFeed (ask .releaseFeed []) [] (asked .releaseFeed [] (inLine .faulted)) := by
  refine ⟨?_, ⟨served_of ?_, ?_⟩, ⟨served_of ?_, ?_⟩, ⟨served_of ?_, ?_⟩, ⟨served_of ?_, ?_⟩, served_of ?_,
    served_of ?_⟩ <;> decide +kernel

/-- STARTING with its timer running and `n` windows at speed. -/
def startingAt (n : Nat) : State := timed (fun c => { c with startTimer := some 3000, atSpeed := n }) (inLine .starting)

/-- STOPPING in its drain phase, with one letter left. -/
def draining : State :=
  carrying [fresh] (timed (fun c => { c with drainTimer := .running 6000 }) (inLine .stopping))

/-- STOPPING after the drain, the stop timer running. -/
def stoppingBelt : State := timed (fun c => { c with drainTimer := .held 6000, stopTimer := some 2000 }) (inLine .stopping)

theorem witness_TimersAndEstop :
    ((startingAt 9).inReset = false ∧ (startingAt 9).lnc.line = .starting ∧
      (startingAt 9).lnc.startTimer.isSome = true ∧ (startingAt 9).lnc.atSpeed < 10 ∧
      10 ≤ (startingAt 10).lnc.atSpeed) ∧
    (draining.inReset = false ∧ draining.lnc.line = .stopping ∧ draining.lnc.drainTimer = .running 6000 ∧
      draining.trk.letters ≠ []) ∧
    (stoppingBelt.lnc.line = .stopping ∧ stoppingBelt.lnc.stopTimer.isSome = true ∧ stoppingBelt.trk.moving = true ∧
      (onBelt 0 false stoppingBelt).trk.moving = false) ∧
    ((inLine .standby).inputs.estop = false ∧ (inLine .standby).lnc.line ≠ .faulted ∧
      (inLine .standby).lnc.line ≠ .loading ∧ (stopPressed (inLine .standby)).inputs.estop = true) := by
  decide +kernel

/-- A number of pulses counted in the running window. -/
def pulses (n : Nat) (s : State) : State := { s with trk := { s.trk with windowCount := n } }

/-- Every channel LOCKED. -/
def allLockedNow (s : State) : State :=
  { s with lch := { s.lch with chans := .all { Channel.initial with state := .locked, baccE := 3200, baccL := 3200 } } }

theorem witness_SpeedWindowSupervises :
    ((inLine .stopped).inReset = false ∧ (inLine .stopped).lnc.line ≠ .starting ∧
      (inLine .stopped).lnc.line ≠ .running ∧
      ¬ ((inLine .stopped).lnc.line = .stopping ∧ (inLine .stopped).lnc.stopTimer = none)) ∧
    (59 * 100 < (startingAt 8).prl.profile.minSpeed ∧ (startingAt 8).prl.profile.minSpeed ≤ 60 * 100 ∧
      (pulses 60 (startingAt 8)).lnc.atSpeed < 9 ∧ 9 ≤ (pulses 60 (startingAt 9)).lnc.atSpeed ∧
      (∀ c, ((allLockedNow (startingAt 9)).lch.chans.get c).state = .locked)) ∧
    (draining.lnc.line = .stopping ∧ draining.lnc.stopTimer = none ∧ draining.lnc.below + 1 < 20) ∧
    20 ≤ (timed (fun c => { c with below := 19 }) (inLine .running)).lnc.below + 1 := by
  refine ⟨by decide +kernel, ⟨by decide +kernel, by decide +kernel, by decide +kernel, by decide +kernel, ?_⟩,
    by decide +kernel, by decide +kernel⟩
  intro c; cases c <;> rfl

theorem witness_BeltPulseAndStillness :
    ((inLine .running).inReset = false ∧ (onBelt 0xFFFFFFFF true (inLine .running)).inReset = false) ∧
    (onBelt 0 false (inLine .running)).trk.moving = false ∧
    ((inLine .running).trk.moving = true ∧ (inLine .running).lnc.line ≠ .faulted ∧
      ¬ ((inLine .running).lnc.line = .stopping ∧ (inLine .running).lnc.stopTimer.isSome = true)) ∧
    (stoppingBelt.trk.moving = true ∧ stoppingBelt.lnc.line = .stopping ∧ stoppingBelt.lnc.stopTimer.isSome = true) ∧
    ((inLine .faulted).trk.moving = true ∧ (inLine .faulted).lnc.line = .faulted) := by
  decide +kernel

/-! ### Transport: states that meet the hypotheses -/

/-- E0 blocked. -/
def e0Blocked (s : State) : State := { s with inputs := { s.inputs with e0 := true } }

/-- Letter 5 is being measured at E0. -/
def measuring5 (s : State) : State := { s with trk := { s.trk with measuring := some 5 } }

theorem witness_InductionMakesRecord :
    ((inLine .faulted).inReset = false ∧ (inLine .faulted).inputs.e0 = false) ∧
    ((carrying (List.replicate 47 fresh) (inLine .running)).inReset = false ∧
      (carrying (List.replicate 47 fresh) (inLine .running)).trk.letters.length < 48 ∧
      (carrying (List.replicate 47 fresh) (inLine .running)).held = none ∧
      (carrying (List.replicate 47 fresh) (inLine .running)).inputs.e0 = false) ∧
    (stoppingBelt.trk.letters.length < 48 ∧ stoppingBelt.held = none ∧ stoppingBelt.inputs.e0 = false ∧
      stoppingBelt.lnc.drainTimer = .held 6000) := by
  decide +kernel

/-- RUNNING, with letter `l` alone in the list and the belt at `belt`. -/
def running (l : Letter) (belt : Pos) : State := onBelt belt true (carrying [l] (inLine .running))

theorem witness_JamsMakeFaulted :
    ((inLine .standby).inReset = false ∧ (inLine .standby).inputs.e0 = false) ∧
    (48 ≤ (carrying (List.replicate 48 fresh) (inLine .running)).trk.letters.length ∧
      (carrying (List.replicate 48 fresh) (inLine .running)).inputs.e0 = false) ∧
    (Eye.pe 0 ≠ .e0 ∧ (running stamped 4000).inputs.blocked (.pe 0) = false ∧
      (running stamped 4000).lnc.line.sampling = true ∧ waitingAt (.pe 0) (running stamped 4000) = none) ∧
    (waitingAt .e1 (running stamped 4275) = some stamped ∧ (running stamped 4275).inputs.blocked .e1 = false ∧
      reached 4275 (expiryPointAt Profile.builtin stamped .e1) = false ∧
      reached 4275 (openPoint Profile.builtin stamped .e1) = false) ∧
    (findLetter 5 (running stamped 4325) = some stamped ∧ Eye.e1 ∈ expectedEyes stamped ∧ Eye.e1 ∉ stamped.arrived ∧
      ¬ (deliveryEye stamped .e1 = true ∧ undeliverable stamped (running stamped 4325) = true) ∧
      reached 4325 (expiryPointAt Profile.builtin stamped .e1) = true) ∧
    (measuredLetter (measuring5 (e0Blocked (running fresh 3641))) = some fresh ∧
      (measuring5 (e0Blocked (running fresh 3641))).inputs.e0 = true ∧ due 3641 fresh.blockedPoint = true) := by
  decide +kernel

/-- Letter 5 alone, its trailing edge due at 1460, with the scan station at E0 and a flash made at `pos`. -/
def measuredAtE0 (pos : Pos) : State :=
  let s := measuring5 (e0Blocked (profiled (fun p => { p with sPos := 0 }) (running fresh 1460)))
  { s with lch := { s.lch with flashPos := some pos } }

theorem witness_TrailingEdgeMeasures :
    ((e0Blocked (inLine .running)).inReset = false ∧ (e0Blocked (inLine .running)).inputs.e0 = true ∧
      measuredLetter (e0Blocked (inLine .running)) = none) ∧
    (measuredLetter (measuring5 (e0Blocked (running fresh 1239))) = some fresh ∧
      (measuring5 (e0Blocked (running fresh 1239))).lnc.line ≠ .loading ∧
      (measuring5 (e0Blocked (running fresh 1239))).lnc.line ≠ .faulted) ∧
    measuredLetter (measuring5 (e0Blocked (running fresh 1661))) = some fresh ∧
    (measuredLetter (measuredAtE0 1460) = some fresh ∧ due 1460 fresh.longPoint = false ∧
      (measuredAtE0 1460).lch.flashPos = some 1460 ∧
      scanEndsBy (measuredAtE0 1460).prl.profile 1460 { measured with results := none } = true ∧
      scanEndsBy (measuredAtE0 1459).prl.profile 1459 { measured with results := none } = false ∧
      successor 5 (measuredAtE0 1460).trk.letters = none ∧
      due 1460 (pairPointOf (measuredAtE0 1460).prl.profile measured) = false ∧
      reached 1460 (verdictLimitOf (measuredAtE0 1460).prl.profile measured) = false) := by
  decide +kernel

theorem witness_LongPointRejects :
    (running fresh 1661).inReset = false ∧ longDue (running fresh 1661) = some fresh ∧
    findLetter fresh.id (running fresh 1661) = some fresh := by
  decide +kernel

/-- An eye blocked. -/
def eyeBlocked (e : Eye) (s : State) : State := { s with inputs := s.inputs.setEye e true }

theorem witness_ArrivalMarksAndResynchronises :
    ((inLine .stopped).inReset = false ∧ Eye.e1 ≠ .e0 ∧ (inLine .stopped).lnc.line.sampling = false ∧
      (inLine .stopped).inputs.blocked .e1 = false ∧ (eyeBlocked .e1 (inLine .stopped)).inputs.blocked .e1 = true) ∧
    (waitingAt .e1 (running stamped 4276) = some stamped ∧ deliveryEye stamped .e1 = false ∧
      (running stamped 4276).inputs.blocked .e1 = false ∧
      reached 4276 (openPoint Profile.builtin stamped .e1) = true ∧
      reached 4324 (expiryPointAt Profile.builtin stamped .e1) = false) ∧
    (waitingAt .e3 (running stamped 6574) = some stamped ∧ deliveryEye stamped .e3 = false ∧
      (running stamped 6574).inputs.blocked .e3 = false ∧
      reached 6574 (openPoint Profile.builtin stamped .e3) = true ∧
      reached 6574 (expiryPointAt Profile.builtin stamped .e3) = false ∧
      (24 : Int) = posDiff (stamped.lePos + BitVec.ofNat 32 Profile.builtin.e3Pos) 6574) := by
  decide +kernel

/-- Letter 5 at its pocket eye PE1, whose tray is there or not. -/
def atPocket (st : PocketState) (belt : Pos) : State := pocket1 (fun p => { p with state := st }) (running bound belt)

/-- The report queue with `n` reports. -/
def reporting (n : Nat) (s : State) : State :=
  { s with lki := { s.lki with reports := List.replicate n (reportOf culled .delivered) } }

theorem witness_LettersLeaveAtPocketEye :
    (Eye.pe 0 ≠ .e0 ∧ (atPocket .open 7744).inReset = false ∧ (atPocket .open 7744).lnc.line.sampling = true ∧
      (atPocket .open 7744).inputs.blocked (.pe 0) = false ∧
      waitingAt (.pe 0) (atPocket .open 7744) = some bound ∧ findLetter 5 (atPocket .open 7744) = some bound ∧
      bound.dest = some ⟨1, some .facedLead⟩ ∧ pocketEye 1 = .pe 0 ∧
      reached 7744 (openPoint Profile.builtin bound (.pe 0)) = true ∧
      reached 7744 (expiryPointAt Profile.builtin bound (.pe 0)) = false ∧
      undeliverable bound (atPocket .open 7744) = false ∧ undeliverable bound (atPocket .noTray 7744) = true ∧
      reportCalled .all bound .delivered = true ∧ reportCalled .cullOnly bound .delivered = false) ∧
    (findLetter 5 (atPocket .noTray 7745) = some bound ∧ expiryStands bound (.pe 0) = true ∧
      deliveryEye bound (.pe 0) = true ∧ undeliverable bound (atPocket .noTray 7745) = true ∧
      reached 7745 (expiryPointAt Profile.builtin bound (.pe 0)) = true ∧
      reportCalled .cullOnly bound .lostNoTray = true) ∧
    ((reporting 63 (atPocket .open 7744)).lki.reports.length < 64 ∧
      64 ≤ (reporting 64 (atPocket .open 7744)).lki.reports.length) := by
  decide +kernel

/-- Pocket 1 with letter 5 alone on its way to it, in a state with a number of letters delivered. -/
def receivingTray (st : PocketState) (delivered : Nat) (belt : Pos) : State :=
  pocket1 (fun p => { p with state := st, delivered := delivered, pending := 1, trayClass := some .facedLead })
    (running bound belt)

theorem witness_RemovalsCounted :
    ((receivingTray .open 499 7744).inReset = false ∧ (receivingTray .open 499 7744).inputs.blocked (.pe 0) = false ∧
      waitingAt (.pe 0) (receivingTray .open 499 7744) = some bound ∧
      findLetter bound.id (receivingTray .open 499 7744) = some bound ∧
      undeliverable bound (receivingTray .open 499 7744) = false ∧
      ((receivingTray .open 499 7744).pkm.pockets[(1 : PocketNo)]).state = .open ∧ isBank 1 = true ∧
      500 = min (((receivingTray .open 499 7744).pkm.pockets[(1 : PocketNo)]).delivered + 1) 65535 ∧
      500 = (receivingTray .open 499 7744).prl.profile.limits[(1 : PocketNo)] ∧
      SlotFree (receivingTray .open 499 7744) ∧ (receivingTray .open 499 7744).prl.profile.autoClose = true) ∧
    (1 = min (((receivingTray .open 0 7744).pkm.pockets[(1 : PocketNo)]).delivered + 1) 65535 ∧
      1 ≠ (receivingTray .open 0 7744).prl.profile.limits[(1 : PocketNo)]) ∧
    (((receivingTray .draining 7 7744).pkm.pockets[(1 : PocketNo)]).state = .draining ∧
      ((receivingTray .draining 7 7744).pkm.pockets[(1 : PocketNo)]).pending - 1 = 0 ∧
      undeliverable bound (receivingTray .draining 7 7744) = false) ∧
    (bound.dest = some ⟨1, some .facedLead⟩ ∧ findLetter 5 (receivingTray .noTray 0 7745) = some bound ∧
      pocketEye 1 = .pe 0 ∧ expiryStands bound (.pe 0) = true ∧
      undeliverable bound (receivingTray .noTray 0 7745) = true ∧
      reached 7745 (expiryPointAt Profile.builtin bound (.pe 0)) = true) := by
  simp only [SlotFree]; decide +kernel

/-- G0 owned by letter 4 until 4459, and letter 5 waiting for it or not. -/
def gateOwned (waits : Bool) (belt : Pos) : State :=
  setGate .g0 ⟨some ⟨4, true, some 4459⟩, true⟩
    (running (if waits then { stamped with setupReached := [.g0] } else stamped) belt)

/-- G0 owned by letter 5 with its release point as given, letter 6 waiting for it, and pocket 0 in a state. -/
def gateLeft (l : Letter) (point : Option Pos) (belt : Pos) (st : PocketState) : State :=
  setGate .g0 ⟨some ⟨5, true, point⟩, true⟩ (updatePocket 0 (fun p => { p with state := st })
    (onBelt belt true (carrying [l, { stamped with id := 6, setupReached := [.g0], lePos := 3000 }] (inLine .running))))

/-- A culled letter that is marked LONG, its trailing edge still to come. -/
def culledLong : Letter :=
  { culled with length := none, flags := ⟨false, false, true, false⟩, owned := [.g0], setupReached := [.g0] }

theorem witness_GatesTakenAndReleased_passed :
    (findLetter 5 (running stamped 4460) = some stamped ∧ (gateOf .g0 (running stamped 4460)).owner = none ∧
      reached 4460 (setupPointAt Profile.builtin stamped .g0) = true ∧
      due 4460 (releasePointOf Profile.builtin stamped .g0) = true) ∧
    (due 4460 (some 4459) = true ∧ nextOwner .g0 (gateOwned true 4460) = some { stamped with setupReached := [.g0] } ∧
      due 4460 (releasePointOf Profile.builtin { stamped with setupReached := [.g0] } .g0) = true) ∧
    (waitingAt .ec (gateLeft culledLong none 4300 .open) = some culledLong ∧
      findLetter 5 (gateLeft culledLong none 4300 .open) = some culledLong ∧
      (gateLeft culledLong none 4300 .open).inputs.blocked .ec = false ∧
      (gateLeft culledLong none 4300 .open).lnc.line.sampling = true ∧ deliveryEye culledLong .ec = true ∧
      undeliverable culledLong (gateLeft culledLong none 4300 .open) = false ∧
      reached 4300 (openPoint Profile.builtin culledLong .ec) = true ∧
      reached 4300 (expiryPointAt Profile.builtin culledLong .ec) = false ∧
      (gateOf .g0 (gateLeft culledLong none 4300 .open)).owner = some ⟨5, true, none⟩ ∧
      (gateOf .g0 (gateLeft culledLong (some 4400) 4300 .open)).owner = some ⟨5, true, some 4400⟩ ∧
      due 4300 (releasePointOf Profile.builtin { stamped with id := 6, setupReached := [.g0], lePos := 3000 } .g0) =
        false) ∧
    (expiryStands culledLong .ec = true ∧ undeliverable culledLong (gateLeft culledLong none 4325 .noTray) = true ∧
      reached 4325 (expiryPointAt Profile.builtin culledLong .ec) = true) := by
  decide +kernel

/-- Letter 5 being measured at E0 with its leading edge at 1000, while it owns G0, which lies at `g0`. -/
def ownsG0 (g0 : Nat) (belt : Pos) : State :=
  setGate .g0 ⟨some ⟨5, true, none⟩, true⟩ (measuring5 (e0Blocked (profiled (fun p => { p with g0Pos := g0 })
    (running { fresh with owned := [.g0], setupReached := [.g0] } belt))))

theorem witness_GatesTakenAndReleased_measured :
    (∀ g0 ∈ [0, 100], (ownsG0 g0 1460).inReset = false ∧ (ownsG0 g0 1460).inputs.e0 = true ∧
      (ownsG0 g0 1460).lnc.line = .running ∧
      measuredLetter (ownsG0 g0 1460) = some { fresh with owned := [.g0], setupReached := [.g0] } ∧
      (gateOf .g0 (ownsG0 g0 1460)).owner = some ⟨5, true, none⟩) ∧
    reached 1460 (1000 + BitVec.ofNat 32 0 + BitVec.ofInt 32 (posDiff 1000 1460)) = true ∧
    reached 1460 (1000 + BitVec.ofNat 32 100 + BitVec.ofInt 32 (posDiff 1000 1460)) = false := by
  decide +kernel

/-- Letter 5 at its pocket decision point while letter `id` owns BG1. -/
def ownsBg1 (id : LetterId) : State :=
  setGate (.bg 0) ⟨some ⟨id, false, some 8000⟩, false⟩ (running { stamped with pdecPoint := some 7400 } 7400)

/-- BG1 is owned by the letter itself, or by another. -/
theorem witness_GatesTakenAndReleased_decided :
    ((ownsBg1 5).inReset = false ∧ findLetter 5 (ownsBg1 5) = some { stamped with pdecPoint := some 7400 } ∧
      due (ownsBg1 5).trk.belt (some 7400) = true ∧
      (gateOf (.bg 0) (ownsBg1 5)).owner = some ⟨5, false, some 8000⟩) ∧
    (findLetter 5 (ownsBg1 6) = some { stamped with pdecPoint := some 7400 } ∧
      (gateOf (.bg 0) (ownsBg1 6)).owner = some ⟨6, false, some 8000⟩) := by
  decide +kernel

theorem witness_GatesTakenAndReleased :
    (findLetter 5 (running stamped 3950) = some stamped ∧ GateId.g0 ∈ routeGates stamped ∧
      GateId.g0 ∉ stamped.setupReached ∧ reached 3950 (setupPointAt Profile.builtin stamped .g0) = true ∧
      (gateOf .g0 (running stamped 3950)).owner = none ∧
      due 3950 (releasePointOf Profile.builtin stamped .g0) = false) ∧
    (gateOf .g0 (gateOwned false 3950)).owner.isSome = true ∧
    ((gateOf .g0 (gateOwned false 4458)).owner = some ⟨4, true, some 4459⟩ ∧ due 4458 (some 4459) = false) ∧
    ((gateOf .g0 (gateOwned false 4459)).owner = some ⟨4, true, some 4459⟩ ∧ due 4459 (some 4459) = true ∧
      nextOwner .g0 (gateOwned false 4459) = none) ∧
    ((gateOf .g0 (gateOwned true 4459)).owner = some ⟨4, true, some 4459⟩ ∧
      nextOwner .g0 (gateOwned true 4459) = some { stamped with setupReached := [.g0] } ∧
      due 4459 (releasePointOf Profile.builtin { stamped with setupReached := [.g0] } .g0) = false) ∧
    measured.length = some 460 := by
  decide +kernel

/-! ### The luminescence channels: states that meet the hypotheses -/

/-- RUNNING with a travel flash made at `pos`, one face outstanding, and letter `l` alone in the list. -/
def flashed (l : Letter) (pos : Pos) (outstanding : Bool) : State :=
  let s := allLockedNow (running l pos)
  { s with lch := { s.lch with flashPos := some pos, outstanding := ⟨outstanding, false⟩ } }

/-- A flash due at `pos`, with face A still outstanding and letter `l` alone in the list. -/
def flashDueAt (l : Letter) (pos : Pos) : State :=
  let s := flashed l pos true
  { s with lch := { s.lch with flashDue := some pos } }

/-- A flash due at `pos` with every face's return taken, letter `l` alone in the list, and its scan in progress, the
latest step's sample come or not. -/
def scanning (l : Letter) (pos : Pos) (awaiting : Bool) : State :=
  let s := flashed l pos false
  { s with
    lch := { s.lch with flashDue := some pos }
    scan := some ⟨l.id, .all { RunContext.fresh with awaiting := awaiting, sampled := true }, .all false⟩ }

theorem witness_FlashIsMade :
    ((inLine .running).inReset = false ∧ (inLine .running).lch.flashDue = none) ∧
    ((flashDueAt fresh 2000).lch.flashDue = some 2000 ∧ (flashDueAt fresh 2000).lnc.line.sampling = true ∧
      (flashDueAt fresh 2000).lch.outstanding.get (faceOf .au) = true ∧
      inLetterAt 2000 (flashDueAt fresh 2000) = some fresh) ∧
    ((flashDueAt { measured with results := none } 2460).lch.flashDue = some 2460 ∧
      scanEndsBy Profile.builtin 2460 { measured with results := none } = true ∧
      scanEndsBy Profile.builtin 2459 { measured with results := none } = false ∧
      inLetterAt 2460 (flashDueAt { measured with results := none } 2460) = none) ∧
    (∀ awaiting, (scanning fresh 2004 awaiting).inReset = false ∧
      (scanning fresh 2004 awaiting).lch.flashDue = some 2004 ∧
      (scanning fresh 2004 awaiting).lnc.line.sampling = true ∧
      (scanning fresh 2004 awaiting).lch.outstanding = ⟨false, false⟩ ∧
      inLetterAt 2004 (scanning fresh 2004 awaiting) = some fresh ∧
      ((scanning fresh 2004 awaiting).scan.map ScanContext.letter) = some fresh.id ∧
      ∀ m ∈ (scanning fresh 2004 awaiting).trk.letters, scanEndsBy Profile.builtin 2004 m = false) := by
  decide +kernel

/-- A letter whose scan is to complete, with the flags, and the letters behind it; the flash at 2460 completes it. -/
def completing (flags : LetterFlags) (behind : List Letter) (belt : Pos) : State :=
  { flashDueAt fresh 2460 with
    trk := { (flashDueAt fresh 2460).trk with
      belt := belt, letters := { measured with results := none, flags := flags } :: behind }
    lch := { (flashDueAt fresh 2460).lch with outstanding := ⟨false, false⟩ }
    scan := some ⟨5, .all { RunContext.fresh with awaiting := true, sampled := true }, .all false⟩ }

/-- The letter whose scan is to complete, with the flags. -/
def unjudged (flags : LetterFlags) : Letter := { measured with results := none, flags := flags }

/-- The letter inducted next, with the flags. -/
def follower (flags : LetterFlags) : Letter := { fresh with id := 6, lePos := 2600, flags := flags }

/-- The scan that a flash completes alone: for a letter with a flag that rejects it, and, without one, for each place of
the belt with no successor and for each kind of successor. -/
theorem witness_FlashIsMade_completes :
    ((completing .empty [] 1519).inReset = false ∧ (completing .empty [] 1519).lch.flashDue = some 2460 ∧
      (completing .empty [] 1519).lnc.line.sampling = true ∧
      (completing .empty [] 1519).trk.letters.filter (fun x => scanEndsBy Profile.builtin 2460 x && !x.flags.long) =
        [unjudged .empty] ∧
      findLetter 5 (completing .empty [] 1519) = some (unjudged .empty) ∧
      (completing .empty [] 1519).lch.outstanding = ⟨false, false⟩ ∧
      (completing .empty [] 1519).scan.map ScanContext.letter = some 5 ∧
      successor 5 (completing .empty [] 1519).trk.letters = none) ∧
    (due 1519 (pairPointOf Profile.builtin (unjudged .empty)) = false ∧
      due 1520 (pairPointOf Profile.builtin (unjudged .empty)) = true ∧
      reached 1519 (verdictLimitOf Profile.builtin (unjudged .empty)) = false ∧
      due 3949 (pairPointOf { Profile.builtin with gmin := 4000 } (unjudged .empty)) = false ∧
      reached 3949 (verdictLimitOf { Profile.builtin with gmin := 4000 } (unjudged .empty)) = true) ∧
    ((completing ⟨true, false, false, false⟩ [] 1519).trk.letters.filter
        (fun x => scanEndsBy Profile.builtin 2460 x && !x.flags.long) = [unjudged ⟨true, false, false, false⟩] ∧
      findLetter 5 (completing ⟨true, false, false, false⟩ [] 1519) = some (unjudged ⟨true, false, false, false⟩)) ∧
    ((completing .empty [follower .empty] 1519).trk.letters.filter
        (fun x => scanEndsBy Profile.builtin 2460 x && !x.flags.long) = [unjudged .empty] ∧
      successor 5 (completing .empty [follower .empty] 1519).trk.letters = some (follower .empty) ∧
      successor 5 (completing .empty [follower ⟨false, true, false, false⟩] 1519).trk.letters =
        some (follower ⟨false, true, false, false⟩)) := by
  decide +kernel

theorem witness_ReturnGivesTwoSamples :
    ((flashed fresh 1999 false).inReset = false ∧ (flashed fresh 1999 false).lch.outstanding.get .a = false) ∧
    ((flashed fresh 1999 true).lch.outstanding.get .a = true ∧ (flashed fresh 1999 true).lch.calib = none ∧
      (flashed fresh 1999 true).lch.flashPos = some 1999 ∧ coveringLetter 1999 (flashed fresh 1999 true) = none ∧
      (flashed fresh 1999 true).lnc.line ≠ .starting ∧ faceOf .bu ≠ .a) ∧
    (coveringLetter 2000 (flashed fresh 2000 true) = some fresh ∧ fresh.flags.long = false ∧
      faceOf .au = .a ∧ ((flashed fresh 2000 true).lch.chans.get .au).state.isFault = false ∧
      (flashed fresh 2000 true).lch.silent.get .au = false ∧
      ((scanOf fresh.id (flashed fresh 2000 true)).ctx.get .au).awaiting = false ∧
      ((scanOf fresh.id (scanning fresh 2000 true)).ctx.get .au).awaiting = true) ∧
    (coveringLetter 2000 (flashed { fresh with flags := ⟨false, false, true, false⟩ } 2000 true) =
      some { fresh with flags := ⟨false, false, true, false⟩ }) := by
  decide +kernel

/-- STARTING after `n` windows at speed with a flash made at 1999 and no letter, where A-U stands as `u` and A-L as `l`,
and the channels of face B are LOCKED. -/
def locking (n : Nat) (u l : Channel) : State :=
  let s := allLockedNow (onBelt 1999 true (timed (fun c => { c with startTimer := some 3000, atSpeed := n }) (inLine .starting)))
  { s with lch := { s.lch with
      flashPos := some 1999, outstanding := ⟨true, false⟩, chans := { s.lch.chans with au := u, al := l } } }

/-- A channel in a lock state with its baselines at 200. -/
def channel (x : ChanState) (quiet noisy : Nat) : Channel :=
  { Channel.initial with state := x, baccE := 3200, baccL := 3200, quiet := quiet, noisy := noisy }

/-- A dark sample that locks the last channel, as the upper or the lower one of its face, with the belt at speed and not;
and one that costs a channel its lock. -/
theorem witness_ReturnGivesTwoSamples_locks :
    (∀ n ∈ [9, 10], ∀ u ∈ [channel .locked 0 0, channel .check 15 0], ∀ l ∈ [channel .locked 0 7, channel .check 15 0],
      (locking n u l).inReset = false ∧ (locking n u l).lch.outstanding.get .a = true ∧
      (locking n u l).lch.calib = none ∧ (locking n u l).lch.flashPos = some 1999 ∧
      coveringLetter 1999 (locking n u l) = none ∧ (locking n u l).lnc.line = .starting ∧
      (locking n u l).lnc.atSpeed = n ∧
      ((locking n u l).lch.chans.get .bu).state = .locked ∧ ((locking n u l).lch.chans.get .bl).state = .locked) ∧
    ((channel .check 15 0).darkStep 48 ⟨200, 200⟩).state = .locked ∧
    ((channel .check 15 0).darkStep 48 ⟨200, 300⟩).state ≠ .locked ∧
    ((channel .locked 0 7).darkStep 48 ⟨200, 300⟩).state ≠ .locked ∧
    (channel .locked 0 7).isQuiet 48 ⟨200, 300⟩ = false := by
  decide +kernel

theorem witness_FaceTimeoutFaults :
    (flashed fresh 2000 false).lch.outstanding.get .a = false ∧
    ((flashed fresh 2000 true).inReset = false ∧ (flashed fresh 2000 true).lch.outstanding.get .a = true ∧
      (flashed fresh 2000 true).lch.calib = none ∧ (flashed fresh 2000 true).lch.flashPos = some 2000 ∧
      inLetterAt 2000 (flashed fresh 2000 true) = some fresh) ∧
    ((calibrating (.dark 1) true (inLine .stopped)).lch.outstanding.get .a = true ∧ Face.b ≠ .a ∧
      (∃ k, (calibrating (.dark 1) true (inLine .stopped)).lch.calib = some k ∧ k.used .b = false)) :=
  ⟨by decide +kernel, by decide +kernel, by decide +kernel, by decide, _, rfl, by decide +kernel⟩

/-- A calibration of both upper channels, in a phase, with face A outstanding and face B outstanding or not. -/
def calibratingBoth (phase : CalPhase) (b : Bool) : State :=
  { inLine .stopped with lch := { State.reset.lch with
      outstanding := ⟨true, b⟩, calib := some { Calibration.start [.au, .bu] State.reset with phase := phase } } }

theorem witness_FaceTimeoutFaults_goesOn (phase : CalPhase) (b : Bool) :
    (calibratingBoth phase b).inReset = false ∧ (calibratingBoth phase b).lch.outstanding.get .a = true ∧
    (calibratingBoth phase b).lch.outstanding.get .b = b ∧
    ∃ k, (calibratingBoth phase b).lch.calib = some k ∧ k.phase = phase ∧ k.used .b = true :=
  ⟨rfl, rfl, rfl, _, rfl, rfl, rfl⟩

theorem witness_DarkSamplesLockAndUnlock :
    ((channel .search 15 0).state = .search ∧ (channel .search 15 0).isQuiet 48 ⟨248, 152⟩ = true ∧
      (channel .search 15 0).isQuiet 48 ⟨249, 200⟩ = false) ∧
    ((channel .check 15 0).state = .check ∧ (channel .check 15 0).isQuiet 48 ⟨200, 200⟩ = true) ∧
    ((channel .locked 0 7).state = .locked ∧ (channel .locked 0 7).isQuiet 48 ⟨200, 151⟩ = false ∧
      8 ≤ (channel .locked 0 7).noisy + 1 ∧ (channel .locked 0 6).noisy + 1 < 8) ∧
    ((channel .search 0 0).quiet = 0 ∧ (List.replicate 31 (⟨200, 200⟩ : SamplePair)).length < 32) ∧
    ({ channel .search 0 0 with baccE := 65520, baccL := 65520 }.baccE ≤ 65520) := by
  decide +kernel

theorem witness_DarkSamplesLockAndUnlock_locks :
    (channel .search 0 0).quiet = 0 ∧ (List.replicate 32 (⟨200, 200⟩ : SamplePair)).length = 32 ∧
    ∀ n < 32, (((List.replicate 32 (⟨200, 200⟩ : SamplePair)).take n).foldl (fun c x => c.darkStep 48 x)
      (channel .search 0 0)).isQuiet 48 ⟨200, 200⟩ = true := by decide +kernel

/-- 31 quiet samples leave a channel short of LOCKED and the 32nd locks it (R37). -/
theorem test_lock32 :
    ((List.replicate 31 (⟨200, 200⟩ : SamplePair)).foldl (fun c x => c.darkStep 48 x) (channel .search 0 0)).state =
      .check ∧
    ((List.replicate 32 (⟨200, 200⟩ : SamplePair)).foldl (fun c x => c.darkStep 48 x) (channel .search 0 0)).state =
      .locked := by decide +kernel

/-- R35: with Bacc_E = 3200, a dark E of 216 gives 3216. -/
theorem test_baseline : accStep 3200 216 = 3216 ∧ accStep 65520 4095 = 65520 := by decide

theorem witness_CalibrationRuns :
    (Served .calibrate (ask .calibrate [0]) [] (asked .calibrate [0] (inLine .running)) ∧
      (inLine .running).lnc.line ≠ .stopped) ∧
    (Served .calibrate (ask .calibrate [5]) [] (asked .calibrate [5] (inLine .stopped)) ∧ 5 ≤ (5 : Byte).toNat) ∧
    (Served .calibrate (ask .calibrate [4]) [] (asked .calibrate [4] (inLine .stopped)) ∧
      chansOfCode 4 = some allChans ∧
      ∃ c ∈ allChans, ((inLine .stopped).lch.chans.get c).state.isFault = false) ∧
    ((calibrating (.dark 31) false (inLine .stopped)).lch.outstanding = ⟨false, false⟩ ∧
      (calibrating (.dark 31) false (inLine .stopped)).inReset = false ∧
      (calibrating (.dark 31) false (inLine .stopped)).lch.calib =
        some { Calibration.start [.au] (inLine .stopped) with phase := .dark 31 }) ∧
    ((calibrating (.reference 63) false (inLine .stopped)).lch.calib =
        some { Calibration.start [.au] (inLine .stopped) with phase := .reference 63 }) ∧
    ((calibrating .settle false (inLine .stopped)).lch.calib =
        some { Calibration.start [.au] (inLine .stopped) with phase := .settle }) ∧
    (∀ phase ∈ [CalPhase.dark 32, .reference 64], (calibrating phase true (inLine .stopped)).lch.calib =
        some { Calibration.start [.au] (inLine .stopped) with phase := phase } ∧
      (calibrating phase true (inLine .stopped)).inReset = false ∧
      (calibrating phase true (inLine .stopped)).lch.outstanding = (PerFace.all false).set .a true ∧
      ((Calibration.start [.au] (inLine .stopped)).chans.get .au).active = true ∧
      ((Calibration.start [.au] (inLine .stopped)).chans.get .bl).active = false) ∧
    ((calibrating .settle false (inLine .stopped)).inputs.estop = false ∧
      (calibrating .settle false (inLine .stopped)).lnc.line ≠ .faulted ∧
      (calibrating .settle false (inLine .stopped)).lnc.line ≠ .loading) := by
  refine ⟨⟨served_of ?_, ?_⟩, ⟨served_of ?_, ?_⟩, ⟨served_of ?_, ?_, .au, ?_, ?_⟩, ?_, ?_, ?_, ?_, ?_⟩ <;> decide +kernel

/-- STOPPED with channel A-U in FAULT. -/
def faultedAu : State :=
  { inLine .stopped with lch := { State.reset.lch with
      chans := State.reset.lch.chans.set .au { Channel.initial with state := .fault .timeout } } }

theorem witness_CalibrationRuns_allFaulted :
    Served .calibrate (ask .calibrate [0]) [] (asked .calibrate [0] faultedAu) ∧ chansOfCode 0 = some [.au] ∧
    (asked .calibrate [0] faultedAu).lnc.line = .stopped ∧
    ∀ c ∈ [Chan.au], ((asked .calibrate [0] faultedAu).lch.chans.get c).state.isFault = true := by
  refine ⟨served_of ?_, ?_⟩ <;> decide +kernel

theorem witness_CalibrationRuns_returns :
    (∀ phase ∈ [CalPhase.dark 31, .reference 63], ∀ b, (calibratingBoth phase b).inReset = false ∧
      (calibratingBoth phase b).lch.outstanding.get .a = true ∧ Face.b ≠ .a ∧
      ∃ k, (calibratingBoth phase b).lch.calib = some k ∧ k.phase = phase) ∧
    ∀ phase ∈ [CalPhase.dark 32, .reference 64], (calibratingBoth phase true).lch.outstanding.get .b = true ∧
      ∃ k, (calibratingBoth phase true).lch.calib = some k ∧ k.phase = phase := by
  refine ⟨fun phase _ b => ⟨rfl, rfl, by decide, _, rfl, rfl⟩, fun phase _ => ⟨rfl, _, rfl, rfl⟩⟩

/-- A dark return before the last is summed for the calibrated A-upper and not for A-lower, and the phase stays (R52). -/
theorem test_darkReturnSummed :
    ((calibratingBoth (.dark 31) false).lch.calib.map fun k =>
      ((calibrationReturn k .a ⟨200, 210⟩ ⟨300, 310⟩ (calibratingBoth (.dark 31) false)).lch.calib.map fun j =>
        (j.phase, (j.chans.get .au).sumE, (j.chans.get .au).sumL, (j.chans.get .al).sumE))) =
    some (some (.dark 31, 200, 210, 0)) := by decide +kernel

/-- A gain by R52's rounding: 64 × 1600 over a mean of 1250, and the two clamps (R52). -/
theorem test_gain : gainOf 1600 1250 64 = (82, .ok) ∧ gainOf 1600 401 64 = (255, .ok) ∧
    gainOf 1600 400 64 = (255, .clampedHigh) ∧ gainOf 100 4095 64 = (32, .clampedLow) ∧
    gainOf 1600 0 64 = (64, .noSignal) := by decide

/-- A full capture buffer. -/
def captured : State :=
  { inLine .stopped with lch := { State.reset.lch with
      capture := ⟨.full, some (.au, .immediate), none, none, [⟨1000, 200, 190, .none, .noRun, false⟩]⟩ } }

theorem witness_ChannelRequests :
    (Served .armCapture (ask .armCapture [4, 0]) [] (asked .armCapture [4, 0] (inLine .running)) ∧ 4 ≤ (4 : Byte).toNat) ∧
    (Served .armCapture (ask .armCapture [3, 1]) [] (asked .armCapture [3, 1] (inLine .running)) ∧
      chanOfCode 3 = some .bl ∧ triggerOfCode 1 = some .nextLetter) ∧
    (Served .readCapture (ask .readCapture [0, 1]) [] (asked .readCapture [0, 1] (inLine .stopped)) ∧
      (inLine .stopped).lch.capture.state ≠ .full) ∧
    (Served .readCapture (ask .readCapture [128, 0]) [] (asked .readCapture [128, 0] captured) ∧
      captured.lch.capture.state = .full) ∧
    (Served .setCounterSource (ask .setCounterSource [0, 9]) [] (asked .setCounterSource [0, 9] (inLine .stopped)) ∧
      9 ≤ (9 : Byte).toNat) ∧
    (Served .setCounterSource (ask .setCounterSource [4, 8]) [] (asked .setCounterSource [4, 8] (inLine .stopped)) ∧
      chansOfCode 4 = some allChans ∧ sourceOfCode 8 = some .noisyDark) ∧
    (Served .channelReset (ask .channelReset [5]) [] (asked .channelReset [5] (inLine .stopped)) ∧ 5 ≤ (5 : Byte).toNat) ∧
    Served .channelReset (ask .channelReset [0]) [] (asked .channelReset [0] (inLine .running)) := by
  refine ⟨⟨served_of ?_, ?_⟩, ⟨served_of ?_, ?_⟩, ⟨served_of ?_, ?_⟩, ⟨served_of ?_, ?_⟩, ⟨served_of ?_, ?_⟩,
    ⟨served_of ?_, ?_⟩, ⟨served_of ?_, ?_⟩, served_of ?_⟩ <;> decide +kernel

/-- A capture on A-U with a trigger, in a state, with `n` entries, letter 5 its letter or the one it passes over. -/
def capturing (trigger : CaptureTrigger) (st : CaptureState) (letter passOver : Option LetterId) (n : Nat) : Capture :=
  ⟨st, some (.au, trigger), letter, passOver, List.replicate n ⟨1000, 200, 190, .none, .noRun, false⟩⟩

theorem witness_CaptureFillsAndEnds :
    (128 ≤ (capturing .immediate .filling none none 127).entries.length + 1 ∧
      ¬ 128 ≤ (capturing .immediate .filling none none 126).entries.length + 1) ∧
    ((capturing .nextLetter .armed none (some 5) 0).passOver = some 5 ∧
      (capturing .nextLetter .armed none (some 5) 0).passOver ≠ some 6 ∧
      (capturing .nextLetter .filling (some 5) none 1).letter = some 5) ∧
    ((flashed fresh 1999 true).inReset = false ∧ (flashed fresh 1999 true).lch.outstanding.get .a = true ∧
      (flashed fresh 1999 true).lch.calib = none ∧ (flashed fresh 1999 true).lch.flashPos = some 1999 ∧
      (∀ c ∈ allChans, ((flashed fresh 1999 true).lch.chans.get c).state.isFault = false ∧
        (flashed fresh 1999 true).lch.silent.get c = false) ∧
      coveringLetter 1999 (flashed fresh 1999 true) = none) ∧
    (coveringLetter 2000 (flashed fresh 2000 true) = some fresh ∧ fresh.flags.long = false ∧
      ∀ c ∈ allChans, ((scanOf fresh.id { flashed fresh 2000 true with
        scan := (scanning fresh 2000 true).scan }).ctx.get c).awaiting = true) ∧
    (stoppingBelt.inReset = false ∧ stoppingBelt.trk.moving = true ∧ stoppingBelt.lnc.line = .stopping ∧
      stoppingBelt.lnc.stopTimer.isSome = true) := by
  decide +kernel

/-! ### Runs, verdicts, prints and pockets: states that meet the hypotheses -/

theorem witness_TagTests : Profile.builtin.firstFailing = none ∧
    Profile.builtin.tpOff ≤ Profile.builtin.tpOn ∧ phosAt Profile.builtin Profile.builtin.tpOn ⟨1600, 600⟩ = true ∧
    Profile.builtin.tfOff ≤ Profile.builtin.tfOn ∧ fluoAt Profile.builtin Profile.builtin.tfOn ⟨900, 112⟩ = true ∧
    Profile.builtin.rf ≤ Profile.builtin.rp ∧ (⟨0, 600⟩ : Scaled).e = 0 := by
  decide +kernel

/-- An open run whose last sample lies at `last`. -/
def openRun (last : Nat) (runs : List Run) : RunContext :=
  { RunContext.fresh with openRun := some ⟨.phos, 40, last, 950, 0⟩, runs := runs }

theorem witness_RunsKeptInOrder :
    (RunContext.fresh.openRun = none ∧ (openRun 56 []).openRun = some ⟨.phos, 40, 56, 950, 0⟩) ∧
    (qualifies Profile.builtin .phos true ⟨0, 0⟩ = true ∧ qualifies Profile.builtin .phos false ⟨0, 0⟩ = false ∧
      0 + Profile.builtin.gapLimit ≤ Profile.builtin.gapLimit ∧ Profile.builtin.gapLimit < Profile.builtin.gapLimit + 1) ∧
    (5 = (56 - 40) / Profile.builtin.pitch + 1 ∧ 5 < Profile.builtin.minRun) ∧
    (6 = (60 - 40) / Profile.builtin.pitch + 1 ∧ Profile.builtin.minRun ≤ 6 ∧ 6 ≤ Profile.builtin.maxRun ∧
      (openRun 60 [tagRun .phos, tagRun .phos, tagRun .phos]).runs.length < 4) ∧
    (41 = (200 - 40) / Profile.builtin.pitch + 1 ∧ Profile.builtin.maxRun < 41) ∧
    4 ≤ (openRun 60 (List.replicate 4 (tagRun .phos))).runs.length ∧
    (1 ≤ Profile.builtin.pitch ∧ [0, 4, 12].Pairwise fun a b => a + Profile.builtin.pitch ≤ b) := by
  decide +kernel

/-- Results with one PHOS run of the peak on A-U, and one of the peak `rival` on A-L that supports O2; B-L is BLIND or
not. -/
def rivals (peak rival : Nat) (blind : Bool) : PerChan ChanResult where
  au := ⟨false, [⟨.phos, 40, 44, peak, 0⟩], false, false, false⟩
  al := ⟨false, [⟨.phos, 400, 44, rival, 0⟩], false, false, false⟩
  bu := ⟨false, [], false, false, false⟩
  bl := ⟨blind, [], false, false, false⟩

theorem witness_FacedVerdictIsSupported :
    (judgeRuns Profile.builtin (oneRun .phos) 460).kind = .stamp ∧
    (judgeRuns Profile.builtin (oneRun .fluo) 460).kind = .meter ∧
    (∀ q, supporting .phos (oneRun .fluo) 460 q = []) ∧
    (∀ blind, supporting .phos (rivals 1000 500 blind) 460 .o1 = [⟨.phos, 40, 44, 1000, 0⟩] ∧
      supporting .phos (rivals 1000 500 blind) 460 .o2 = [⟨.phos, 400, 44, 500, 0⟩] ∧
      supporting .phos (rivals 1000 500 blind) 460 .o3 = [] ∧ supporting .phos (rivals 1000 500 blind) 460 .o4 = [] ∧
      anyBlind (rivals 1000 500 blind) = blind ∧ Profile.builtin.dominance * 500 ≤ 8 * 1000) ∧
    (supporting .phos (rivals 999 500 false) 460 .o1 = [⟨.phos, 40, 44, 999, 0⟩] ∧
      supporting .phos (rivals 999 500 false) 460 .o2 = [⟨.phos, 400, 44, 500, 0⟩] ∧
      8 * 999 < Profile.builtin.dominance * 500) ∧
    (∀ blind, ∀ cls o, supporting cls (.all ⟨blind, [], false, false, false⟩) 460 o = []) ∧
    (∀ blind, anyBlind (.all ⟨blind, [], false, false, false⟩) = blind) := by
  refine ⟨by decide +kernel, by decide +kernel, fun q => by cases q <;> rfl, ?_, by decide +kernel, ?_, ?_⟩ <;>
    intro blind <;> cases blind
  all_goals first | decide +kernel | (intro cls o; cases cls <;> cases o <;> rfl)

/-- The verdict on the run-detection example's results: (PHOS 40, 40, 1120) and (FLUO 300, 56, 2300) on A-U at the
length 460 make a STAMP O1 (chapter 4, the worked example of letter 1200). -/
theorem test_verdict1200 :
    judgeRuns Profile.builtin
      { PerChan.all (⟨false, [], false, false, false⟩ : ChanResult) with
        au := ⟨false, [⟨.phos, 40, 40, 1120, 0⟩, ⟨.fluo, 300, 56, 2300, 0⟩], false, false, false⟩ } 460 =
      ⟨.stamp, some .o1, .empty, some ⟨40, 40, 1120⟩⟩ := by decide +kernel

/-- RUNNING with the verdict of letter 5 held. -/
def holding (belt : Pos) : State := { running measured belt with held := some 5 }

/-- The verdict of letter 5 held at 1519 in a sampling state, with the last trailing edge as given. -/
def heldBefore (line : LineState) (te : Option Pos) : State :=
  { holding 1519 with
    lnc := { (holding 1519).lnc with line := line }
    trk := { (holding 1519).trk with lastTe := te } }

theorem witness_HeldVerdictEnds :
    ((holding 1520).inReset = false ∧ (holding 1520).held = some measured.id ∧
      findLetter measured.id (holding 1520) = some measured ∧
      due 1519 (pairPointOf Profile.builtin measured) = false ∧ due 1520 (pairPointOf Profile.builtin measured) = true) ∧
    (reached 3948 (verdictLimitOf Profile.builtin measured) = false ∧
      reached 3949 (verdictLimitOf Profile.builtin measured) = true) := by
  decide +kernel

/-- The successor inducted in RUNNING and in STOPPING, at a gap one below GMIN and at GMIN. -/
theorem witness_HeldVerdictEnds_inducted :
    ((heldBefore .running (some 1460)).inputs.e0 = false ∧ (heldBefore .running (some 1460)).lnc.line = .running ∧
      (heldBefore .running (some 1460)).trk.letters.length < 48 ∧
      (heldBefore .running (some 1460)).held = some measured.id ∧
      findLetter measured.id (heldBefore .running (some 1460)) = some measured ∧
      (newLetter (heldBefore .running (some 1460))).flags.close = true ∧
      (newLetter (heldBefore .running (some 1459))).flags.close = false) ∧
    ((heldBefore .stopping (some 1460)).lnc.line = .stopping ∧
      findLetter measured.id (heldBefore .stopping (some 1460)) = some measured ∧
      (newLetter (heldBefore .stopping (some 1460))).flags.close = true ∧
      (newLetter (heldBefore .stopping none)).flags.close = false) := by
  decide +kernel

theorem witness_PrintSpanWithinLetter : 40 < 460 ∧ 1 ≤ Profile.builtin.k ∧ 1 ≤ 44 := by decide

/-- The print spans of the worked examples: letter 1200 (20, 180), and letter 2001's (200, 180) (chapters 5 and 10). -/
theorem test_printSpan : printSpan .builtin .lead 460 40 40 = (20, 180) ∧ printSpan .builtin .trail 400 320 40 = (200, 180) := by
  decide

/-- RUNNING with letter 5 stamped and the upper head as given. -/
def atHead (u : HeadUnit) (belt : Pos) : State := withHead u (running stamped belt)

/-- The verdict of letter 5, measured with one PHOS run on A-U, held at its pair point, with a date set, the upper head
as given, and the letters `ls` behind it. -/
def verdictHeld (u : HeadUnit) : State :=
  withHead u { dated (running measured 1520) with held := some 5 }

/-- A print that ends 1 tc before, or at, the point from which the new one may start: its fire start is 6620. -/
theorem witness_PrintsAreScheduled :
    (∀ u ∈ [loaded, { loaded with queue := List.replicate 15 5 }, { loaded with queue := List.replicate 16 5 },
        { loaded with state := .off }, { loaded with queue := [], state := .recovering, recoveryEnd := some 6620 },
        { loaded with queue := [], state := .recovering, recoveryEnd := some 6621 }],
      (verdictHeld u).inReset = false ∧ (verdictHeld u).held = some measured.id ∧
      findLetter measured.id (verdictHeld u) = some measured ∧
      due (verdictHeld u).trk.belt (pairPointOf Profile.builtin measured) = true ∧
      (verdictHeld u).cnu.date = some ⟨2031, 5, 20⟩ ∧ (verdictHeld u).cnu.heads.get .upper = u) ∧
    (judgeRuns Profile.builtin (oneRun .phos) 460 = ⟨.stamp, some .o1, .empty, some ⟨40, 44, 950⟩⟩ ∧
      Orientation.o1.head = .upper ∧ (printSpan Profile.builtin .lead 460 40 44).1 = 20 ∧
      (6620 : Pos) = measured.lePos + BitVec.ofNat 32 (Profile.builtin.cPos + 20)) ∧
    (previousEnd { loaded with queue := [], state := .recovering, recoveryEnd := some 6620 } State.reset =
        some (6620 - BitVec.ofNat 32 Profile.builtin.h) ∧
      reached 6620 (6620 - BitVec.ofNat 32 Profile.builtin.h + BitVec.ofNat 32 Profile.builtin.h) = true ∧
      reached 6620 (6621 - BitVec.ofNat 32 Profile.builtin.h + BitVec.ofNat 32 Profile.builtin.h) = false) ∧
    (({ loaded with queue := List.replicate 15 5 } : HeadUnit).queue.length < 16 ∧
      16 ≤ ({ loaded with queue := List.replicate 16 5 } : HeadUnit).queue.length) ∧
    (loaded.queue = [] ++ [5] ∧ findLetter 5 (atHead loaded 6619) = some stamped) := by
  decide +kernel

theorem witness_PrintsRunAndHeadsRecover :
    ((atHead loaded 6619).inReset = false ∧ ((atHead loaded 6619).cnu.heads.get .upper).queue = stamped.id :: [] ∧
      findLetter stamped.id (atHead loaded 6619) = some stamped ∧
      stamped.cancel = some ⟨.scheduled, none, some ⟨.upper, 20, 180, ⟨⟨2024, 5, 17⟩, 60, 0⟩⟩, none⟩ ∧
      reached 6619 (stamped.lePos + BitVec.ofNat 32 (Profile.builtin.cPos + 20)) = false) ∧
    (reached 6620 (stamped.lePos + BitVec.ofNat 32 (Profile.builtin.cPos + 20)) = true ∧
      ((atHead loaded 6620).cnu.heads.get .upper).state = .ready ∧ (atHead loaded 6620).cnu.waiting = none) ∧
    (∀ n ∈ [9999998, 9999999],
      ({ atHead loaded 6620 with
        cnu := { (atHead loaded 6620).cnu with lastFire := some ⟨⟨2024, 5, 17⟩, n⟩ } } : State).cnu.lastFire =
        some ⟨⟨2024, 5, 17⟩, n⟩) ∧
    ((atHead { loaded with state := .recovering } 6620).cnu.heads.get .upper).state = .recovering := by
  decide +kernel

theorem witness_PrintsRunAndHeadsRecover_end :
    ((atHead loaded 6800).inReset = false ∧ ((atHead loaded 6800).cnu.heads.get .upper).state ≠ .printing) ∧
    (((atHead printing 6799).cnu.heads.get .upper).fireEnd = some 6800 ∧ reached 6799 6800 = false) ∧
    (((atHead printing 6800).cnu.heads.get .upper).state = .printing ∧ reached 6800 6800 = true ∧
      ((atHead printing 6800).cnu.heads.get .upper).printing = some 5 ∧
      findLetter 5 (atHead printing 6800) = some stamped ∧ stamped.cancel.isSome = true) ∧
    (((atHead { loaded with state := .recovering, recoveryEnd := some 6840 } 6840).cnu.heads.get .upper).recoveryEnd =
        some 6840 ∧ reached 6839 6840 = false ∧ reached 6840 6840 = true ∧
      ((atHead { loaded with state := .recovering, offPending := true } 6840).cnu.heads.get .upper).offPending = true ∧
      ((atHead { loaded with state := .fault, recoveryEnd := some 6840 } 6840).cnu.heads.get .upper).state ≠
        .recovering) := by
  decide +kernel

/-- R99: at E3 the points of the letter's own print move, a fire end and a recovery end alike, and no other letter's do. -/
theorem test_pointsMove : ([5, 6] : List LetterId).map (fun id =>
    ((printing.movePoints id 12).fireEnd,
      (({ loaded with recoveryEnd := some 6840, recoveringFrom := some 5 } : HeadUnit).movePoints id 12).recoveryEnd)) =
    [(some 6812, some 6852), (some 6800, some 6840)] := by decide +kernel

theorem witness_HeadFaultTakesHeadDown :
    ((atHead printing 6700).inReset = false ∧ (atHead printing 6700).inputs.headFault.get .upper = false ∧
      ((atHead printing 6700).cnu.heads.get .upper).state ≠ .fault ∧
      ((atHead printing 6700).cnu.heads.get .upper).state = .printing ∧ (atHead printing 6700).lnc.line ≠ .loading) ∧
    ((atHead (.initial true) 6700).cnu.heads.get .upper).state = .fault ∧
    5 ∈ ((atHead loaded 6700).cnu.heads.get .upper).queue := by
  decide +kernel

theorem witness_HeadRequests :
    (Served .headReset (ask .headReset [2]) [] (asked .headReset [2] (inLine .running)) ∧ headOfCode 2 = none) ∧
    (Served .headReset (ask .headReset [0]) [] (asked .headReset [0] (atHead (.initial true) 6700)) ∧
      headOfCode 0 = some .upper ∧ (atHead (.initial true) 6700).inputs.headFault.get .upper = false ∧
      ((atHead (.initial true) 6700).cnu.heads.get .upper).state = .fault) ∧
    (Served .headDisable (ask .headDisable [0]) [] (asked .headDisable [0] (atHead printing 6700)) ∧
      ((atHead printing 6700).cnu.heads.get .upper).offPending = false) ∧
    (Served .headDisable (ask .headDisable [0]) [] (asked .headDisable [0] (atHead { loaded with state := .off } 6700))) ∧
    (Served .headDisable (ask .headDisable [0]) [] (asked .headDisable [0] (atHead (.initial true) 6700))) ∧
    (Served .headEnable (ask .headEnable [0]) [] (asked .headEnable [0] (atHead { loaded with state := .off } 6700))) ∧
    (Served .headEnable (ask .headEnable [0]) [] (asked .headEnable [0] (atHead (.initial true) 6700))) := by
  refine ⟨⟨served_of ?_, ?_⟩, ⟨served_of ?_, ?_⟩, ⟨served_of ?_, ?_⟩, served_of ?_, served_of ?_, served_of ?_,
    served_of ?_⟩ <;> decide +kernel

/-- SET_POSTMARK's payload: 2031-05-20, time mark 60, an office, and a start number or none. -/
def postmark (office : Byte) (n : List Byte) : List Byte := [0x07, 0xEF, 5, 20, 0, 60, office] ++ n

theorem witness_SetPostmarkSetsSettings :
    (Served .setPostmark (ask .setPostmark (postmark 0 [0, 0, 0, 1])) []
        (asked .setPostmark (postmark 0 [0, 0, 0, 1]) (dated (inLine .running))) ∧
      (⟨2031, 5, 20⟩ : Date).real = true ∧ (⟨2031, 5, 20⟩ : Date).before ⟨2031, 5, 20⟩ = false ∧
      (dated (inLine .running)).prl.profile.office 0 ≠ [] ∧ (postmark 0 [0, 0, 0, 1]).length = 11 ∧
      (dated (inLine .running)).cnu.lastFire = none) ∧
    (Served .setPostmark (ask .setPostmark (postmark 1 [])) [] (asked .setPostmark (postmark 1 []) (inLine .running)) ∧
      (inLine .running).prl.profile.office 1 = []) ∧
    ((⟨2031, 2, 29⟩ : Date).real = false ∧ (⟨2031, 5, 19⟩ : Date).before ⟨2031, 5, 20⟩ = true ∧
      8 ≤ (8 : Byte).toNat) := by
  refine ⟨⟨served_of ?_, ?_⟩, ⟨served_of ?_, ?_⟩, ?_⟩ <;> decide +kernel

/-- 2024-02-29 is a date, 2031-02-29 and 2000-13-01 are none (R94). -/
theorem test_dates : (⟨2024, 2, 29⟩ : Date).real = true ∧ (⟨2031, 2, 29⟩ : Date).real = false ∧
    (⟨2000, 13, 1⟩ : Date).real = false ∧ (⟨2099, 12, 31⟩ : Date).real = true := by decide

/-- Pocket 1 in a state, its tray present. -/
def pocketIn (st : PocketState) : State := pocket1 (fun p => { p with state := st }) (trays (inLine .running))

/-- Pocket 1's tray OPEN with the tray log full. -/
def openLogFull : State :=
  { pocketIn .open with pkm := { (pocketIn .open).pkm with
      log := List.replicate 16 (makeTrayRecord 1 Pocket.initial .full) } }

theorem witness_TraySensorsAndButtons :
    (inLine .loading).lnc.line = .loading ∧
    ((pocketIn .closed).inReset = false ∧ (pocketIn .closed).lnc.line ≠ .loading ∧
      (pocketIn .closed).inputs.tray[(1 : PocketNo)] = true ∧
      ((pocketIn .closed).pkm.pockets[(1 : PocketNo)]).state = .closed) ∧
    (((pocketIn .out).pkm.pockets[(1 : PocketNo)]).state = .out ∧
      ((pocketIn .out).pkm.pockets[(1 : PocketNo)]).tray = true ∧
      ((pocketIn .out).trk.letters.map (·.id)).Nodup ∧
      (pocketIn .out).pkm.log.length + reservations (pocketIn .out) < 16) ∧
    (openLogFull.inReset = false ∧ openLogFull.lnc.line ≠ .loading ∧ openLogFull.inputs.tray[(1 : PocketNo)] = true ∧
      (openLogFull.pkm.pockets[(1 : PocketNo)]).state = .open ∧ (openLogFull.trk.letters.map (·.id)).Nodup ∧
      (openLogFull.pkm.pockets[(1 : PocketNo)]).state ≠ .draining ∧
      16 ≤ openLogFull.pkm.log.length + reservations openLogFull) ∧
    (((pocketIn .draining).pkm.pockets[(1 : PocketNo)]).state = .draining) ∧
    ((inLine .running).inputs.tray[(1 : PocketNo)] = false ∧
      ((inLine .running).pkm.pockets[(1 : PocketNo)]).state = .noTray) ∧
    ((pocket1 (fun p => { p with state := .closed }) (inLine .running)).inputs.tray[(1 : PocketNo)] = false ∧
      ((pocket1 (fun p => { p with state := .out }) (inLine .running)).pkm.pockets[(1 : PocketNo)]).tray = false) := by
  decide +kernel

/-- The tray log full. -/
def logFull (s : State) : State :=
  { s with pkm := { s.pkm with log := List.replicate 16 (makeTrayRecord 1 Pocket.initial .full) } }

/-- The debounce of pocket 1's button runs. -/
def pressed (s : State) : State := { s with pkm := { s.pkm with debounce := s.pkm.debounce.set 1 true } }

theorem witness_SweepDrainsAndCloses :
    (Served .sweep (ask .sweep [10]) [] (asked .sweep [10] (inLine .running)) ∧ 10 ≤ (10 : Byte).toNat) ∧
    (Served .sweep (ask .sweep [0]) [] (asked .sweep [0] (trays (inLine .running))) ∧
      pocketOfByte 0 = some 0 ∧ sweepRefusal 0 (trays (inLine .running)) = some .wrongState) ∧
    (Served .sweep (ask .sweep [1]) [] (asked .sweep [1] (logFull (trays (inLine .running)))) ∧
      sweepRefusal 1 (logFull (trays (inLine .running))) = some .logFull) ∧
    (Served .sweep (ask .sweep [1]) [] (asked .sweep [1] (trays (inLine .running))) ∧
      sweepRefusal 1 (trays (inLine .running)) = none ∧
      ((trays (inLine .running)).pkm.pockets[(1 : PocketNo)]).pending = 0) ∧
    (Served .sweep (ask .sweep [1]) [] (asked .sweep [1] (pocket1 (fun p => { p with pending := 2 })
        (trays (inLine .running)))) ∧
      sweepRefusal 1 (pocket1 (fun p => { p with pending := 2 }) (trays (inLine .running))) = none ∧
      ((pocket1 (fun p => { p with pending := 2 }) (trays (inLine .running))).pkm.pockets[(1 : PocketNo)]).pending ≠ 0) ∧
    ((inLine .running).inReset = false ∧ (inLine .running).pkm.debounce[(1 : PocketNo)] = false) ∧
    ((pressed (inLine .running)).pkm.debounce[(1 : PocketNo)] = true ∧
      sweepRefusal 1 (pressed (inLine .running)) ≠ none ∧ sweepRefusal 1 (pressed (trays (inLine .running))) = none) := by
  refine ⟨⟨served_of ?_, ?_⟩, ⟨served_of ?_, ?_⟩, ⟨served_of ?_, ?_⟩, ⟨served_of ?_, ?_⟩, ⟨served_of ?_, ?_⟩, ?_, ?_⟩ <;>
    decide +kernel

/-- RUNNING with letter 5 at its decision point, and the upper head as given. -/
def deciding (u : HeadUnit) : State :=
  withHead u (trays (running { stamped with pdecPoint := some 7400 } 7400))

theorem witness_PocketDecided :
    ((deciding loaded).inReset = false ∧ findLetter 5 (deciding loaded) = some { stamped with pdecPoint := some 7400 } ∧
      reached 7399 7400 = false ∧ reached 7400 7400 = true ∧
      (∀ h ∈ [Head.upper, .lower], ((deciding loaded).cnu.heads.get h).printing ≠ some 5)) ∧
    (((deciding printing).cnu.heads.get .upper).printing = some 5 ∧
      ((deciding printing).cnu.heads.get .upper).state = .printing ∧
      ((deciding printing).cnu.heads.get .upper).fireEnd = some 6800 ∧ reached 7400 6800 = true ∧
      (stamped.verdict.map (·.kind)) = some .stamp ∧ stamped.route = some (.main false .lead) ∧
      stamped.cancel.isSome = true) := by
  decide +kernel

/-- A CLOSED pocket 9 that is given a letter reopens as a fresh tray with the number it has (R121, R122). -/
theorem test_pocket9Reopens :
    let s := updatePocket 9 (fun p => { p with state := .closed, trayNo := 7 }) (deciding loaded)
    let s := { s with prl := { s.prl with profile := { s.prl.profile with limits := Vector.replicate 10 0 } } }
    let p := (decidePocket stamped s).pkm.pockets[(9 : PocketNo)]
    (p.state, p.delivered, p.pending, p.trayNo, p.trayClass) = (.open, 0, 1, 7, none) := by decide +kernel

theorem witness_PocketServiceRequests :
    (Served .pocketOut (ask .pocketOut [9]) [] (asked .pocketOut [9] (inLine .running)) ∧ 9 ≤ (9 : Byte).toNat) ∧
    (Served .pocketOut (ask .pocketOut [1]) [] (asked .pocketOut [1] (pocketIn .draining)) ∧
      pocketOfByte 1 = some 1 ∧ 1 ≤ (1 : PocketNo).val ∧ (1 : PocketNo).val ≤ 8) ∧
    (Served .pocketOut (ask .pocketOut [8]) [] (asked .pocketOut [8] (pocketIn .draining)) ∧
      ((pocketIn .draining).pkm.pockets[(8 : PocketNo)]).state = .open) ∧
    Served .pocketIn (ask .pocketIn [0]) [] (asked .pocketIn [0] (inLine .running)) ∧
    (Served .pocketIn (ask .pocketIn [1]) [] (asked .pocketIn [1] (pocketIn .open))) ∧
    (Served .pocketIn (ask .pocketIn [1]) [] (asked .pocketIn [1] (pocketIn .out)) ∧
      ((pocketIn .out).pkm.pockets[(1 : PocketNo)]).delivered < (pocketIn .out).prl.profile.limits[(1 : PocketNo)]) ∧
    (Served .pocketIn (ask .pocketIn [1]) [] (asked .pocketIn [1] (profiled (fun p => { p with autoClose := false })
        (pocket1 (fun p => { p with delivered := 500 }) (pocketIn .out)))) ∧
      (500 ≤ (pocketIn .out).prl.profile.limits[(1 : PocketNo)])) ∧
    Served .takeTray (ask .takeTray []) [] (asked .takeTray [] (inLine .running)) ∧
    Served .takeTray (ask .takeTray []) [] (asked .takeTray [] (logFull (inLine .running))) ∧
    Served .clearShift (ask .clearShift []) [] (asked .clearShift [] (inLine .running)) ∧
    Served .clearShift (ask .clearShift []) [] (asked .clearShift [] (inLine .faulted)) := by
  refine ⟨⟨served_of ?_, ?_⟩, ⟨served_of ?_, ?_⟩, ⟨served_of ?_, ?_⟩, served_of ?_, served_of ?_, ⟨served_of ?_, ?_⟩,
    ⟨served_of ?_, ?_⟩, served_of ?_, served_of ?_, served_of ?_, served_of ?_⟩ <;> decide +kernel

/-- Pocket 1 OUT at its limit with AUTO_CLOSE on, with `pending` letters on their way to it and `records` in the log. -/
def returning (pending records : Nat) : State :=
  let s := pocket1 (fun p => { p with delivered := 500, pending := pending }) (pocketIn .out)
  { s with pkm := { s.pkm with log := List.replicate records (makeTrayRecord 1 Pocket.initial .full) } }

theorem witness_PocketServiceRequests_autoClose :
    (∀ pending ∈ [0, 1], ∀ records ∈ [15, 16], (returning pending records).prl.profile.autoClose = true ∧
      ((returning pending records).pkm.pockets[(1 : PocketNo)]).state = .out ∧
      ((returning pending records).pkm.pockets[(1 : PocketNo)]).tray = true ∧
      ((returning pending records).pkm.pockets[(1 : PocketNo)]).pending = pending ∧
      (returning pending records).prl.profile.limits[(1 : PocketNo)] ≤
        ((returning pending records).pkm.pockets[(1 : PocketNo)]).delivered ∧
      (returning pending records).pkm.log.length + reservations (returning pending records) = records) ∧
    Served .pocketIn (ask .pocketIn [1]) [] (asked .pocketIn [1] (returning 0 15)) := by
  refine ⟨?_, served_of ?_⟩ <;> decide +kernel

/-! ### What every command keeps: states that meet the hypotheses -/

/-- ESTOP_N becoming active waits in the queue. -/
def pressing : State := { State.reset with pending := [.estop true] }

theorem witness_FaultReasonInvariant :
    (FaultReasonKept pressing ∧ step pressing = .next (stopPressed State.reset)) ∧
    ((inLine .faulted).lnc.line = .faulted ∧
      exec (.estop true) (inLine .faulted) = .next (stopPressed (inLine .faulted)) ∧
      Instr.estop true ≠ .clearFault ∧ Instr.estop true ≠ .softReset ∧
      ∀ straps, Instr.estop true ≠ .resetNRelease straps) :=
  ⟨⟨by simp [FaultReasonKept]; decide, rfl⟩, rfl, rfl, by decide, by decide, nofun⟩

theorem witness_CapacityInvariant : WithinCapacity pressing ∧ step pressing = .next (stopPressed State.reset) := by
  have hs : pressing.scan = none := rfl
  have hr : pressing.lki.resetPending = false := rfl
  exact ⟨⟨by decide, by decide +kernel, by decide, by decide, by decide, fun h => by cases h <;> decide, by decide,
    by simp [hs], by simp [hr]⟩, rfl⟩

/-- The widest state within the capacities: 16 prints queued on a head, 127 captured samples, 4 runs on each channel. -/
def brimful : State :=
  let s := atHead { loaded with queue := List.replicate 16 5 } 6619
  { s with
    pending := [.estop true]
    lch := { s.lch with capture := capturing .immediate .filling none none 127 }
    scan := some ⟨5, .all (openRun 60 (List.replicate 4 (tagRun .phos))), .all false⟩ }

theorem witness_CapacityInvariant_full :
    (∀ h, (brimful.cnu.heads.get h).queue.length ≤ 16) ∧
    brimful.lch.capture.entries.length ≤ 128 ∧ brimful.lch.capture.entries.length < 128 ∧
    (∀ x, brimful.scan = some x → ∀ c, (x.ctx.get c).runs.length ≤ 4) :=
  ⟨fun h => by cases h <;> decide +kernel, by decide +kernel, by decide +kernel,
    fun x hx c => by cases hx; cases c <;> decide⟩

/-- RUNNING with 44 letters, pocket 0 at its limit and the upper head OFF under the policy HOLD, ESTOP_N's release
waiting in the queue. -/
def threeHolds : State :=
  let s := updatePocket 0 (fun p => { p with delivered := 799, pending := 1 })
    (carrying (List.replicate 44 fresh) (inLine .running))
  { withHead { loaded with state := .off, queue := [] } (profiled (fun p => { p with headDownPolicy := .hold })
      (timed (fun c => { c with hold := ⟨false, true, true, true⟩ }) s)) with pending := [.estop false] }

theorem witness_HoldSetInvariant :
    HoldSetKept threeHolds ∧ step threeHolds = .next (threeHolds.withPending []) := by
  refine ⟨⟨by decide +kernel, fun _ => by decide +kernel, fun _ => ?_, by decide +kernel⟩, rfl⟩
  exact ⟨fun _ => ⟨rfl, .upper, .inr (.inl rfl)⟩, fun _ => rfl⟩

theorem witness_LineMovesAreAllowed :
    (exec .feedloadActive State.reset = .next { State.reset with inputs := { Inputs.idle with feedload := true } } ∧
      Instr.feedloadActive ≠ .softReset ∧ ∀ straps, Instr.feedloadActive ≠ .resetNRelease straps) ∧
    ListKept pressing ∧ step pressing = .next (stopPressed State.reset) := by
  have ht : pressing.lnc.stopTimer = none := rfl
  have hr : pressing.lki.resetPending = false := rfl
  exact ⟨⟨rfl, by decide, nofun⟩, ⟨fun _ _ => rfl, by simp [ht], by simp [hr]⟩, rfl⟩

theorem witness_EventsBeltAndIdsMoveOnlyByTheirOwn :
    (EventSet.has (noticeDue 1).lki.events .lineState = true ∧
      exec (.estop false) (noticeDue 1) = .next (noticeDue 1) ∧
      Instr.estop false ≠ .clearEvents ∧ Instr.estop false ≠ .softReset ∧
      ∀ straps, Instr.estop false ≠ .resetNRelease straps) ∧
    exec (.estop true) (inLine .faulted) = .next (stopPressed (inLine .faulted)) ∧ Instr.estop true ≠ .encPulse ∧
    Instr.estop true ≠ .e0LeEdge :=
  ⟨⟨by decide, rfl, by decide, by decide, nofun⟩, rfl, by decide, by decide⟩

theorem witness_PostmarkInvariant :
    (PostmarkInOrder pressing ∧ step pressing = .next (stopPressed State.reset)) ∧
    ((dated (inLine .faulted)).cnu.date = some ⟨2031, 5, 20⟩ ∧
      exec (.estop true) (dated (inLine .faulted)) = .next (stopPressed (dated (inLine .faulted)))) :=
  ⟨⟨by constructor <;> simp [pressing, State.reset, State.pinReset, CancelUnit.initial], rfl⟩, rfl, rfl⟩

/-- RUNNING with one letter on its way to pocket 1, counted, and ESTOP_N's release waiting in the queue. -/
def accounted : State :=
  let s := bump .inducted (pocket1 (fun p => { p with pending := 1 }) (running bound 7400))
  { s with pending := [.estop false] }

theorem witness_AccountInvariant :
    AccountKept accounted ∧ ListKept accounted ∧ (∀ l ∈ accounted.trk.letters, l.id ≠ accounted.trk.nextId) ∧
    step accounted = .next (accounted.withPending []) := by
  have hl : accounted.trk.letters = [bound] := rfl
  have hh : accounted.held = none := rfl
  have ht : accounted.lnc.stopTimer = none := rfl
  have hr : accounted.lki.resetPending = false := rfl
  have hb : RecordInOrder bound := by constructor <;> decide +kernel
  refine ⟨⟨by decide +kernel, by simpa [hl] using hb, by simp [hh], by decide +kernel, fun _ => by decide +kernel,
    fun h => (by cases h), fun _ _ _ _ => by decide +kernel⟩, ⟨fun h => (h rfl).elim, by simp [ht], by simp [hr]⟩,
    by decide +kernel, rfl⟩

/-! ### Results that the spec works out -/

/-- The check value of the link's CRC (R170). -/
theorem test_crc : crc [0x31, 0x32, 0x33, 0x34, 0x35, 0x36, 0x37, 0x38, 0x39] = 0x29B1#16 := by decide +kernel

end Sys2Proof.Tests
end

section
/-! What a command can do, for claims about every command: the three forms of a command's meaning, and the dispatch of a
request. Completion of every command, and what only a few commands move. -/

namespace Sys2Proof.Machine

/-! ### The forms of a command's meaning -/

/-- What holds with the state as it was and after the event holds after a command that is an event out of reset. -/
theorem live_cases {P : State → Prop} {f : State → State} {s t : State} (h : live f s = .next t) (held : P s)
    (out : P (f s)) : P t := by
  unfold live at h
  split at h <;> cases h
  · exact held
  · exact out

/-- What holds with the new level alone, and with it after the pin's event, holds after a change of an input pin. -/
theorem onPin_cases {P : State → Prop} {level : Inputs → Inputs} {event : State → State} {s t : State}
    (h : onPin level event s = .next t) (held : P { s with inputs := level s.inputs })
    (out : P (event { s with inputs := level s.inputs })) : P t := by
  simp only [onPin] at h
  split at h <;> cases h
  · exact held
  · exact out

theorem live_completes (f : State → State) (s : State) : ∃ t, live f s = .next t := by
  unfold live
  split <;> exact ⟨_, rfl⟩

theorem onPin_completes (level : Inputs → Inputs) (event : State → State) (s : State) :
    ∃ t, onPin level event s = .next t := by
  simp only [onPin]
  split <;> exact ⟨_, rfl⟩

/-- Every command answers a next state, but for EYE_LE_EDGE with the operand E0. -/
theorem exec_completes (c : Instr) (s : State) (h : ∀ b, c ≠ .eyeLeEdge ⟨.e0, b⟩) : ∃ t, exec c s = .next t := by
  cases c with
  | resetNAssert => exact ⟨_, rfl⟩
  | resetNRelease straps => simp only [exec, execResetNRelease]; split <;> exact ⟨_, rfl⟩
  | e0LeEdge => simp only [exec, execE0LeEdge]; split; exacts [⟨_, rfl⟩, onPin_completes _ _ _]
  | e0TeEdge => simp only [exec, execE0TeEdge]; split; exacts [onPin_completes _ _ _, ⟨_, rfl⟩]
  | eyeLeEdge edge =>
    obtain ⟨eye, b⟩ := edge
    have he : eye ≠ .e0 := fun e => h b (by rw [e])
    simp only [exec, execEyeLeEdge, if_neg he]
    split
    exacts [⟨_, rfl⟩, onPin_completes _ _ _]
  | estop _ => unfold exec execEstop; exact onPin_completes _ _ _
  | feedloadActive => unfold exec execFeedloadActive; exact onPin_completes _ _ _
  | feedloadInactive => unfold exec execFeedloadInactive; exact onPin_completes _ _ _
  | headFault _ _ => unfold exec execHeadFault; exact onPin_completes _ _ _
  | trayRemoved _ => unfold exec execTrayRemoved; exact onPin_completes _ _ _
  | trayInserted _ => unfold exec execTrayInserted; exact onPin_completes _ _ _
  | sweepButtonChange _ _ => unfold exec execSweepButtonChange; exact onPin_completes _ _ _
  | reset => unfold exec execReset; exact live_completes _ _
  | _ => exact live_completes _ _

/-! ### The dispatch of a request -/

/-- The state in which a request is decided: it has left the request queue. -/
def taken (rest : List Request) (s : State) : State := updateLink (fun l => { l with requests := rest }) s

/-- What a dispatch can do: nothing; or the front request leaves the queue and is answered, by the link interface with
the state as it was, or by its owner. -/
theorem dispatch_cases {P : State → Prop} (k : ReqKind) (o : Owner) (s : State) (stays : P s)
    (refusal : ∀ r rest e, s.lki.requests = r :: rest → r.kind = k.code → dispatchable r s = true →
      P (pushAnswer r.kind r.tag (.error e 0) (taken rest s)))
    (owner : ∀ r rest, s.lki.requests = r :: rest → r.kind = k.code → dispatchable r s = true →
      linkRefusal k r s = none →
      P (pushAnswer r.kind r.tag (o r (taken rest s)).2 (o r (taken rest s)).1)) :
    P (dispatch k o s) := by
  unfold dispatch
  split
  · exact stays
  · next r rest hr =>
    split
    · next hk =>
      have hl : linkRefusal k r (taken rest s) = linkRefusal k r s := rfl
      simp only [serve, decideRequest]
      change P (pushAnswer _ _ (match linkRefusal k r (taken rest s) with
        | some e => refuse e (taken rest s)
        | none => o r (taken rest s)).2 (match linkRefusal k r (taken rest s) with
        | some e => refuse e (taken rest s)
        | none => o r (taken rest s)).1)
      rw [hl]
      split
      · next e _ => exact refusal r rest e hr hk.1 hk.2
      · next hn => exact owner r rest hr hk.1 hk.2 hn
    · exact stays

/-! ### The requests' owners -/

/-- The queue of commands, the belt position and the next letter id are as they were, and no pending event has gone. -/
structure Undisturbed (s t : State) : Prop where
  pending : t.pending = s.pending
  belt : t.trk.belt = s.trk.belt
  nextId : t.trk.nextId = s.trk.nextId
  events : ∀ k, EventSet.has s.lki.events k = true → EventSet.has t.lki.events k = true

theorem Undisturbed.refl (s : State) : Undisturbed s s := ⟨rfl, rfl, rfl, fun _ h => h⟩

theorem Undisturbed.trans {s t u : State} (h : Undisturbed s t) (h' : Undisturbed t u) : Undisturbed s u :=
  ⟨h'.pending.trans h.pending, h'.belt.trans h.belt, h'.nextId.trans h.nextId, fun k e => h'.events k (h.events k e)⟩

theorem beltView_position {s t : State} (h : beltView t = beltView s) :
    t.trk.belt = s.trk.belt ∧ t.trk.nextId = s.trk.nextId := by
  simp only [beltView, Prod.mk.injEq] at h
  exact ⟨h.1, h.2.1⟩

theorem undisturbed_of {s t : State} (hp : t.pending = s.pending) (hb : beltView t = beltView s)
    (he : ∀ k, EventSet.has s.lki.events k = true → EventSet.has t.lki.events k = true) : Undisturbed s t :=
  ⟨hp, (beltView_position hb).1, (beltView_position hb).2, he⟩

/-- The frames of an operation show that it disturbs nothing, where `simp` reads them off. -/
theorem undisturbed_of_frames {s t : State} (hp : t.pending = s.pending := by simp)
    (hb : beltView t = beltView s := by simp)
    (he : ∀ k, EventSet.has s.lki.events k = true → EventSet.has t.lki.events k = true := by
      intro _ h; simp [h]) : Undisturbed s t := undisturbed_of hp hb he

/-- An owner that reads only: its answer leaves the state as it is. -/
def Owner.Reads (o : Owner) : Prop := ∀ r s, (o r s).1 = s

theorem ownGetPostmark_reads : Owner.Reads ownGetPostmark := fun _ _ => rfl
theorem ownGetStatus_reads : Owner.Reads ownGetStatus := fun _ _ => rfl
theorem ownReadChannels_reads : Owner.Reads ownReadChannels := fun _ _ => rfl
theorem ownReadPockets_reads : Owner.Reads ownReadPockets := fun _ _ => rfl
theorem ownReadTallies_reads : Owner.Reads ownReadTallies := fun _ _ => rfl
theorem ownIdentify_reads : Owner.Reads ownIdentify := fun _ _ => rfl
theorem ownGetField_reads : Owner.Reads ownGetField := fun _ _ => rfl
theorem ownReadCapture_reads : Owner.Reads ownReadCapture := fun _ s => by unfold ownReadCapture; split <;> rfl

/-! What the other owners can do to the state: nothing, where they refuse, or their own effect. -/

section
variable {P : State → Prop} (r : Request) {s : State}

theorem ownSetPostmark_cases (stays : P s)
    (sets : ∀ d time office w, P { s with cnu := { s.cnu with
      date := some d, timeMark := time, office := office, waiting := w } }) : P (ownSetPostmark r s).1 := by
  simp only [ownSetPostmark]
  split
  · exact stays
  · exact sets _ _ _ _

theorem ownHeadReset_cases (stays : P s)
    (resets : ∀ h, (s.cnu.heads.get h).state = .fault →
      P (refreshHeadDown (updateHead h (fun u => { u with state := u.backState }) s))) : P (ownHeadReset r s).1 := by
  unfold ownHeadReset
  split
  · exact stays
  · unfold resetHead
    split
    · exact stays
    · next h _ hf =>
      split
      · exact stays
      · exact resets h (by simpa using hf)

theorem ownHeadDisable_cases (stays : P s)
    (off : ∀ h, P (refreshHeadDown (emptyQueue h (updateHead h (fun u => { u with state := .off }) s))))
    (pends : ∀ h, P (refreshHeadDown (emptyQueue h (updateHead h (fun u => { u with offPending := true }) s)))) :
    P (ownHeadDisable r s).1 := by
  unfold ownHeadDisable
  split
  · exact stays
  · next h _ =>
    simp only [disableHead]
    split
    · exact stays
    · exact stays
    · exact off h
    · split
      · exact stays
      · exact off h
    · split
      · exact stays
      · exact pends h

theorem ownHeadEnable_cases (stays : P s)
    (back : ∀ h, P (refreshHeadDown (updateHead h (fun u => { u with state := u.backState }) s)))
    (kept : ∀ h, P (refreshHeadDown (updateHead h (fun u => { u with offPending := false }) s))) :
    P (ownHeadEnable r s).1 := by
  unfold ownHeadEnable
  split
  · exact stays
  · next h _ =>
    unfold enableHead
    split
    · exact stays
    · exact back h
    all_goals exact kept h

theorem ownStart_cases (stays : P s) (starts : s.lnc.line = .stopped ∨ s.lnc.line = .standby → P (enterStarting s)) :
    P (ownStart r s).1 := by
  unfold ownStart
  split
  · exact stays
  · next hl =>
    have hl : s.lnc.line = .stopped ∨ s.lnc.line = .standby := by
      by_contra h
      exact hl ⟨fun e => h (.inl e), fun e => h (.inr e)⟩
    split
    · exact stays
    · split
      · exact stays
      · split
        · exact stays
        · exact starts hl

theorem ownStop_cases (stays : P s) (stops : s.lnc.line = .starting ∨ s.lnc.line = .running → P (enterStopping s)) :
    P (ownStop r s).1 := by
  simp only [ownStop]
  split
  · next h => exact stops (.inl h)
  · next h => exact stops (.inr h)
  all_goals exact stays

theorem ownStandby_cases (stays : P s) (enters : s.lnc.line = .stopped → P (startWake (enterLine .standby s))) :
    P (ownStandby r s).1 := by
  unfold ownStandby
  split
  · next h => exact enters h
  all_goals exact stays

theorem ownClearFault_cases (stays : P s)
    (clears : s.lnc.line = .faulted → P (enterLine .stopped (updateLine (fun c => { c with reason := none }) s))) :
    P (ownClearFault r s).1 := by
  unfold ownClearFault
  split
  · exact stays
  · next h =>
    split
    · exact stays
    · exact clears (by simpa using h)

theorem ownSetEventMask_cases (stays : P s) (sets : ∀ m, P (setMask m s)) : P (ownSetEventMask r s).1 := by
  unfold ownSetEventMask
  split
  · exact stays
  · exact sets _

theorem ownClearEvents_cases (stays : P s) (clears : ∀ m, P (clearEvents m s)) : P (ownClearEvents r s).1 := by
  unfold ownClearEvents
  split
  · exact stays
  · exact clears _

theorem ownSetReportMode_cases (stays : P s)
    (sets : ∀ m, P (updateProfile (fun p => { p with reportMode := m }) s)) : P (ownSetReportMode r s).1 := by
  unfold ownSetReportMode
  split
  · exact stays
  · exact sets _

theorem ownCalibrate_cases (stays : P s) (begins : ∀ k, P { s with lch := { s.lch with calib := some k } }) :
    P (ownCalibrate r s).1 := by
  simp only [ownCalibrate]
  split
  · exact stays
  · split
    · exact stays
    · split
      · exact begins _
      · exact stays

theorem ownArmCapture_cases (stays : P s)
    (arms : ∀ sel skip, P { s with lch := { s.lch with capture := ⟨.armed, some sel, none, skip, []⟩ } }) :
    P (ownArmCapture r s).1 := by
  unfold ownArmCapture
  split
  · exact arms _ _
  · exact stays

theorem ownSetCounterSource_cases (stays : P s)
    (sets : ∀ named src, P (updateChans named (fun c => { c with source := src, counter := 0 }) s)) :
    P (ownSetCounterSource r s).1 := by
  unfold ownSetCounterSource
  split
  · exact sets _ _
  · exact stays

theorem ownChannelReset_cases (stays : P s) (resets : ∀ named f, P (updateChans named f s)) :
    P (ownChannelReset r s).1 := by
  unfold ownChannelReset
  split
  · exact stays
  · exact resets _ _

theorem ownSweep_cases (stays : P s)
    (sweeps : ∀ k, sweepRefusal k s = none → P (beginDraining k .sweepRequest s)) : P (ownSweep r s).1 := by
  unfold ownSweep
  split
  · exact stays
  · split
    · exact stays
    · next h => exact sweeps _ h

theorem ownPocketOut_cases (stays : P s)
    (out : ∀ k, isBank k = true → P (updatePocket k (fun p => { p with state := .out }) s)) :
    P (ownPocketOut r s).1 := by
  unfold ownPocketOut
  split
  · exact stays
  · split
    · next hb =>
      unfold takeOut
      split
      · exact stays
      · exact stays
      · exact stays
      all_goals exact out _ hb
    · exact stays

theorem ownPocketIn_cases (stays : P s) (brings : ∀ k, P (bringIn k s)) : P (ownPocketIn r s).1 := by
  unfold ownPocketIn
  split
  · exact stays
  · split
    · exact brings _
    · exact stays

theorem ownTakeTray_cases (stays : P s)
    (takes : ∀ x rest, s.pkm.log = x :: rest → P { s with pkm := { s.pkm with log := rest } }) :
    P (ownTakeTray r s).1 := by
  unfold ownTakeTray
  split
  · exact stays
  · next x rest h => exact takes x rest h

theorem ownClearShift_cases (stays : P s)
    (clears : P { s with pkm := { s.pkm with tallies := Vector.replicate 34 0 } }) : P (ownClearShift r s).1 := by
  unfold ownClearShift
  split
  · exact stays
  · exact clears

theorem ownReset_cases (stays : P s) (accepts : P (updateLink (fun k => { k with resetPending := true }) s)) :
    P (ownReset r s).1 := by
  have either : ∀ b : Bool, P (if b then (updateLink (fun k => { k with resetPending := true }) s, Answer.ok false [])
      else refuse .wrongState s).1 := by
    intro b
    cases b
    · exact stays
    · exact accepts
  exact either _

theorem ownSetField_cases (stays : P s)
    (sets : ∀ n v, fieldWritable n s.lnc.line = true →
      P (fieldEffects n s.prl.profile (updateProfile (fun _ => s.prl.profile.setField n v) s))) :
    P (ownSetField r s).1 := by
  simp only [ownSetField]
  split
  · exact stays
  · simp only [writeField]
    split
    · exact stays
    · next hw =>
      split
      · exact stays
      · split
        · exact stays
        · exact sets _ _ (by simpa using hw)

theorem ownWriteProfile_cases (stays : P s)
    (begins : P (updateLoader (fun x => { x with store := .waiting (imageOf x.profile) }) s)) :
    P (ownWriteProfile r s).1 := by
  unfold ownWriteProfile
  split
  · exact stays
  · split
    · exact stays
    · exact begins

end

/-! ### Completion of every command -/

theorem pushAnswer_undisturbed (kind tag : Byte) (a : Answer) (s : State) : Undisturbed s (pushAnswer kind tag a s) :=
  undisturbed_of_frames

/-- A dispatch is undisturbing where the effect of its owner is. -/
theorem dispatch_undisturbed {k : ReqKind} {o : Owner} (ho : ∀ r s, Undisturbed s (o r s).1) (s : State) :
    Undisturbed s (dispatch k o s) := by
  have ht : ∀ rest, Undisturbed s (taken rest s) := fun rest => undisturbed_of rfl rfl fun _ h => h
  refine dispatch_cases k o s (.refl s) ?_ ?_
  · intro r rest e _ _ _
    exact (ht rest).trans (pushAnswer_undisturbed ..)
  · intro r rest _ _ _ _
    exact ((ht rest).trans (ho r _)).trans (pushAnswer_undisturbed ..)

theorem Owner.Reads.undisturbed {o : Owner} (h : o.Reads) (r : Request) (s : State) : Undisturbed s (o r s).1 := by
  rw [h r s]
  exact .refl s

end Sys2Proof.Machine
end

section
namespace Sys2Proof.Machine

theorem setOperator_undisturbed (b : Bool) (s : State) : Undisturbed s (setOperator b s).1 :=
  undisturbed_of (by simp [setOperator]) (by simp [setOperator]) fun _ h => by simp [setOperator, h]

/-- What the command `c` leaves of what only a few commands move: the queue of commands always; the pending events but at
CLEAR_EVENTS and the resets; the belt position and the next letter id but at a pulse, an induction and the pin reset. -/
structure MovedOnlyBy (c : Instr) (s t : State) : Prop where
  pending : t.pending = s.pending
  events : c ≠ .clearEvents → c ≠ .softReset → (∀ straps, c ≠ .resetNRelease straps) →
    ∀ k, EventSet.has s.lki.events k = true → EventSet.has t.lki.events k = true
  belt : c ≠ .encPulse → (∀ straps, c ≠ .resetNRelease straps) → t.trk.belt = s.trk.belt
  nextId : c ≠ .e0LeEdge → (∀ straps, c ≠ .resetNRelease straps) → t.trk.nextId = s.trk.nextId

theorem Undisturbed.movedOnlyBy {c : Instr} {s t : State} (h : Undisturbed s t) : MovedOnlyBy c s t :=
  ⟨h.pending, fun _ _ _ => h.events, fun _ _ => h.belt, fun _ _ => h.nextId⟩

theorem live_moved {c : Instr} {f : State → State} {s t : State} (h : live f s = .next t)
    (hf : Undisturbed s (f s)) : MovedOnlyBy c s t :=
  live_cases (P := MovedOnlyBy c s) h (Undisturbed.refl s).movedOnlyBy hf.movedOnlyBy

theorem onPin_moved {c : Instr} {level : Inputs → Inputs} {event : State → State} {s t : State}
    (h : onPin level event s = .next t) (hf : ∀ u, Undisturbed u (event u)) : MovedOnlyBy c s t := by
  have hl : Undisturbed s { s with inputs := level s.inputs } := ⟨rfl, rfl, rfl, fun _ h => h⟩
  exact onPin_cases (P := MovedOnlyBy c s) h hl.movedOnlyBy (hl.trans (hf _)).movedOnlyBy

theorem dispatch_moved {c : Instr} {k : ReqKind} {o : Owner} {s t : State} (h : live (dispatch k o) s = .next t)
    (ho : ∀ r s, Undisturbed s (o r s).1) : MovedOnlyBy c s t :=
  live_moved h (dispatch_undisturbed ho s)

theorem enterFaulted_undisturbed (cause : LineCause) (s : State) : Undisturbed s (enterFaulted cause s) :=
  undisturbed_of_frames

theorem ite_undisturbed {c : Prop} [Decidable c] {s t u : State} (ht : Undisturbed s t) (hu : Undisturbed s u) :
    Undisturbed s (if c then t else u) := by
  split
  · exact ht
  · exact hu

theorem afterLoading_undisturbed {f : State → State} {s : State} (h : Undisturbed s (f s)) :
    Undisturbed s (afterLoading f s) := ite_undisturbed (.refl s) h

/-- What the end of a speed window can do to the line (R151, R156). -/
theorem superviseSpeed_cases {P : State → Prop} (s : State) (stays : P s)
    (starting : s.lnc.line = .starting → ∀ n, P (checkStart (updateLine (fun c => { c with atSpeed := n }) s)))
    (counts : ∀ n, P (updateLine (fun c => { c with below := n }) s))
    (faults : s.lnc.line = .running ∨ s.lnc.line = .stopping → ∀ n,
      P (enterFaulted .speedLow (updateLine (fun c => { c with below := n }) s))) : P (superviseSpeed s) := by
  have slow : s.lnc.line = .running ∨ s.lnc.line = .stopping → ∀ n, P (if Config.windowsBelowSpeed ≤ n then
      enterFaulted .speedLow (updateLine (fun c => { c with below := n }) s)
      else updateLine (fun c => { c with below := n }) s) := by
    intro hl n
    split
    · exact faults hl n
    · exact counts n
  simp only [superviseSpeed]
  split
  · next h => exact starting h _
  · next h => exact slow (.inl h) _
  · next h =>
    split
    · exact slow (.inr h) _
    · exact stays
  all_goals exact stays

theorem superviseSpeed_undisturbed (s : State) : Undisturbed s (superviseSpeed s) := by
  have hline : ∀ f, Undisturbed s (updateLine f s) := fun f => ⟨rfl, rfl, rfl, fun _ h => h⟩
  refine superviseSpeed_cases s (.refl s) (fun _ n => ?_) (fun n => hline _) (fun _ n => ?_)
  · exact (hline _).trans (undisturbed_of (by simp) (by simp) fun _ h => checkStart_pending _ h)
  · exact (hline _).trans (enterFaulted_undisturbed _ _)

/-- What the belt's coming to rest can do (R4, R159, R116). -/
theorem beltStill_cases {P : State → Prop} (s : State) (stays : P s)
    (still : P { s with trk := { s.trk with moving := false } })
    (stopped : s.lnc.line = .stopping → P (enterStopped { s with trk := { s.trk with moving := false } }))
    (faulted : s.lnc.line = .faulted → P (settleFaulted { s with trk := { s.trk with moving := false } })) :
    P (beltStill s) := by
  simp only [beltStill]
  split
  · split
    · next h =>
      split
      · exact stopped h
      · exact still
    · next h => exact faulted h
    all_goals exact still
  · exact stays

theorem beltStill_undisturbed (s : State) : Undisturbed s (beltStill s) := by
  have hm : Undisturbed s { s with trk := { s.trk with moving := false } } := ⟨rfl, rfl, rfl, fun _ h => h⟩
  refine beltStill_cases s (.refl s) hm (fun _ => ?_) (fun _ => ?_)
  · exact hm.trans undisturbed_of_frames
  · exact hm.trans undisturbed_of_frames

theorem e0LeadingEdge_belt (s : State) : (e0LeadingEdge s).trk.belt = s.trk.belt := by
  have hi : (induct s).trk.belt = s.trk.belt := by
    have h : beltView (induct s) = beltView (addRecord (newLetter s) s) := by simp only [induct]; simp
    exact (beltView_position h).1
  have hf : ∀ c, (enterFaulted c s).trk.belt = s.trk.belt := fun c => (enterFaulted_undisturbed c s).belt
  unfold e0LeadingEdge
  split
  · rfl
  · rfl
  · exact hf _
  · exact hf _
  · exact hf _
  all_goals
    split
    · exact hf _
    · exact hi

theorem softReset_belt (s : State) :
    (softReset s).pending = s.pending ∧ (softReset s).trk.belt = s.trk.belt ∧
    (softReset s).trk.nextId = s.trk.nextId := ⟨rfl, rfl, rfl⟩

theorem exec_moved {c : Instr} {s t : State} (h : exec c s = .next t) : MovedOnlyBy c s t := by
  cases c with
  | resetNAssert =>
    cases h
    exact (show Undisturbed s (assertReset s) from ⟨rfl, rfl, rfl, fun _ h => h⟩).movedOnlyBy
  | resetNRelease straps =>
    have hp : t.pending = s.pending := by
      simp only [exec, execResetNRelease] at h
      split at h <;> cases h <;> rfl
    have hno : ∀ {P : Prop}, (∀ x, Instr.resetNRelease straps ≠ .resetNRelease x) → P :=
      fun hc => absurd rfl (hc straps)
    exact ⟨hp, fun _ _ hc => hno hc, fun _ hc => hno hc, fun _ hc => hno hc⟩
  | encPulse =>
    refine live_cases (P := MovedOnlyBy _ s) h (Undisturbed.refl s).movedOnlyBy ?_
    exact ⟨rfl, fun _ _ _ _ h => h, fun hc => absurd rfl hc, fun _ _ => rfl⟩
  | speedWindowEnd =>
    have hw : Undisturbed s { s with trk := { s.trk with speed := s.trk.windowCount * 100, windowCount := 0 } } :=
      ⟨rfl, rfl, rfl, fun _ h => h⟩
    exact live_moved h (hw.trans (superviseSpeed_undisturbed _))
  | beltStill => exact live_moved h (beltStill_undisturbed s)
  | e0LeEdge =>
    simp only [exec, execE0LeEdge] at h
    split at h
    · cases h
      exact (Undisturbed.refl s).movedOnlyBy
    · refine onPin_cases (P := MovedOnlyBy .e0LeEdge s) h ⟨rfl, fun _ _ _ _ h => h, fun _ _ => rfl, fun _ _ => rfl⟩ ?_
      exact ⟨by simp, fun _ _ _ k hk => by simp [hk], fun _ _ => e0LeadingEdge_belt _, fun hc => absurd rfl hc⟩
  | e0TeEdge =>
    simp only [exec, execE0TeEdge] at h
    split at h
    · exact onPin_moved h fun u => undisturbed_of_frames
    · cases h
      exact (Undisturbed.refl s).movedOnlyBy
  | eyeLeEdge edge =>
    simp only [exec, execEyeLeEdge] at h
    split at h
    · cases h
    · split at h
      · cases h
        exact (Undisturbed.refl s).movedOnlyBy
      · refine onPin_moved h fun u => ite_undisturbed undisturbed_of_frames (.refl u)
  | softReset =>
    refine live_cases (P := MovedOnlyBy .softReset s) h (Undisturbed.refl s).movedOnlyBy ?_
    unfold actReset
    split
    · obtain ⟨hp, hb, hn⟩ := softReset_belt s
      exact ⟨hp, fun _ hc => absurd rfl hc, fun _ _ => hb, fun _ _ => hn⟩
    · exact (Undisturbed.refl s).movedOnlyBy
  | clearEvents =>
    have hd : ∀ u : State, u.pending = s.pending ∧ beltView u = beltView s → MovedOnlyBy .clearEvents s u :=
      fun u hu => ⟨hu.1, fun hc => absurd rfl hc, fun _ _ => (beltView_position hu.2).1,
        fun _ _ => (beltView_position hu.2).2⟩
    refine live_cases h (Undisturbed.refl s).movedOnlyBy (dispatch_cases _ _ s (Undisturbed.refl s).movedOnlyBy ?_ ?_)
    · intro r rest e _ _ _
      exact hd _ (by simp [taken])
    · intro r rest _ _ _ _
      refine hd _ ?_
      simp only [pushAnswer_frame, pushAnswer_beltView]
      refine ownClearEvents_cases (P := fun u => u.pending = s.pending ∧ beltView u = beltView s) r ?_ fun m => ?_
      all_goals simp [taken]
  | reset =>
    unfold exec execReset at h
    refine live_moved h ((dispatch_undisturbed (k := .reset) (o := ownReset) (fun r s => ?_) s).trans ?_)
    · exact ownReset_cases r (.refl s) ⟨rfl, rfl, rfl, fun _ h => h⟩
    · exact undisturbed_of_frames
  | estop active =>
    unfold exec execEstop at h
    exact onPin_moved h fun u => ite_undisturbed (enterFaulted_undisturbed _ u) (.refl u)
  | feedloadActive =>
    unfold exec execFeedloadActive at h
    exact onPin_moved h fun u => undisturbed_of_frames
  | feedloadInactive =>
    unfold exec execFeedloadInactive at h
    exact onPin_moved h fun u => undisturbed_of_frames
  | headFault hd a =>
    unfold exec execHeadFault at h
    exact onPin_moved h fun u => ite_undisturbed undisturbed_of_frames (.refl u)
  | trayRemoved k =>
    unfold exec execTrayRemoved at h
    refine onPin_moved h fun u => ite_undisturbed (afterLoading_undisturbed ?_) (.refl u)
    exact undisturbed_of_frames
  | trayInserted k =>
    unfold exec execTrayInserted at h
    refine onPin_moved h fun u => ite_undisturbed (.refl u) (afterLoading_undisturbed ?_)
    exact undisturbed_of_frames
  | sweepButtonChange k a =>
    unfold exec execSweepButtonChange at h
    refine onPin_moved h fun u => ite_undisturbed (.refl u) (afterLoading_undisturbed ?_)
    exact undisturbed_of_frames
  | identify => exact dispatch_moved h ownIdentify_reads.undisturbed
  | getStatus => exact dispatch_moved h ownGetStatus_reads.undisturbed
  | getPostmark => exact dispatch_moved h ownGetPostmark_reads.undisturbed
  | readChannels => exact dispatch_moved h ownReadChannels_reads.undisturbed
  | readCapture => exact dispatch_moved h ownReadCapture_reads.undisturbed
  | readPockets => exact dispatch_moved h ownReadPockets_reads.undisturbed
  | readTallies => exact dispatch_moved h ownReadTallies_reads.undisturbed
  | getField => exact dispatch_moved h ownGetField_reads.undisturbed
  | poll => exact dispatch_moved h fun r s =>
    undisturbed_of (by simp [ownPoll]) (by simp [ownPoll]) (by simp [ownPoll])
  | start => exact dispatch_moved h fun r s => ownStart_cases r (.refl s) fun _ => undisturbed_of_frames
  | stop => exact dispatch_moved h fun r s => ownStop_cases r (.refl s) fun _ => undisturbed_of_frames
  | standby => exact dispatch_moved h fun r s => ownStandby_cases r (.refl s) fun _ => undisturbed_of_frames
  | clearFault => exact dispatch_moved h fun r s => ownClearFault_cases r (.refl s) fun _ => undisturbed_of_frames
  | holdFeed => exact dispatch_moved h fun _ s => setOperator_undisturbed true s
  | releaseFeed => exact dispatch_moved h fun _ s => setOperator_undisturbed false s
  | headReset => exact dispatch_moved h fun r s => ownHeadReset_cases r (.refl s) fun _ _ => undisturbed_of_frames
  | headDisable => exact dispatch_moved h fun r s =>
    ownHeadDisable_cases r (.refl s) (fun _ => undisturbed_of_frames) fun _ => undisturbed_of_frames
  | headEnable => exact dispatch_moved h fun r s =>
    ownHeadEnable_cases r (.refl s) (fun _ => undisturbed_of_frames) fun _ => undisturbed_of_frames
  | setPostmark => exact dispatch_moved h fun r s =>
    ownSetPostmark_cases r (.refl s) fun _ _ _ _ => ⟨rfl, rfl, rfl, fun _ h => h⟩
  | calibrate => exact dispatch_moved h fun r s =>
    ownCalibrate_cases r (.refl s) fun _ => ⟨rfl, rfl, rfl, fun _ h => h⟩
  | armCapture => exact dispatch_moved h fun r s =>
    ownArmCapture_cases r (.refl s) fun _ _ => ⟨rfl, rfl, rfl, fun _ h => h⟩
  | setCounterSource => exact dispatch_moved h fun r s =>
    ownSetCounterSource_cases r (.refl s) fun _ _ => undisturbed_of_frames
  | channelReset => exact dispatch_moved h fun r s =>
    ownChannelReset_cases r (.refl s) fun _ _ => undisturbed_of_frames
  | sweep => exact dispatch_moved h fun r s => ownSweep_cases r (.refl s) fun _ _ => undisturbed_of_frames
  | pocketOut => exact dispatch_moved h fun r s => ownPocketOut_cases r (.refl s) fun _ _ => undisturbed_of_frames
  | pocketIn => exact dispatch_moved h fun r s => ownPocketIn_cases r (.refl s) fun _ => undisturbed_of_frames
  | takeTray => exact dispatch_moved h fun r s =>
    ownTakeTray_cases r (.refl s) fun _ _ _ => ⟨rfl, rfl, rfl, fun _ h => h⟩
  | clearShift => exact dispatch_moved h fun r s => ownClearShift_cases r (.refl s) ⟨rfl, rfl, rfl, fun _ h => h⟩
  | setField => exact dispatch_moved h fun r s => ownSetField_cases r (.refl s) fun _ _ _ => undisturbed_of_frames
  | writeProfile => exact dispatch_moved h fun r s =>
    ownWriteProfile_cases r (.refl s) ⟨rfl, rfl, rfl, fun _ h => h⟩
  | setEventMask => exact dispatch_moved h fun r s =>
    ownSetEventMask_cases r (.refl s) fun _ => ⟨rfl, rfl, rfl, fun _ h => h⟩
  | setReportMode => exact dispatch_moved h fun r s =>
    ownSetReportMode_cases r (.refl s) fun _ => ⟨rfl, rfl, rfl, fun _ h => h⟩
  | _ => exact live_moved h undisturbed_of_frames

/-- Settles O2: every command answers a next state by its form, and no operation touches the queue of commands. -/
theorem everyCommandCompletes : Obligations.EveryCommandCompletes := by
  unfold Obligations.EveryCommandCompletes
  refine ⟨fun c s hc => ?_, fun b s => rfl⟩
  obtain ⟨t, ht⟩ := exec_completes c s hc
  exact ⟨t, ht, (exec_moved ht).pending⟩

/-- Settles O58: the walk over the commands, `exec_moved`, has its three parts. -/
theorem eventsBeltAndIdsMoveOnlyByTheirOwn : Obligations.EventsBeltAndIdsMoveOnlyByTheirOwn := by
  unfold Obligations.EventsBeltAndIdsMoveOnlyByTheirOwn
  constructor
  · intro c s t k hk h h1 h2 h3
    exact (exec_moved h).events h1 h2 h3 k hk
  · intro c s t h h3
    exact ⟨fun hc => (exec_moved h).belt hc h3, fun hc => (exec_moved h).nextId hc h3⟩

end Sys2Proof.Machine
end

section
/-! The two invariants on capacities and on the feed hold set, stated on a view of the state that holds what they speak of
and nothing else; the operations that leave the view as it is. -/

namespace Sys2Proof.Machine

/-- What the capacities (R16, R45, R67, R100, R132, R172, R177, R180) and the feed hold set (R153) depend on. -/
structure KeptView where
  letters : Nat
  pockets : PocketNo → PocketState × Nat × Nat
  limits : PocketNo → Nat
  log : Nat
  heads : Head → Nat × Bool
  policy : HeadDownPolicy
  listHigh : Bool
  catchFull : Bool
  headDown : Bool
  loading : Bool
  requests : List Request
  replies : Nat
  reports : Nat
  resetPending : Bool
  captured : Nat
  captureFull : Bool
  scan : Option ScanContext

/-- What of a pocket matters to its capacities and holds: its state and its two counts. -/
def Pocket.load (p : Pocket) : PocketState × Nat × Nat := (p.state, p.delivered, p.pending)

/-- What of a head matters: the length of its queue, and whether it is down. -/
def HeadUnit.load (u : HeadUnit) : Nat × Bool := (u.queue.length, u.down)

def keptView (s : State) : KeptView where
  letters := s.trk.letters.length
  pockets k := (s.pkm.pockets[k]).load
  limits k := s.prl.profile.limits[k]
  log := s.pkm.log.length
  heads h := (s.cnu.heads.get h).load
  policy := s.prl.profile.headDownPolicy
  listHigh := s.lnc.hold.listHigh
  catchFull := s.lnc.hold.catchFull
  headDown := s.lnc.hold.headDown
  loading := decide (s.lnc.line = .loading)
  requests := s.lki.requests
  replies := s.lki.replies.length
  reports := s.lki.reports.length
  resetPending := s.lki.resetPending
  captured := s.lch.capture.entries.length
  captureFull := decide (s.lch.capture.state = .full)
  scan := s.scan

/-- The pockets that hold a tray-log reservation, as the view shows them (R132). -/
def reserved (pockets : PocketNo → PocketState × Nat × Nat) : Nat :=
  (allPockets.filter fun k => (pockets k).1 == .draining).length

/-- No channel's run list holds more than it has room for (R67). -/
def RunsFit (x : Option ScanContext) : Prop :=
  ∀ y, x = some y → ∀ c, (y.ctx.get c).runs.length ≤ Config.runListCapacity

/-- The capacities, on the view. -/
structure KeptView.Within (v : KeptView) : Prop where
  letters : v.letters ≤ Config.listCapacity
  log : v.log + reserved v.pockets ≤ Config.trayLogCapacity
  requests : v.requests.length ≤ Config.requestCapacity
  replies : v.replies ≤ Config.replyCapacity
  reports : v.reports ≤ Config.reportCapacity
  heads : ∀ h, (v.heads h).1 ≤ Config.headQueueCapacity
  capture : v.captured ≤ Config.captureCapacity ∧ (v.captureFull = false → v.captured < Config.captureCapacity)
  runs : RunsFit v.scan
  reset : v.resetPending = true → v.requests = []

/-- A catch pocket's condition for CATCH_FULL, on the view (R127). -/
def KeptView.atLimit (v : KeptView) (k : PocketNo) : Bool := v.limits k ≤ (v.pockets k).2.1 + (v.pockets k).2.2

/-- The condition for HEAD_DOWN, on the view (R114). -/
def KeptView.headsDown (v : KeptView) : Bool := v.policy == .hold && ((v.heads .upper).2 || (v.heads .lower).2)

/-- The feed hold set, on the view. -/
structure KeptView.Holds (v : KeptView) : Prop where
  listHigh : v.listHigh = decide (44 ≤ v.letters)
  catchFull : v.loading = false → v.catchFull = (v.atLimit 0 || v.atLimit 9)
  headDown : v.loading = false → v.headDown = v.headsDown
  service : ∀ k : PocketNo, isBank k = false → (v.pockets k).1 ≠ .out

theorem withinCapacity_iff (s : State) : WithinCapacity s ↔ (keptView s).Within := by
  constructor
  · intro h
    refine ⟨h.letters, h.log, h.requests, h.replies, h.reports, h.heads, ⟨h.capture.1, fun hf => ?_⟩, h.runs, h.reset⟩
    exact h.capture.2 (of_decide_eq_false hf)
  · intro h
    refine ⟨h.letters, h.log, h.requests, h.replies, h.reports, h.heads, ⟨h.capture.1, fun hf => ?_⟩, h.runs, h.reset⟩
    exact h.capture.2 (decide_eq_false hf)

theorem HeadUnit.down_iff (u : HeadUnit) :
    u.down = true ↔ u.state = .fault ∨ u.state = .off ∨ u.offPending = true := by
  simp [HeadUnit.down, or_assoc]

theorem keptView_atLimit (k : PocketNo) (s : State) : (keptView s).atLimit k = atLimit k s := rfl

theorem keptView_headsDown (s : State) : (keptView s).headsDown = headDownHeld s := rfl

theorem headDownHeld_iff (s : State) : headDownHeld s = true ↔ s.prl.profile.headDownPolicy = .hold ∧
    ∃ h, (s.cnu.heads.get h).state = .fault ∨ (s.cnu.heads.get h).state = .off ∨
      (s.cnu.heads.get h).offPending = true := by
  have he : (∃ h, (s.cnu.heads.get h).down = true) ↔ s.cnu.heads.upper.down = true ∨ s.cnu.heads.lower.down = true := by
    constructor
    · rintro ⟨h, hd⟩
      cases h
      · exact .inl hd
      · exact .inr hd
    · rintro (hd | hd)
      · exact ⟨.upper, hd⟩
      · exact ⟨.lower, hd⟩
  simp only [← HeadUnit.down_iff, he, headDownHeld, Bool.and_eq_true, Bool.or_eq_true, beq_iff_eq]

theorem holdSetKept_iff (s : State) : HoldSetKept s ↔ (keptView s).Holds := by
  have hc : (s.lnc.hold.catchFull = true ↔ atLimit 0 s = true ∨ atLimit 9 s = true) ↔
      s.lnc.hold.catchFull = (atLimit 0 s || atLimit 9 s) := by
    rw [← Bool.or_eq_true, ← Bool.eq_iff_iff]
  have hd : (s.lnc.hold.headDown = true ↔ headDownHeld s = true) ↔ s.lnc.hold.headDown = headDownHeld s :=
    Bool.eq_iff_iff.symm
  rw [headDownHeld_iff] at hd
  simp only [atLimit, decide_eq_true_eq] at hc
  constructor
  · intro h
    exact ⟨h.listHigh, fun hl => hc.1 (h.catchFull (of_decide_eq_false hl)),
      fun hl => hd.1 (h.headDown (of_decide_eq_false hl)), h.service⟩
  · intro h
    exact ⟨h.listHigh, fun hl => hc.2 (h.catchFull (decide_eq_false hl)),
      fun hl => hd.2 (h.headDown (decide_eq_false hl)), h.service⟩

/-! ### What keeps both -/

/-- Both invariants carry over from the one view to the other. -/
structure Keeps (v w : KeptView) : Prop where
  within : v.Within → w.Within
  holds : v.Holds → w.Holds

theorem Keeps.refl (v : KeptView) : Keeps v v := ⟨id, id⟩

theorem Keeps.trans {u v w : KeptView} (h : Keeps u v) (h' : Keeps v w) : Keeps u w :=
  ⟨h'.within ∘ h.within, h'.holds ∘ h.holds⟩

/-! ### Operations that leave the view as it is -/

@[simp] theorem raise_view (k : EventKind) (s : State) : keptView (raise k s) = keptView s := rfl

@[simp] theorem bump_view (x : Tally) (s : State) : keptView (bump x s) = keptView s := rfl

@[simp] theorem updateLetter_view (id : LetterId) (f : Letter → Letter) (s : State) :
    keptView (updateLetter id f s) = keptView s := by
  change { keptView s with letters := (updateList id f s.trk.letters).length } = keptView s
  rw [updateList_length]
  rfl

@[simp] theorem updateChan_view (c : Chan) (f : Channel → Channel) (s : State) :
    keptView (updateChan c f s) = keptView s := rfl

@[simp] theorem setGate_view (g : GateId) (x : Gate) (s : State) : keptView (setGate g x s) = keptView s := rfl

@[simp] theorem restGates_view (s : State) : keptView (restGates s) = keptView s := rfl

@[simp] theorem clearMeasuring_view (s : State) : keptView (clearMeasuring s) = keptView s := rfl

@[simp] theorem idleChannels_view (s : State) : keptView (idleChannels s) = keptView s := rfl

@[simp] theorem channelsStart_view (s : State) : keptView (channelsStart s) = keptView s := rfl

@[simp] theorem leaveCalibration_view (s : State) : keptView (leaveCalibration s) = keptView s := rfl

@[simp] theorem pulseLamps_view (pos : Pos) (s : State) : keptView (pulseLamps pos s) = keptView s := rfl

@[simp] theorem encPulse_view (s : State) : keptView (encPulse s) = keptView s := rfl

@[simp] theorem transmit_view (f : Frame) (s : State) : keptView (transmit f s) = keptView s := rfl

@[simp] theorem endSending_view (s : State) : keptView (endSending s) = keptView s := rfl

@[simp] theorem setDebounce_view (k : PocketNo) (running : Bool) (s : State) :
    keptView (setDebounce k running s) = keptView s := rfl

theorem fillList_length (a : Answer) (ps : List ReplyPlace) : (fillList a ps).length = ps.length := by
  induction ps with
  | nil => rfl
  | cons p ps ih => cases p <;> simp [fillList, ih]

@[simp] theorem fillDeferred_view (a : Answer) (s : State) : keptView (fillDeferred a s) = keptView s := by
  change { keptView s with replies := (fillList a s.lki.replies).length } = keptView s
  rw [fillList_length]
  rfl

theorem updateLine_view {f : LineController → LineController} {s : State} (hh : (f s.lnc).hold = s.lnc.hold)
    (hl : (f s.lnc).line = .loading ↔ s.lnc.line = .loading) : keptView (updateLine f s) = keptView s := by
  change { keptView s with
    listHigh := (f s.lnc).hold.listHigh, catchFull := (f s.lnc).hold.catchFull
    headDown := (f s.lnc).hold.headDown, loading := decide ((f s.lnc).line = .loading) } = keptView s
  simp only [hh, hl]
  rfl

theorem updateHead_view {h : Head} {f : HeadUnit → HeadUnit} {s : State}
    (hf : (f (s.cnu.heads.get h)).load = (s.cnu.heads.get h).load) : keptView (updateHead h f s) = keptView s := by
  have hg : (fun g => ((updateHead h f s).cnu.heads.get g).load) = fun g => (s.cnu.heads.get g).load := by
    funext g
    rw [updateHead_get]
    split
    · next e => rw [hf, e]
    · rfl
  change { keptView s with heads := fun g => ((updateHead h f s).cnu.heads.get g).load } = keptView s
  rw [hg]
  rfl

theorem updatePocket_view {k : PocketNo} {f : Pocket → Pocket} {s : State}
    (hf : (f s.pkm.pockets[k]).load = (s.pkm.pockets[k]).load) : keptView (updatePocket k f s) = keptView s := by
  have hp : (fun j => ((updatePocket k f s).pkm.pockets[j]).load) = fun j : PocketNo => (s.pkm.pockets[j]).load := by
    funext j
    rw [updatePocket_get]
    split
    · next e => rw [hf, e]
    · rfl
  change { keptView s with pockets := fun j => ((updatePocket k f s).pkm.pockets[j]).load } = keptView s
  rw [hp]
  rfl

/-- A fold of operations that leave the view as it is leaves it so. -/
theorem foldl_view {α : Type} {f : State → α → State} (hf : ∀ s a, keptView (f s a) = keptView s) (l : List α)
    (s : State) : keptView (l.foldl f s) = keptView s := foldl_keeps f keptView l hf s

@[simp] theorem takeGate_view (l : Letter) (g : GateId) (s : State) : keptView (takeGate l g s) = keptView s := by
  simp only [takeGate, updateLetter_view, setGate_view]

@[simp] theorem releaseGateFuel_view (n : Nat) (g : GateId) (s : State) :
    keptView (releaseGateFuel n g s) = keptView s := by
  induction n generalizing s with
  | zero => rfl
  | succ n ih => simp only [releaseGateFuel]; (repeat' split) <;> simp [ih]

@[simp] theorem releaseGate_view (g : GateId) (s : State) : keptView (releaseGate g s) = keptView s :=
  releaseGateFuel_view _ g s

@[simp] theorem releaseIfDue_view (g : GateId) (s : State) : keptView (releaseIfDue g s) = keptView s := by
  unfold releaseIfDue; (repeat' split) <;> simp

@[simp] theorem reachSetup_view (l : Letter) (g : GateId) (s : State) : keptView (reachSetup l g s) = keptView s := by
  simp only [reachSetup]; split <;> simp

@[simp] theorem reachSetupPoint_view (id : LetterId) (g : GateId) (s : State) :
    keptView (reachSetupPoint id g s) = keptView s := by
  unfold reachSetupPoint; (repeat' split) <;> simp

@[simp] theorem updateOwner_view (f : GateOwner → GateOwner) (g : GateId) (s : State) :
    keptView (updateOwner f g s) = keptView s := rfl

@[simp] theorem setReleasePoints_view (l : Letter) (s : State) : keptView (setReleasePoints l s) = keptView s :=
  foldl_view (by simp) _ _

@[simp] theorem moveReleasePoints_view (id : LetterId) (d : Int) (s : State) :
    keptView (moveReleasePoints id d s) = keptView s := foldl_view (by simp) _ _

@[simp] theorem releaseUnmeasured_view (id : LetterId) (s : State) : keptView (releaseUnmeasured id s) = keptView s :=
  foldl_view (fun s g => by (repeat' split) <;> simp) _ _

@[simp] theorem driveOwnedBank_view (l : Letter) (s : State) : keptView (driveOwnedBank l s) = keptView s := by
  simp only [driveOwnedBank]; (repeat' split) <;> simp

@[simp] theorem writeOutcome_view (id : LetterId) (o : CancelOutcome) (m : Option MissedReason) (s : State) :
    keptView (writeOutcome id o m s) = keptView s := by
  simp only [writeOutcome]; split <;> simp

@[simp] theorem movePrint_view (id : LetterId) (d : Int) (s : State) : keptView (movePrint id d s) = keptView s := by
  unfold movePrint
  rw [updateHead_view rfl, updateHead_view rfl]

@[simp] theorem countSources_view (c : Chan) (srcs : List CounterSource) (s : State) :
    keptView (countSources c srcs s) = keptView s := foldl_view (by simp) _ _

@[simp] theorem closeChannel_view (c : Chan) (x : ScanContext) (s : State) :
    keptView (closeChannel c x s) = keptView s := countSources_view _ _ _

@[simp] theorem darkSample_view (c : Chan) (x : SamplePair) (s : State) : keptView (darkSample c x s) = keptView s := by
  simp only [darkSample]; (repeat' split) <;> simp

@[simp] theorem faultFace_view (f : Face) (cause : FaultCause) (s : State) :
    keptView (faultFace f cause s) = keptView s := rfl

@[simp] theorem updateChans_view (named : List Chan) (f : Channel → Channel) (s : State) :
    keptView (updateChans named f s) = keptView s := foldl_view (by simp) _ _

@[simp] theorem endCalibration_view (k : Calibration) (s : State) : keptView (endCalibration k s) = keptView s := by
  simp [endCalibration]

@[simp] theorem abandonCalibration_view (s : State) : keptView (abandonCalibration s) = keptView s := by
  unfold abandonCalibration; split <;> simp

@[simp] theorem calibrationFlash_view (s : State) : keptView (calibrationFlash s) = keptView s := by
  simp only [calibrationFlash]; (repeat' split) <;> rfl

@[simp] theorem endReference_view (k : Calibration) (s : State) : keptView (endReference k s) = keptView s := by
  simp only [endReference, endCalibration_view]; rfl

@[simp] theorem endPhase_view (s : State) : keptView (endPhase s) = keptView s := by
  have hd : ∀ k, keptView (endDark k s) = keptView s := fun _ => rfl
  unfold endPhase; (repeat' split) <;> simp [hd]

@[simp] theorem calibrationReturn_view (k : Calibration) (f : Face) (upper lower : SamplePair) (s : State) :
    keptView (calibrationReturn k f upper lower s) = keptView s := by
  simp only [calibrationReturn, endPhase_view]; rfl

@[simp] theorem calibrationTimeout_view (k : Calibration) (f : Face) (s : State) :
    keptView (calibrationTimeout k f s) = keptView s := by
  simp only [calibrationTimeout]
  split
  · simp only [endPhase_view]; rfl
  · simp

@[simp] theorem endSettle_view (s : State) : keptView (endSettle s) = keptView s := by
  unfold endSettle; (repeat' split) <;> rfl

@[simp] theorem setLength_view (id : LetterId) (s : State) : keptView (setLength id s) = keptView s :=
  updateLetter_view _ _ s

@[simp] theorem resynchronise_view (l : Letter) (s : State) : keptView (resynchronise l s) = keptView s := by
  simp [resynchronise]

@[simp] theorem startWake_view (s : State) : keptView (startWake s) = keptView s := by
  unfold startWake
  split
  · exact updateLine_view rfl .rfl
  · rfl

@[simp] theorem stopWake_view (s : State) : keptView (stopWake s) = keptView s := updateLine_view rfl .rfl

@[simp] theorem refreshWake_view (s : State) : keptView (refreshWake s) = keptView s := by
  unfold refreshWake; split <;> simp

@[simp] theorem resumeDrain_view (s : State) : keptView (resumeDrain s) = keptView s := by
  unfold resumeDrain
  (repeat' split)
  · exact updateLine_view rfl .rfl
  all_goals rfl

@[simp] theorem countBad_view (s : State) : keptView (countBad s) = keptView s := rfl

@[simp] theorem framingError_view (s : State) : keptView (framingError s) = keptView s := by
  unfold framingError; split <;> rfl

@[simp] theorem interByteTimeout_view (s : State) : keptView (interByteTimeout s) = keptView s := by
  unfold interByteTimeout; split <;> rfl

@[simp] theorem clearEvents_view (m : EventSet) (s : State) : keptView (clearEvents m s) = keptView s := rfl

@[simp] theorem setMask_view (m : EventSet) (s : State) : keptView (setMask m s) = keptView s := rfl

@[simp] theorem adoptClasses_view (changed : PocketNo → Bool) (s : State) :
    keptView (adoptClasses changed s) = keptView s :=
  foldl_view (fun s k => by
    simp only
    split
    · exact updatePocket_view rfl
    · rfl) _ _

@[simp] theorem writePage_view (p : Nat) (image : List Byte) (s : State) :
    keptView (writePage p image s) = keptView s :=
  rfl

@[simp] theorem endWrite_view (a : Answer) (s : State) : keptView (endWrite a s) = keptView s := by
  simp only [endWrite, fillDeferred_view]; rfl

@[simp] theorem storeNotBusy_view (s : State) : keptView (storeNotBusy s) = keptView s := by
  unfold storeNotBusy; split <;> rfl

@[simp] theorem storePageDone_view (s : State) : keptView (storePageDone s) = keptView s := by
  unfold storePageDone; (repeat' split) <;> rfl

@[simp] theorem storeWriteNoResponse_view (s : State) : keptView (storeWriteNoResponse s) = keptView s := by
  unfold storeWriteNoResponse; split <;> simp

@[simp] theorem storeVerifyDone_view (bs : List Byte) (s : State) : keptView (storeVerifyDone bs s) = keptView s := by
  unfold storeVerifyDone; (repeat' split) <;> simp

/-- Setting a hold reason changes that reason alone of the view. -/
theorem setHold_view (h : HoldSet) (s : State) : keptView (setHold h s) =
    { keptView s with listHigh := h.listHigh, catchFull := h.catchFull, headDown := h.headDown } := by
  simp only [setHold]
  split <;> rfl

theorem refreshListHigh_view (s : State) :
    keptView (refreshListHigh s) = { keptView s with listHigh := decide (44 ≤ s.trk.letters.length) } :=
  setHold_view _ _

theorem refreshCatchFull_view (s : State) :
    keptView (refreshCatchFull s) = { keptView s with catchFull := atLimit 0 s || atLimit 9 s } := setHold_view _ _

theorem applyHeadDown_view (s : State) :
    keptView (applyHeadDown s) = { keptView s with headDown := headDownHeld s } := setHold_view _ _

end Sys2Proof.Machine
end

section
/-! The pocket manager's operations keep the tray log's room (R132), leave OUT to the bank pockets (R137) and end with the
test of CATCH_FULL where they change a count of pocket 0 or 9 (R127). -/

namespace Sys2Proof.Machine

/-! ### Reservations -/

theorem filter_update_length (g : PocketState × Nat × Nat → Bool) (p : PocketNo → PocketState × Nat × Nat)
    (k : PocketNo)
    (x : PocketState × Nat × Nat) (l : List PocketNo) (hl : l.Nodup) :
    (l.filter fun j => g (Function.update p k x j)).length + (if k ∈ l ∧ g (p k) then 1 else 0) =
      (l.filter fun j => g (p j)).length + if k ∈ l ∧ g x then 1 else 0 := by
  induction l with
  | nil => simp
  | cons j l ih =>
    obtain ⟨hj, hl⟩ := List.nodup_cons.1 hl
    have ih := ih hl
    by_cases hk : k = j
    · subst hk
      simp only [hj, false_and, if_false] at ih
      simp only [List.filter_cons, Function.update_self, List.mem_cons, true_or, true_and]
      cases hx : g x <;> cases hp : g (p k) <;> simp_all
    · simp only [List.filter_cons, Function.update_of_ne (Ne.symm hk), List.mem_cons, hk, false_or]
      cases hp : g (p j) <;> simp <;> omega

/-- The reservations after a change of one pocket: one fewer where it was DRAINING, one more where it is (R132). -/
theorem reserved_update (p : PocketNo → PocketState × Nat × Nat) (k : PocketNo) (x : PocketState × Nat × Nat) :
    reserved (Function.update p k x) + (if (p k).1 = .draining then 1 else 0) =
      reserved p + if x.1 = .draining then 1 else 0 := by
  have hm : k ∈ allPockets := by revert k; decide
  have := filter_update_length (fun y => y.1 == .draining) p k x allPockets (by decide)
  simpa [hm, reserved] using this

theorem updatePocket_pocketView (k : PocketNo) (f : Pocket → Pocket) (s : State) :
    keptView (updatePocket k f s) =
      { keptView s with pockets := Function.update (keptView s).pockets k (f s.pkm.pockets[k]).load } := by
  have hp : (fun j => ((updatePocket k f s).pkm.pockets[j]).load) =
      Function.update (keptView s).pockets k (f s.pkm.pockets[k]).load := by
    funext j
    rw [updatePocket_get]
    split
    · next e => rw [e, Function.update_self]
    · next e => rw [Function.update_of_ne e]; rfl
  change { keptView s with pockets := fun j => ((updatePocket k f s).pkm.pockets[j]).load } = _
  rw [hp]

theorem appendLog_view (r : TrayRecord) (s : State) :
    keptView (appendLog r s) = { keptView s with log := (keptView s).log + 1 } := by
  change { keptView s with log := (s.pkm.log ++ [r]).length } = _
  rw [List.length_append]
  rfl

theorem slotFree_iff (s : State) :
    slotFree s = true ↔ (keptView s).log + reserved (keptView s).pockets < Config.trayLogCapacity := by
  rw [slotFree, decide_eq_true_eq]
  rfl

/-! ### What the pocket manager moves -/

/-- Only the pockets, their limits, the tray log and CATCH_FULL have changed; the log still has room for what it holds
and reserves, and no pocket but a bank pocket has come into OUT. -/
structure PocketsMove (v w : KeptView) : Prop where
  rest : { w with pockets := v.pockets, limits := v.limits, log := v.log, catchFull := v.catchFull } = v
  room : v.log + reserved v.pockets ≤ Config.trayLogCapacity → w.log + reserved w.pockets ≤ Config.trayLogCapacity
  service : (∀ k : PocketNo, isBank k = false → (v.pockets k).1 ≠ .out) →
    ∀ k : PocketNo, isBank k = false → (w.pockets k).1 ≠ .out

theorem PocketsMove.refl (v : KeptView) : PocketsMove v v := ⟨rfl, id, id⟩

theorem PocketsMove.trans {u v w : KeptView} (h : PocketsMove u v) (h' : PocketsMove v w) : PocketsMove u w := by
  refine ⟨?_, h'.room ∘ h.room, h'.service ∘ h.service⟩
  have h1 := h.rest
  have h2 := h'.rest
  cases u; cases v; cases w
  simp only [KeptView.mk.injEq] at h1 h2 ⊢
  grind

theorem PocketsMove.of_eq {v w : KeptView} (h : w = v) : PocketsMove v w := h ▸ .refl v

/-- With CATCH_FULL in line with its condition once more, both invariants are kept. -/
theorem PocketsMove.keeps {v w : KeptView} (h : PocketsMove v w)
    (hc : v.Holds → w.loading = false → w.catchFull = (w.atLimit 0 || w.atLimit 9)) : Keeps v w := by
  obtain ⟨hrest, hroom, hservice⟩ := h
  have hh : w.headsDown = v.headsDown := by rw [← hrest]; rfl
  have hv : w.loading = v.loading ∧ w.letters = v.letters ∧ w.listHigh = v.listHigh ∧ w.headDown = v.headDown ∧
      w.requests = v.requests ∧ w.replies = v.replies ∧ w.reports = v.reports ∧ w.heads = v.heads ∧
      w.captured = v.captured ∧ w.captureFull = v.captureFull ∧ w.scan = v.scan ∧
      w.resetPending = v.resetPending := by
    rw [← hrest]
    simp
  obtain ⟨hl, hle, hlh, hhd, hrq, hrp, hrt, hhe, hca, hcf, hsc, hrs⟩ := hv
  constructor
  · intro i
    exact ⟨hle ▸ i.letters, hroom i.log, hrq ▸ i.requests, hrp ▸ i.replies, hrt ▸ i.reports, hhe ▸ i.heads,
      hca ▸ hcf ▸ i.capture, hsc ▸ i.runs, hrs ▸ hrq ▸ i.reset⟩
  · intro i
    exact ⟨hlh ▸ hle ▸ i.listHigh, hc i, fun e => by rw [hhd, hh]; exact i.headDown (hl ▸ e), hservice i.service⟩

/-- A change that leaves the catch pockets' counts, their limits and CATCH_FULL as they were keeps both invariants. -/
theorem PocketsMove.keeps_of_catch {v w : KeptView} (h : PocketsMove v w) (hf : w.catchFull = v.catchFull)
    (h0 : w.atLimit 0 = v.atLimit 0) (h9 : w.atLimit 9 = v.atLimit 9) : Keeps v w :=
  h.keeps fun i hl => by
    have : w.loading = v.loading := by rw [← h.rest]
    rw [hf, h0, h9, i.catchFull (this ▸ hl)]

theorem refreshCatchFull_moves (s : State) : PocketsMove (keptView s) (keptView (refreshCatchFull s)) := by
  rw [refreshCatchFull_view]
  exact ⟨rfl, id, id⟩

theorem refreshCatchFull_catch (s : State) : (keptView (refreshCatchFull s)).catchFull =
    ((keptView (refreshCatchFull s)).atLimit 0 || (keptView (refreshCatchFull s)).atLimit 9) := by
  rw [refreshCatchFull_view]
  rfl

/-- The test of CATCH_FULL brings it in line whatever the pockets have done (R127). -/
theorem refreshCatchFull_keeps {v : KeptView} {u : State} (h : PocketsMove v (keptView u)) :
    Keeps v (keptView (refreshCatchFull u)) :=
  (h.trans (refreshCatchFull_moves u)).keeps fun _ _ => refreshCatchFull_catch u

theorem updatePocket_moves {k : PocketNo} {f : Pocket → Pocket} {s : State}
    (hd : (f s.pkm.pockets[k]).state = .draining → (s.pkm.pockets[k]).state = .draining ∨ slotFree s = true)
    (ho : (f s.pkm.pockets[k]).state = .out → (s.pkm.pockets[k]).state = .out ∨ isBank k = true) :
    PocketsMove (keptView s) (keptView (updatePocket k f s)) := by
  rw [updatePocket_pocketView]
  refine ⟨rfl, fun hr => ?_, fun hs j hj => ?_⟩
  · have hu := reserved_update (keptView s).pockets k (f s.pkm.pockets[k]).load
    rw [slotFree_iff] at hd
    simp only at hr ⊢
    change _ + (if (s.pkm.pockets[k]).state = .draining then 1 else 0) =
      _ + (if (f s.pkm.pockets[k]).state = .draining then 1 else 0) at hu
    split at hu <;> split at hu <;> grind
  · by_cases hjk : j = k
    · subst hjk
      simp only [Function.update_self]
      intro e
      rcases ho e with h | h
      · exact hs j hj h
      · rw [hj] at h; cases h
    · simp only [Function.update_of_ne hjk]
      exact hs j hj

/-- A tray's record joins the log and its pocket stops draining: the record takes the pocket's reservation, or a free
slot (R130, R135). -/
theorem recordTray_moves {k : PocketNo} {f : Pocket → Pocket} {s : State} (x : Tally) (r : TrayRecord)
    (hr : (s.pkm.pockets[k]).state = .draining ∨ slotFree s = true) (hd : (f s.pkm.pockets[k]).state ≠ .draining)
    (ho : (f s.pkm.pockets[k]).state = .out → (s.pkm.pockets[k]).state = .out ∨ isBank k = true) :
    PocketsMove (keptView s) (keptView (updatePocket k f (bump x (appendLog r s)))) := by
  have hv : keptView (updatePocket k f (bump x (appendLog r s))) =
      { keptView (updatePocket k f s) with log := (keptView s).log + 1 } := by
    rw [updatePocket_pocketView, updatePocket_pocketView, bump_view, appendLog_view]
    rfl
  have hu := reserved_update (keptView s).pockets k (f s.pkm.pockets[k]).load
  have hm : PocketsMove (keptView s) (keptView (updatePocket k f s)) := updatePocket_moves (fun e => absurd e hd) ho
  rw [hv]
  refine ⟨hm.rest, fun hroom => ?_, hm.service⟩
  rw [slotFree_iff] at hr
  simp only [updatePocket_pocketView]
  change _ + (if (s.pkm.pockets[k]).state = .draining then 1 else 0) =
      _ + (if (f s.pkm.pockets[k]).state = .draining then 1 else 0) at hu
  rw [if_neg hd] at hu
  split at hu <;> grind

/-! ### Closing, draining, filling (R124, R130) -/

theorem closeTray_moved (k : PocketNo) (s : State) (h : (s.pkm.pockets[k]).state = .draining) :
    ∃ u, closeTray k s = refreshCatchFull u ∧ PocketsMove (keptView s) (keptView u) := by
  refine ⟨raise .trayClosed (updatePocket k _ (bump _ (appendLog _ _))), rfl, ?_⟩
  rw [raise_view]
  exact recordTray_moves _ _ (.inl h) (by simp) (by simp)

theorem settleDraining_moves (k : PocketNo) (s : State) : PocketsMove (keptView s) (keptView (settleDraining k s)) := by
  simp only [settleDraining]
  split
  · next h =>
    obtain ⟨u, hu, hm⟩ := closeTray_moved k s h.1
    rw [hu]
    exact hm.trans (refreshCatchFull_moves u)
  · exact .refl _

theorem settleDraining_keeps (k : PocketNo) (s : State) : Keeps (keptView s) (keptView (settleDraining k s)) := by
  simp only [settleDraining]
  split
  · next h =>
    obtain ⟨u, hu, hm⟩ := closeTray_moved k s h.1
    rw [hu]
    exact refreshCatchFull_keeps hm
  · exact .refl _

/-- A change of a pocket's state alone leaves the condition of CATCH_FULL. -/
theorem updatePocket_keeps {k : PocketNo} {f : Pocket → Pocket} {s : State}
    (hc : (f s.pkm.pockets[k]).delivered = (s.pkm.pockets[k]).delivered ∧
      (f s.pkm.pockets[k]).pending = (s.pkm.pockets[k]).pending ∨ isBank k = true)
    (hd : (f s.pkm.pockets[k]).state = .draining → (s.pkm.pockets[k]).state = .draining ∨ slotFree s = true)
    (ho : (f s.pkm.pockets[k]).state = .out → (s.pkm.pockets[k]).state = .out ∨ isBank k = true) :
    Keeps (keptView s) (keptView (updatePocket k f s)) := by
  have hat : ∀ j : PocketNo, isBank j = false → (keptView (updatePocket k f s)).atLimit j = (keptView s).atLimit j := by
    intro j hj
    rw [updatePocket_pocketView]
    by_cases hjk : j = k
    · subst hjk
      rcases hc with ⟨h1, h2⟩ | h
      · simp only [KeptView.atLimit, Function.update_self, Pocket.load, h1, h2]
        rfl
      · rw [hj] at h; cases h
    · simp [KeptView.atLimit, Function.update_of_ne hjk]
  exact (updatePocket_moves hd ho).keeps_of_catch (by rw [updatePocket_pocketView]) (hat 0 rfl) (hat 9 rfl)

theorem beginDraining_moves {k : PocketNo} {s : State} (reason : CloseReason) (h : slotFree s = true) :
    PocketsMove (keptView s) (keptView (beginDraining k reason s)) :=
  (updatePocket_moves (fun _ => .inr h) (by simp)).trans (settleDraining_moves k _)

theorem beginDraining_keeps {k : PocketNo} {s : State} (reason : CloseReason) (h : slotFree s = true) :
    Keeps (keptView s) (keptView (beginDraining k reason s)) :=
  (updatePocket_keeps (.inl ⟨rfl, rfl⟩) (fun _ => .inr h) (by simp)).trans (settleDraining_keeps k _)

theorem becomeFull_moves (k : PocketNo) (s : State) : PocketsMove (keptView s) (keptView (becomeFull k s)) := by
  have hf : PocketsMove (keptView s)
      (keptView (raise .pocketFull (updatePocket k (fun p => { p with state := .full }) s))) := by
    rw [raise_view]
    exact updatePocket_moves (by simp) (by simp)
  simp only [becomeFull]
  split
  · next h => exact hf.trans (beginDraining_moves .full (by simp only [Bool.and_eq_true] at h; exact h.2))
  · exact hf

theorem becomeFull_keeps (k : PocketNo) (s : State) : Keeps (keptView s) (keptView (becomeFull k s)) := by
  have hf : Keeps (keptView s)
      (keptView (raise .pocketFull (updatePocket k (fun p => { p with state := .full }) s))) := by
    rw [raise_view]
    exact updatePocket_keeps (.inl ⟨rfl, rfl⟩) (by simp) (by simp)
  simp only [becomeFull]
  split
  · next h => exact hf.trans (beginDraining_keeps .full (by simp only [Bool.and_eq_true] at h; exact h.2))
  · exact hf

/-! ### Letters given, delivered and lost (R121 to R125) -/

theorem assignPocket_moved (k : PocketNo) (s : State) :
    ∃ u, assignPocket k s = refreshCatchFull u ∧ PocketsMove (keptView s) (keptView u) := by
  refine ⟨_, rfl, updatePocket_moves ?_ ?_⟩
  · simp only
    split <;> simp_all
  · simp only
    split <;> simp_all

theorem assignPocket_keeps (k : PocketNo) (s : State) : Keeps (keptView s) (keptView (assignPocket k s)) := by
  obtain ⟨u, hu, hm⟩ := assignPocket_moved k s
  exact hu ▸ refreshCatchFull_keeps hm

theorem notePocketLetter_load (l : Letter) (p : Pocket) : (notePocketLetter l p).load = p.load := by
  simp only [notePocketLetter]
  (repeat' split) <;> rfl

theorem countDelivery_keeps (l : Letter) (k : PocketNo) (s : State) :
    Keeps (keptView s) (keptView (countDelivery l k s)) := by
  have hs : ∀ p : Pocket, (notePocketLetter l p).state = p.state :=
    fun p => congrArg Prod.fst (notePocketLetter_load l p)
  have hp : PocketsMove (keptView s) (keptView (bump (.delivered k) (updatePocket k (fun p =>
      notePocketLetter l { p with pending := p.pending - 1, delivered := satSucc p.delivered }) s))) := by
    rw [bump_view]
    exact updatePocket_moves (fun e => .inl (by rwa [hs] at e)) (fun e => .inl (by rwa [hs] at e))
  simp only [countDelivery]
  refine refreshCatchFull_keeps (.trans ?_ (settleDraining_moves k _))
  split
  · exact hp.trans (becomeFull_moves k _)
  · exact hp

theorem countLoss_keeps (l : Letter) (t : Tally) (s : State) : Keeps (keptView s) (keptView (countLoss l t s)) := by
  simp only [countLoss]
  split
  · exact refreshCatchFull_keeps ((updatePocket_moves (s := bump t s) .inl .inl).trans (settleDraining_moves _ _))
  · exact .refl _

theorem countRemoval_keeps (l : Letter) (d : Disposition) (s : State) :
    Keeps (keptView s) (keptView (countRemoval l d s)) := by
  unfold countRemoval
  split
  · split
    · exact countDelivery_keeps _ _ _
    · exact .refl _
  all_goals exact countLoss_keeps _ _ _

/-! ### Trays pulled and put in (R134 to R137) -/

theorem pullLetter_moves (k : PocketNo) (l : Letter) (s : State) :
    PocketsMove (keptView s) (keptView (pullLetter k l s)) := by
  unfold pullLetter
  split
  · exact .refl _
  · split
    · exact .refl _
    · split
      · exact .of_eq (updateLetter_view _ _ _)
      · split
        · next d _ _ _ _ =>
          obtain ⟨u, hu, hm⟩ := assignPocket_moved 9 (updatePocket k (fun p => { p with pending := p.pending - 1 })
            (updateLetter l.id (fun x => { x with dest := some { d with pocket := 9 } }) s))
          simp only [hu]
          refine .trans ?_ (hm.trans (refreshCatchFull_moves u))
          rw [← updateLetter_view l.id (fun x => { x with dest := some { d with pocket := 9 } }) s]
          exact updatePocket_moves .inl .inl
        · exact .refl _

theorem foldl_moves {α : Type} {f : State → α → State} (hf : ∀ s a, PocketsMove (keptView s) (keptView (f s a)))
    (l : List α) (s : State) : PocketsMove (keptView s) (keptView (l.foldl f s)) := by
  induction l generalizing s with
  | nil => exact .refl _
  | cons a l ih => exact (hf s a).trans (ih _)

theorem pull_moved (k : PocketNo) (s : State) :
    ∃ u, pull k s = refreshCatchFull u ∧ PocketsMove (keptView s) (keptView u) := by
  refine ⟨_, rfl, .trans ?_ (foldl_moves (fun s l => pullLetter_moves k l s) _ _)⟩
  simp only [raise_view]
  split
  · next h =>
    refine recordTray_moves _ _ h ?_ ?_
    all_goals simp only; split <;> simp_all
  · rw [← bump_view .traysLostLog s]
    refine updatePocket_moves ?_ ?_
    all_goals simp only; split <;> simp_all

theorem pull_keeps (k : PocketNo) (s : State) : Keeps (keptView s) (keptView (pull k s)) := by
  obtain ⟨u, hu, hm⟩ := pull_moved k s
  exact hu ▸ refreshCatchFull_keeps hm

theorem pull_moves (k : PocketNo) (s : State) : PocketsMove (keptView s) (keptView (pull k s)) := by
  obtain ⟨u, hu, hm⟩ := pull_moved k s
  exact hu ▸ hm.trans (refreshCatchFull_moves u)

/-- What a tray's removal can do: note it, pull the tray, or leave a closed pocket without one (R134). -/
theorem takeRemoval_cases {P : State → Prop} (k : PocketNo) (s : State)
    (noted : P (updatePocket k (fun p => { p with tray := false }) s))
    (pulled : P (pull k (updatePocket k (fun p => { p with tray := false }) s)))
    (cleared : P (updatePocket k (fun p => { p with state := .noTray })
      (updatePocket k (fun p => { p with tray := false }) s))) : P (takeRemoval k s) := by
  simp only [takeRemoval]
  split
  · exact pulled
  · exact pulled
  · exact pulled
  · exact cleared
  · exact noted
  · split
    · exact pulled
    · exact noted

theorem takeRemoval_keeps (k : PocketNo) (s : State) : Keeps (keptView s) (keptView (takeRemoval k s)) := by
  have hn : keptView (updatePocket k (fun p => { p with tray := false }) s) = keptView s := updatePocket_view rfl
  refine takeRemoval_cases (P := fun u => Keeps (keptView s) (keptView u)) k s ?_ ?_ ?_
  · rw [hn]; exact .refl _
  · rw [← hn]; exact pull_keeps k _
  · rw [← hn]; exact updatePocket_keeps (.inl ⟨rfl, rfl⟩) (by simp) (by simp)

theorem takeRemoval_moves (k : PocketNo) (s : State) : PocketsMove (keptView s) (keptView (takeRemoval k s)) := by
  have hn : keptView (updatePocket k (fun p => { p with tray := false }) s) = keptView s := updatePocket_view rfl
  refine takeRemoval_cases (P := fun u => PocketsMove (keptView s) (keptView u)) k s ?_ ?_ ?_
  · rw [hn]; exact .refl _
  · rw [← hn]; exact pull_moves k _
  · rw [← hn]; exact updatePocket_moves (by simp) (by simp)

/-- What a tray's insertion can do: note it, open the pocket, or give a pocket in OUT a fresh tray (R134). -/
theorem takeInsertion_cases {P : State → Prop} (k : PocketNo) (s : State)
    (noted : P (updatePocket k (fun p => { p with tray := true }) s))
    (opened : P (refreshCatchFull (updatePocket k (fun p => { p.emptied with
      state := .open, trayClass := s.prl.profile.mappedClass k })
      (updatePocket k (fun p => { p with tray := true }) s))))
    (renewed : (s.pkm.pockets[k]).state = .out →
      P (updatePocket k (fun p => { p.emptied with trayClass := s.prl.profile.mappedClass k })
        (updatePocket k (fun p => { p with tray := true }) s))) : P (takeInsertion k s) := by
  simp only [takeInsertion]
  split
  · exact noted
  · exact noted
  · exact noted
  · exact noted
  · exact opened
  · next h =>
    split
    · exact noted
    · exact renewed h

theorem takeInsertion_moves (k : PocketNo) (s : State) : PocketsMove (keptView s) (keptView (takeInsertion k s)) := by
  have hn : keptView (updatePocket k (fun p => { p with tray := true }) s) = keptView s := updatePocket_view rfl
  refine takeInsertion_cases (P := fun u => PocketsMove (keptView s) (keptView u)) k s ?_ ?_ fun _ => ?_
  · rw [hn]; exact .refl _
  · rw [← hn]; exact (updatePocket_moves (by simp) (by simp)).trans (refreshCatchFull_moves _)
  · rw [← hn]; exact updatePocket_moves .inl .inl

/-- OUT is a state of the bank pockets alone (R137), so that a fresh tray there leaves the catch pockets' counts. -/
theorem takeInsertion_keeps (k : PocketNo) (s : State) : Keeps (keptView s) (keptView (takeInsertion k s)) := by
  have hn : keptView (updatePocket k (fun p => { p with tray := true }) s) = keptView s := updatePocket_view rfl
  refine takeInsertion_cases (P := fun u => Keeps (keptView s) (keptView u)) k s ?_ ?_ fun ho => ?_
  · rw [hn]; exact .refl _
  · rw [← hn]; exact refreshCatchFull_keeps (updatePocket_moves (by simp) (by simp))
  · rw [← hn]
    by_cases hb : isBank k = true
    · exact updatePocket_keeps (.inr hb) .inl .inl
    · refine (updatePocket_moves .inl .inl).keeps fun i _ => ?_
      rw [hn] at i
      exact absurd ho (i.service k (by simpa using hb))

/-! ### Limits and requests (R128, R137, R138, R140) -/

theorem applyLimit_moved (k : PocketNo) (s : State) :
    ∃ u, applyLimit k s = refreshCatchFull u ∧ PocketsMove (keptView s) (keptView u) := by
  refine ⟨_, rfl, ?_⟩
  split
  · exact .refl _
  · split
    · exact becomeFull_moves k s
    · split
      · exact updatePocket_moves (by simp) (by simp)
      · exact .refl _

theorem applyLimit_moves (k : PocketNo) (s : State) : PocketsMove (keptView s) (keptView (applyLimit k s)) := by
  obtain ⟨u, hu, hm⟩ := applyLimit_moved k s
  exact hu ▸ hm.trans (refreshCatchFull_moves u)

theorem raiseLimit_moves (k : PocketNo) (s : State) : PocketsMove (keptView s) (keptView (raiseLimit k s)) := by
  simp only [raiseLimit]
  split
  · exact ⟨rfl, id, id⟩
  · exact .refl _

theorem bringIn_keeps (k : PocketNo) (s : State) : Keeps (keptView s) (keptView (bringIn k s)) := by
  simp only [bringIn]
  split
  · exact .refl _
  · split
    · exact updatePocket_keeps (.inl ⟨rfl, rfl⟩) (by simp) (by simp)
    · split
      · exact becomeFull_keeps k s
      · exact updatePocket_keeps (.inl ⟨rfl, rfl⟩) (by simp) (by simp)

theorem sweepRefusal_slotFree {k : PocketNo} {s : State} (h : sweepRefusal k s = none) : slotFree s = true := by
  have hlog : ∀ allowed : Bool, (if !allowed then some ErrorCode.wrongState
      else if !slotFree s then some .logFull else none) = none → slotFree s = true := by
    intro allowed
    cases allowed <;> cases slotFree s <;> simp
  exact hlog _ h

theorem pressSweep_keeps (k : PocketNo) (s : State) : Keeps (keptView s) (keptView (pressSweep k s)) := by
  simp only [pressSweep]
  split
  · split
    · next h => exact beginDraining_keeps (s := setDebounce k false s) .sweepButton (sweepRefusal_slotFree h)
    · exact .refl _
  · exact .refl _

theorem matchSensor_moves (s : State) (k : PocketNo) : PocketsMove (keptView s) (keptView (matchSensor s k)) := by
  unfold matchSensor
  split
  · exact takeInsertion_moves k s
  · exact takeRemoval_moves k s

end Sys2Proof.Machine
end

section
/-! The cancel unit, the link interface, the capture buffer and the run formers keep their capacities; HEAD_DOWN is tested
where a head goes down or comes back (R114). -/

namespace Sys2Proof.Machine

/-! ### Heads (R100, R101, R114) -/

theorem updateHead_headView (h : Head) (f : HeadUnit → HeadUnit) (s : State) :
    keptView (updateHead h f s) =
      { keptView s with heads := Function.update (keptView s).heads h (f (s.cnu.heads.get h)).load } := by
  have hg : (fun g => ((updateHead h f s).cnu.heads.get g).load) =
      Function.update (keptView s).heads h (f (s.cnu.heads.get h)).load := by
    funext g
    rw [updateHead_get]
    split
    · next e => rw [e, Function.update_self]
    · next e => rw [Function.update_of_ne e]; rfl
  change { keptView s with heads := fun g => ((updateHead h f s).cnu.heads.get g).load } = _
  rw [hg]

/-- Only the heads and HEAD_DOWN have changed, and no queue has come to hold more than it has room for. -/
structure HeadsMove (v w : KeptView) : Prop where
  rest : { w with heads := v.heads, headDown := v.headDown } = v
  queues : (∀ h, (v.heads h).1 ≤ Config.headQueueCapacity) → ∀ h, (w.heads h).1 ≤ Config.headQueueCapacity

theorem HeadsMove.refl (v : KeptView) : HeadsMove v v := ⟨rfl, id⟩

theorem HeadsMove.trans {u v w : KeptView} (h : HeadsMove u v) (h' : HeadsMove v w) : HeadsMove u w := by
  refine ⟨?_, h'.queues ∘ h.queues⟩
  have h1 := h.rest
  have h2 := h'.rest
  cases u; cases v; cases w
  simp only [KeptView.mk.injEq] at h1 h2 ⊢
  grind

theorem HeadsMove.of_eq {v w : KeptView} (h : w = v) : HeadsMove v w := h ▸ .refl v

theorem HeadsMove.keeps {v w : KeptView} (h : HeadsMove v w)
    (hd : v.Holds → w.loading = false → w.headDown = w.headsDown) : Keeps v w := by
  obtain ⟨hrest, hq⟩ := h
  have hv : w.loading = v.loading ∧ w.letters = v.letters ∧ w.listHigh = v.listHigh ∧ w.catchFull = v.catchFull ∧
      w.requests = v.requests ∧ w.replies = v.replies ∧ w.reports = v.reports ∧ w.pockets = v.pockets ∧
      w.log = v.log ∧ w.limits = v.limits ∧ w.captured = v.captured ∧ w.captureFull = v.captureFull ∧
      w.scan = v.scan ∧ w.resetPending = v.resetPending := by
    rw [← hrest]
    simp
  obtain ⟨hl, hle, hlh, hcf, hrq, hrp, hrt, hpo, hlo, hli, hca, hcfu, hsc, hrs⟩ := hv
  constructor
  · intro i
    exact ⟨hle ▸ i.letters, hlo ▸ hpo ▸ i.log, hrq ▸ i.requests, hrp ▸ i.replies, hrt ▸ i.reports, hq i.heads,
      hca ▸ hcfu ▸ i.capture, hsc ▸ i.runs, hrs ▸ hrq ▸ i.reset⟩
  · intro i
    refine ⟨hlh ▸ hle ▸ i.listHigh, fun e => ?_, hd i, hpo ▸ i.service⟩
    simp only [KeptView.atLimit, hli, hpo, hcf]
    exact i.catchFull (hl ▸ e)

theorem applyHeadDown_moves (s : State) : HeadsMove (keptView s) (keptView (applyHeadDown s)) := by
  rw [applyHeadDown_view]
  exact ⟨rfl, id⟩

theorem applyHeadDown_headDown (s : State) :
    (keptView (applyHeadDown s)).headDown = (keptView (applyHeadDown s)).headsDown := by
  rw [applyHeadDown_view]
  rfl

/-- The test of HEAD_DOWN brings it in line whatever the heads have done; in LOADING it waits (R114, R153). -/
theorem refreshHeadDown_keeps {v : KeptView} {u : State} (h : HeadsMove v (keptView u)) :
    Keeps v (keptView (refreshHeadDown u)) := by
  unfold refreshHeadDown
  split
  · next hl =>
    refine h.keeps fun _ hn => ?_
    exact absurd hl (of_decide_eq_false hn)
  · exact (h.trans (applyHeadDown_moves u)).keeps fun _ _ => applyHeadDown_headDown u

theorem updateHead_moves {h : Head} {f : HeadUnit → HeadUnit} {s : State}
    (hq : (s.cnu.heads.get h).queue.length ≤ Config.headQueueCapacity →
      (f (s.cnu.heads.get h)).queue.length ≤ Config.headQueueCapacity) :
    HeadsMove (keptView s) (keptView (updateHead h f s)) := by
  rw [updateHead_headView]
  refine ⟨rfl, fun hv g => ?_⟩
  by_cases hg : g = h
  · subst hg
    simp only [Function.update_self]
    exact hq (hv g)
  · simp only [Function.update_of_ne hg]
    exact hv g

/-- A change of a head that is neither brought down nor back leaves the condition of HEAD_DOWN. -/
theorem updateHead_keeps {h : Head} {f : HeadUnit → HeadUnit} {s : State}
    (hd : (f (s.cnu.heads.get h)).down = (s.cnu.heads.get h).down)
    (hq : (s.cnu.heads.get h).queue.length ≤ Config.headQueueCapacity →
      (f (s.cnu.heads.get h)).queue.length ≤ Config.headQueueCapacity) :
    Keeps (keptView s) (keptView (updateHead h f s)) := by
  refine (updateHead_moves hq).keeps fun i hl => ?_
  have hs : ∀ g, ((keptView (updateHead h f s)).heads g).2 = ((keptView s).heads g).2 := by
    intro g
    rw [updateHead_headView]
    by_cases hg : g = h
    · subst hg
      simp only [Function.update_self]
      exact hd
    · simp only [Function.update_of_ne hg]
  rw [KeptView.headsDown, hs, hs]
  exact i.headDown hl

theorem updateHead_keeps_from {v : KeptView} {h : Head} {f : HeadUnit → HeadUnit} {s : State} (hv : keptView s = v)
    (hd : (f (s.cnu.heads.get h)).down = (s.cnu.heads.get h).down)
    (hq : (s.cnu.heads.get h).queue.length ≤ Config.headQueueCapacity →
      (f (s.cnu.heads.get h)).queue.length ≤ Config.headQueueCapacity) :
    Keeps v (keptView (updateHead h f s)) := hv ▸ updateHead_keeps hd hq

/-- The print of letter `l` placed on its head (R97, R98). -/
def placedPrint (l : Letter) (o : Orientation) (run : ChosenRun) (s : State) : PrintPart :=
  let span := printSpan s.prl.profile o.cls (l.length.getD 0).toNat run.start run.length
  ⟨o.head, span.1, span.2, impressionNow s⟩

/-- What becomes of a placed print on the head of its orientation, in the order of R101. -/
def placedOutcome (l : Letter) (o : Orientation) (run : ChosenRun) (s : State) : CancelOutcome × Option MissedReason :=
  scheduleOutcome (s.cnu.heads.get o.head) (fireStartAt s.prl.profile l (placedPrint l o run s)) s

/-- The letter's cancel part with its placed print. -/
def withPrint (l : Letter) (o : Orientation) (run : ChosenRun) (c : CancelOutcome) (m : Option MissedReason)
    (s : State) : State :=
  updateLetter l.id (fun x => { x with cancel := some ⟨c, m, some (placedPrint l o run s), none⟩ }) s

/-- What a STAMP letter's hand-over to the cancel unit can do (R101, R120). -/
theorem schedulePrint_cases {P : State → Prop} (l : Letter) (o : Orientation) (run : ChosenRun) (s : State)
    (scheduled : placedOutcome l o run s = (.scheduled, none) →
      P (updateHead o.head (fun u => { u with queue := u.queue ++ [l.id] }) (withPrint l o run .scheduled none s)))
    (headDown : placedOutcome l o run s = (.headDown, none) →
      P (bump .headDown (withPrint l o run .headDown none s)))
    (missed : ∀ m, placedOutcome l o run s = (.missed, some m) →
      P (bump .missed (withPrint l o run .missed (some m) s))) : P (schedulePrint l o run s) := by
  have he : ∀ r, r = placedOutcome l o run s →
      P (let s := withPrint l o run r.1 r.2 s
         let s := match r.1.tally with
           | some t => bump t s
           | none => s
         if r.1 = .scheduled then updateHead o.head (fun u => { u with queue := u.queue ++ [l.id] }) s else s) := by
    intro r hr
    have hr' := hr
    simp only [placedOutcome, scheduleOutcome] at hr
    split at hr
    · subst hr; exact headDown hr'.symm
    · split at hr
      · subst hr; exact missed _ hr'.symm
      · split at hr
        · subst hr; exact scheduled hr'.symm
        · subst hr; exact missed _ hr'.symm
  exact he _ rfl

/-- A print is scheduled on a head only while its queue has room (R101). -/
theorem placedOutcome_room {l : Letter} {o : Orientation} {run : ChosenRun} {s : State} {m : Option MissedReason}
    (h : placedOutcome l o run s = (.scheduled, m)) :
    (s.cnu.heads.get o.head).queue.length < Config.headQueueCapacity := by
  unfold placedOutcome scheduleOutcome at h
  split at h
  · cases h
  · split at h
    · cases h
    · next hq => omega

@[simp] theorem withPrint_view (l : Letter) (o : Orientation) (run : ChosenRun) (c : CancelOutcome)
    (m : Option MissedReason) (s : State) : keptView (withPrint l o run c m s) = keptView s := updateLetter_view _ _ s

theorem schedulePrint_keeps (l : Letter) (o : Orientation) (run : ChosenRun) (s : State) :
    Keeps (keptView s) (keptView (schedulePrint l o run s)) := by
  refine schedulePrint_cases (P := fun u => Keeps (keptView s) (keptView u)) l o run s
    (fun h => ?_) (fun _ => ?_) (fun _ _ => ?_)
  · rw [← withPrint_view l o run .scheduled none s]
    refine updateHead_keeps rfl fun _ => ?_
    have hroom := placedOutcome_room h
    simp only [List.length_append, List.length_singleton]
    exact hroom
  · rw [bump_view, withPrint_view]; exact .refl _
  · rw [bump_view, withPrint_view]; exact .refl _

theorem emptyQueue_view (h : Head) (s : State) :
    keptView (emptyQueue h s) = keptView (updateHead h (fun u => { u with queue := [] }) s) :=
  foldl_view (fun s id => writeOutcome_view id .headDown none s) _ _

theorem emptyQueue_moves (h : Head) (s : State) : HeadsMove (keptView s) (keptView (emptyQueue h s)) := by
  rw [emptyQueue_view]
  exact updateHead_moves (by simp)

/-- Outside FAULT and OFF a head is down by a pending OFF request alone (R100). -/
theorem HeadUnit.down_of {u : HeadUnit} (hf : u.state ≠ .fault) (ho : u.state ≠ .off) : u.down = u.offPending := by
  simp [HeadUnit.down, beq_eq_false_iff_ne.2 hf, beq_eq_false_iff_ne.2 ho]

/-- A READY head that starts a print is neither down nor back by that (R102). -/
theorem startPrint_keeps {h : Head} (l : Letter) (x : PrintPart) {s : State}
    (hr : (s.cnu.heads.get h).state = .ready) : Keeps (keptView s) (keptView (startPrint h l x s)) := by
  have hc : ∀ b : Bool, (if b then raise .seqWrap s else s).cnu = s.cnu := by
    intro b
    cases b <;> rfl
  have hv : ∀ b : Bool, keptView (if b then raise .seqWrap s else s) = keptView s := by
    intro b
    cases b <;> rfl
  simp only [startPrint]
  refine updateHead_keeps_from ?_ ?_ ?_
  · rw [updateLetter_view]
    exact hv _
  · simp only [updateLetter_frame, hc]
    rw [HeadUnit.down_of (by simp) (by simp), HeadUnit.down_of (by simp [hr]) (by simp [hr])]
  · simp only [updateLetter_frame, hc]
    exact id

theorem takeFireStart_keeps (h : Head) (l : Letter) (x : PrintPart) (s : State) :
    Keeps (keptView s) (keptView (takeFireStart h l x s)) := by
  have hq : Keeps (keptView s) (keptView (updateHead h (fun u => { u with queue := u.queue.tail }) s)) := by
    refine updateHead_keeps rfl fun hl => ?_
    simp only [List.length_tail]
    omega
  simp only [takeFireStart]
  split
  · next hr => exact hq.trans (startPrint_keeps l x hr)
  · rw [writeOutcome_view]; exact hq
  · rw [writeOutcome_view]; exact hq
  · exact hq
  · exact hq

theorem reachFireStart_keeps (h : Head) (s : State) : Keeps (keptView s) (keptView (reachFireStart h s)) := by
  unfold reachFireStart
  split
  · split
    · exact takeFireStart_keeps _ _ _ _
    · exact .refl _
  · exact .refl _

theorem reachFireEnd_keeps (h : Head) (s : State) : Keeps (keptView s) (keptView (reachFireEnd h s)) := by
  have hw : ∀ p : Option LetterId, keptView (match p with | some id => writeOutcome id .printed none s | none => s) =
      keptView s ∧ (match p with | some id => writeOutcome id .printed none s | none => s).cnu = s.cnu := by
    intro p
    cases p
    · exact ⟨rfl, rfl⟩
    · exact ⟨writeOutcome_view _ _ _ _, by simp⟩
  simp only [reachFireEnd]
  split
  · next hp =>
    simp only [endPrint]
    obtain ⟨hv, hc⟩ := hw (s.cnu.heads.get h).printing
    rw [← hv]
    refine updateHead_keeps ?_ ?_
    · rw [hc, HeadUnit.down_of (by simp) (by simp), HeadUnit.down_of (by simp [hp.1]) (by simp [hp.1])]
      rfl
    · rw [hc]; exact id
  · exact .refl _

theorem faultHead_keeps (h : Head) (s : State) : Keeps (keptView s) (keptView (faultHead h s)) := by
  have hw : ∀ p : Option LetterId, keptView (match p with | some id => writeOutcome id .faulted none s | none => s) =
      keptView s := by
    intro p
    cases p
    · rfl
    · exact writeOutcome_view _ _ _ _
  simp only [faultHead]
  split
  · exact .refl _
  · refine refreshHeadDown_keeps ?_
    rw [raise_view]
    refine .trans ?_ ((updateHead_moves (by simp)).trans (emptyQueue_moves h _))
    split
    · rw [← hw]
      exact updateHead_moves id
    · exact .refl _

theorem reachRecoveryEnd_keeps (h : Head) (s : State) : Keeps (keptView s) (keptView (reachRecoveryEnd h s)) := by
  have hr : keptView (updateHead h HeadUnit.recovered s) = keptView s := updateHead_view rfl
  simp only [reachRecoveryEnd]
  split
  · split
    · next hs =>
      split
      · rw [← hr]
        exact refreshHeadDown_keeps ((updateHead_moves id).trans (emptyQueue_moves h _))
      · rw [← hr]
        refine updateHead_keeps ?_ id
        rw [HeadUnit.down_of (by simp) (by simp), HeadUnit.down_of] <;> simp [HeadUnit.recovered, hs]
    · rw [hr]; exact .refl _
  · exact .refl _

theorem abort_load (belt : Pos) (n : Nat) (u : HeadUnit) :
    (u.abort belt n).down = u.down ∧ (u.abort belt n).queue = [] := by
  unfold HeadUnit.abort
  split
  · next h =>
    refine ⟨?_, rfl⟩
    rw [HeadUnit.down_of (by simp) (by simp), HeadUnit.down_of (by simp [h]) (by simp [h])]
    rfl
  · exact ⟨rfl, rfl⟩

theorem abortPrints_keeps (s : State) : Keeps (keptView s) (keptView (abortPrints s)) := by
  have hb : ∀ (h : Head) (u : State),
      Keeps (keptView u) (keptView (updateHead h (HeadUnit.abort s.trk.belt s.prl.profile.h) u)) := by
    intro h u
    obtain ⟨hd, hq⟩ := abort_load s.trk.belt s.prl.profile.h (u.cnu.heads.get h)
    exact updateHead_keeps hd (by simp [hq])
  exact (hb .lower s).trans (hb .upper _)

theorem settle_queue (u : HeadUnit) : u.settle.queue = u.queue := by
  simp only [HeadUnit.settle]
  (repeat' split) <;> rfl

theorem settleHeads_keeps (s : State) : Keeps (keptView s) (keptView (settleHeads s)) := by
  have hb : ∀ (h : Head) (u : State), HeadsMove (keptView u) (keptView (updateHead h HeadUnit.settle u)) :=
    fun h u => updateHead_moves (by rw [settle_queue]; exact id)
  exact refreshHeadDown_keeps ((hb .lower s).trans (hb .upper _))

/-! ### The link interface (R172, R177, R178, R180) -/

/-- A change of the report queue alone, within its room. -/
theorem keeps_of_reports {s t : State} (h : keptView t = { keptView s with reports := t.lki.reports.length })
    (hr : s.lki.reports.length ≤ Config.reportCapacity → t.lki.reports.length ≤ Config.reportCapacity) :
    Keeps (keptView s) (keptView t) := by
  rw [h]
  constructor
  · rintro ⟨h1, h2, h3, h4, h5, h6, h7, h8, h9⟩
    exact ⟨h1, h2, h3, h4, hr h5, h6, h7, h8, h9⟩
  · rintro ⟨h1, h2, h3, h4⟩
    exact ⟨h1, h2, h3, h4⟩

/-- A change of the reply queue alone, within its room. -/
theorem keeps_of_replies {s t : State} (h : keptView t = { keptView s with replies := t.lki.replies.length })
    (hr : s.lki.replies.length ≤ Config.replyCapacity → t.lki.replies.length ≤ Config.replyCapacity) :
    Keeps (keptView s) (keptView t) := by
  rw [h]
  constructor
  · rintro ⟨h1, h2, h3, h4, h5, h6, h7, h8, h9⟩
    exact ⟨h1, h2, h3, hr h4, h5, h6, h7, h8, h9⟩
  · rintro ⟨h1, h2, h3, h4⟩
    exact ⟨h1, h2, h3, h4⟩

theorem queueReport_keeps (r : LetterReport) (s : State) : Keeps (keptView s) (keptView (queueReport r s)) := by
  unfold queueReport
  split
  · next h =>
    refine keeps_of_reports rfl fun _ => ?_
    simp only [List.length_append, List.length_singleton]
    omega
  · exact .refl _

theorem reportRemoval_keeps (l : Letter) (d : Disposition) (s : State) :
    Keeps (keptView s) (keptView (reportRemoval l d s)) := by
  unfold reportRemoval
  split
  · exact queueReport_keeps _ _
  · exact .refl _

theorem pushAnswer_replies (kind tag : Byte) (a : Answer) (s : State) :
    (pushAnswer kind tag a s).lki.replies.length = s.lki.replies.length + 1 := by
  simp [pushAnswer]

/-- An answer joins a reply queue that has room for it. -/
theorem pushAnswer_keeps {kind tag : Byte} (a : Answer) {s : State} (h : s.lki.replies.length < Config.replyCapacity) :
    Keeps (keptView s) (keptView (pushAnswer kind tag a s)) := by
  refine keeps_of_replies rfl fun _ => ?_
  rw [pushAnswer_replies]
  exact h

theorem refuseBusy_keeps (f : Frame) (s : State) : Keeps (keptView s) (keptView (refuseBusy f s)) := by
  simp only [refuseBusy]
  split
  · next h => exact pushAnswer_keeps (s := updateLink (fun k => { k with busy := satSucc k.busy }) s) _ h
  · exact .refl _

theorem goodFrame_keeps (f : Frame) (s : State) : Keeps (keptView s) (keptView (goodFrame f s)) := by
  unfold goodFrame
  split
  · exact .refl _
  · next hp =>
    split
    · next hl =>
      have hq : Keeps (keptView s) (keptView (updateLink (fun k =>
          { k with requests := k.requests ++ [⟨f.kind, f.tag, f.payload⟩] }) s)) := by
        constructor
        · rintro ⟨h1, h2, h3, h4, h5, h6, h7, h8, h9⟩
          refine ⟨h1, h2, ?_, h4, h5, h6, h7, h8, fun hr => absurd hr hp⟩
          change (s.lki.requests ++ [_]).length ≤ _
          simp only [List.length_append, List.length_singleton]
          exact hl
        · rintro ⟨h1, h2, h3, h4⟩
          exact ⟨h1, h2, h3, h4⟩
      simp only
      split
      · rw [abandonCalibration_view]; exact hq
      · exact hq
    · exact refuseBusy_keeps f s

theorem receiveByte_keeps (s : State) (x : Byte) : Keeps (keptView s) (keptView (receiveByte s x)) := by
  simp only [receiveByte]
  split
  · exact .refl _
  · exact .refl _
  · exact goodFrame_keeps _ (updateLink (fun k => { k with rx := (s.lki.rx.take x).1 }) s)

theorem receiveChar_keeps (s : State) (x : Option Byte) : Keeps (keptView s) (keptView (receiveChar s x)) := by
  cases x
  · change Keeps _ (keptView (framingError s))
    rw [framingError_view]
    exact .refl _
  · exact receiveByte_keeps s _

/-- A fold of operations that keep the invariants keeps them. -/
theorem foldl_keepsView {α : Type} {f : State → α → State} (hf : ∀ s a, Keeps (keptView s) (keptView (f s a)))
    (l : List α) (s : State) : Keeps (keptView s) (keptView (l.foldl f s)) := by
  induction l generalizing s with
  | nil => exact .refl _
  | cons a l ih => exact (hf s a).trans (ih _)

theorem receive_keeps (cs : List (Option Byte)) (s : State) : Keeps (keptView s) (keptView (receive cs s)) :=
  foldl_keepsView receiveChar_keeps cs s

theorem receiveOver_keeps (overlap : Nat) (cs : List (Option Byte)) (s : State) :
    Keeps (keptView s) (keptView (receiveOver overlap cs s)) := by
  have hs : Keeps (keptView s) (keptView (receiveSending (cs.take overlap) s)) := by
    unfold receiveSending
    split
    · exact .refl _
    · exact receive_keeps _ _
  simp only [receiveOver]
  split
  · split
    · refine hs.trans (.trans ?_ (receive_keeps _ _))
      rw [endSending_view]
      exact .refl _
    · exact hs
  · exact receive_keeps _ _

theorem takeComposed_length {ps qs : List ReplyPlace} {f : Frame} (h : takeComposed ps = some (f, qs)) :
    qs.length < ps.length := by
  induction ps generalizing f qs with
  | nil => cases h
  | cons p ps ih =>
    cases p with
    | composed g => cases h; simp
    | reserved k t =>
      simp only [takeComposed, Option.map_eq_some_iff, Prod.mk.injEq] at h
      obtain ⟨⟨g, rs⟩, hx, -, rfl⟩ := h
      simp only [List.length_cons]
      have := ih hx
      omega

theorem sendReply_keeps (s : State) : Keeps (keptView s) (keptView (sendReply s)) := by
  unfold sendReply
  split
  · next f ps h =>
    split
    · rw [transmit_view]
      refine keeps_of_replies rfl fun hr => ?_
      have := takeComposed_length h
      change ps.length ≤ _
      omega
    · exact .refl _
  · exact .refl _

theorem sendNotice_view (s : State) : keptView (sendNotice s) = keptView s := by
  simp only [sendNotice]
  split
  · split
    · rfl
    · rw [transmit_view]; rfl
  · rfl

theorem sendReport_keeps (s : State) : Keeps (keptView s) (keptView (sendReport s)) := by
  unfold sendReport
  split
  · exact .refl _
  · next r rest h =>
    split
    · rw [transmit_view]
      refine keeps_of_reports rfl fun hr => ?_
      rw [h] at hr
      change rest.length ≤ _
      simp only [List.length_cons] at hr
      omega
    · exact .refl _

theorem takeReports_length (room : Nat) (rs : List LetterReport) : (takeReports room rs).2.length ≤ rs.length := by
  induction rs generalizing room with
  | nil => simp [takeReports]
  | cons r rs ih =>
    simp only [takeReports]
    split
    · exact (ih _).trans (by simp)
    · simp

/-! ### The capture buffer (R45 to R48) -/

/-- A capture buffer within its room, FULL at its last entry. -/
def CaptureFits (b : Capture) : Prop :=
  b.entries.length ≤ Config.captureCapacity ∧ (b.state ≠ .full → b.entries.length < Config.captureCapacity)

/-- A change of the capture buffer and the contexts alone, within their room. -/
theorem keeps_of_sampling {s t : State}
    (h : keptView t = { keptView s with
      captured := (keptView t).captured, captureFull := (keptView t).captureFull, scan := t.scan })
    (hc : CaptureFits s.lch.capture → CaptureFits t.lch.capture) (hr : RunsFit s.scan → RunsFit t.scan) :
    Keeps (keptView s) (keptView t) := by
  constructor
  · rintro ⟨h1, h2, h3, h4, h5, h6, h7, h8, h9⟩
    have hf : CaptureFits t.lch.capture := hc ⟨h7.1, fun e => h7.2 (decide_eq_false e)⟩
    rw [h]
    exact ⟨h1, h2, h3, h4, h5, h6, ⟨hf.1, fun e => hf.2 (of_decide_eq_false e)⟩, hr h8, h9⟩
  · rintro ⟨h1, h2, h3, h4⟩
    rw [h]
    exact ⟨h1, h2, h3, h4⟩

theorem CaptureFits.cleared : CaptureFits Capture.cleared := ⟨by decide, fun _ => by decide⟩

theorem CaptureFits.append {b : Capture} (h : CaptureFits b) (hs : b.state ≠ .full) (e : CaptureEntry) :
    CaptureFits (b.append e) := by
  have hl := h.2 hs
  have he : (b.append e).entries.length = b.entries.length + 1 := by simp [Capture.append]
  refine ⟨by omega, fun hn => ?_⟩
  by_contra hge
  refine hn ?_
  rw [he] at hge
  simp only [Capture.append, List.length_append, List.length_singleton]
  rw [if_pos (by omega)]

theorem CaptureFits.take {b : Capture} (h : CaptureFits b) (c : Chan) (letter : Option LetterId) (e : CaptureEntry) :
    CaptureFits (b.take c letter e) := by
  unfold Capture.take
  split
  · exact h
  · split
    · exact h
    · split
      · next hs _ => exact h.append (by simp [hs]) e
      · next hs _ => exact h.append (by simp [hs]) e
      · next hs _ =>
        split
        · split
          · exact h
          · exact CaptureFits.append (b := { b with letter := _ }) h (by simp [hs]) e
        · exact h
      · next hs _ =>
        split
        · exact h.append (by simp [hs]) e
        · exact h
      · exact h
      · exact h

theorem CaptureFits.finish {b : Capture} (h : CaptureFits b) (id : LetterId) : CaptureFits (b.finish id) := by
  unfold Capture.finish
  split
  · split
    · exact ⟨h.1, fun hn => absurd rfl hn⟩
    · exact h
  · exact h

theorem CaptureFits.leave {b : Capture} (h : CaptureFits b) : CaptureFits b.leave := by
  unfold Capture.leave
  split
  · exact .cleared
  · exact .cleared
  · exact h
  · exact h

theorem captureSample_keeps (c : Chan) (letter : Option LetterId) (e : CaptureEntry) (s : State) :
    Keeps (keptView s) (keptView (captureSample c letter e s)) :=
  keeps_of_sampling rfl (fun h => h.take c letter e) id

theorem stopSampling_keeps (s : State) : Keeps (keptView s) (keptView (stopSampling s)) :=
  keeps_of_sampling rfl (fun h => h.leave) fun _ _ h => by cases h

/-! ### The run formers (R57, R67) -/

/-- A channel's context within its room. -/
def ContextFits (k : RunContext) : Prop := k.runs.length ≤ Config.runListCapacity

theorem ContextFits.closeRun {k : RunContext} (h : ContextFits k) (p : Profile) :
    ContextFits (Machine.closeRun p k).1 := by
  unfold Machine.closeRun
  split
  · exact h
  · simp only
    split
    · exact h
    · split
      · split <;> exact h
      · split
        · next hl =>
          simp only [ContextFits, List.length_append, List.length_singleton]
          exact hl
        · exact h

theorem ContextFits.missStep {k : RunContext} (h : ContextFits k) (p : Profile) :
    ContextFits (Machine.missStep p k).1 := by
  unfold Machine.missStep
  split
  · exact h
  · simp only
    split
    · exact ContextFits.closeRun (k := { k with miss := k.miss + 1 }) h p
    · exact h

theorem ContextFits.sampleNoRun {k : RunContext} (h : ContextFits k) (p : Profile) (offset : Nat) (sat : Bool)
    (x : Scaled) : ContextFits (Machine.sampleNoRun p offset sat x k).1 := by
  unfold Machine.sampleNoRun
  (repeat' split) <;> exact h

theorem ContextFits.sampleStep {k : RunContext} (h : ContextFits k) (p : Profile) (offset : Nat) (sat : Bool)
    (x : Scaled) : ContextFits (Machine.sampleStep p offset sat x k).1 := by
  unfold Machine.sampleStep
  split
  · exact h.sampleNoRun p offset sat x
  · split
    · exact h
    · simp only
      split
      · exact (h.missStep p).sampleNoRun p offset sat x
      · exact h.missStep p

theorem ContextFits.runStep {k : RunContext} (h : ContextFits k) (p : Profile) (ch : Channel) (gain offset : Nat)
    (x : SamplePair) : ContextFits (Machine.runStep p ch gain offset x k).1 := by
  unfold Machine.runStep
  split
  · exact ContextFits.sampleStep (k := { k with awaiting := false }) h p offset _ _
  · exact h

theorem RunsFit.none : RunsFit none := fun _ h => by cases h

theorem RunsFit.fresh (id : LetterId) (b : PerChan Bool) : RunsFit (some ⟨id, .all .fresh, b⟩) := by
  intro y hy c
  cases hy
  simp [RunContext.fresh]

theorem RunsFit.map {x : Option ScanContext} (h : RunsFit x) {f : ScanContext → ScanContext}
    (hf : ∀ y c, (∀ c, ContextFits (y.ctx.get c)) → ContextFits ((f y).ctx.get c)) : RunsFit (x.map f) := by
  intro y hy c
  obtain ⟨z, hz, rfl⟩ := Option.map_eq_some_iff.1 hy
  exact hf z c (h z hz)

theorem RunsFit.set {x : ScanContext} (h : RunsFit (some x)) {c : Chan} {k : RunContext} (hk : ContextFits k) :
    RunsFit (some { x with ctx := x.ctx.set c k }) := by
  intro y hy d
  cases hy
  simp only [PerChan.get_set]
  split
  · exact hk
  · exact h x rfl d

/-- A change of the contexts alone, within their room. -/
theorem keeps_of_scan {s t : State} (h : keptView t = { keptView s with scan := t.scan })
    (hr : RunsFit s.scan → RunsFit t.scan) : Keeps (keptView s) (keptView t) := by
  rw [h]
  constructor
  · rintro ⟨h1, h2, h3, h4, h5, h6, h7, h8, h9⟩
    exact ⟨h1, h2, h3, h4, h5, h6, h7, hr h8, h9⟩
  · rintro ⟨h1, h2, h3, h4⟩
    exact ⟨h1, h2, h3, h4⟩

theorem ensureScan_keeps (id : LetterId) (s : State) : Keeps (keptView s) (keptView (ensureScan id s)) := by
  unfold ensureScan
  split
  · split
    · exact .refl _
    · exact keeps_of_scan rfl fun _ => .fresh _ _
  · exact keeps_of_scan rfl fun _ => .fresh _ _

theorem markBlind_keeps (c : Chan) (s : State) : Keeps (keptView s) (keptView (updateScan (·.markBlind c) s)) :=
  keeps_of_scan rfl fun h => h.map fun _ d hy => hy d

theorem markBlindAt_keeps (pos : Pos) (c : Chan) (s : State) : Keeps (keptView s) (keptView (markBlindAt pos c s)) := by
  unfold markBlindAt
  split
  · exact (ensureScan_keeps _ s).trans (markBlind_keeps c _)
  · exact .refl _

theorem settleStep_keeps (c : Chan) (s : State) : Keeps (keptView s) (keptView (settleStep c s)) := by
  unfold settleStep
  split
  · exact .refl _
  · next x hx =>
    simp only
    split
    · rw [countSources_view]
      refine keeps_of_scan rfl fun h => ?_
      rw [hx] at h
      exact h.set (ContextFits.missStep (k := { x.ctx.get c with awaiting := false }) (h x rfl c) _)
    · exact .refl _

theorem blindIfFault_keeps (pos : Pos) (c : Chan) (s : State) :
    Keeps (keptView s) (keptView (blindIfFault pos c s)) := by
  unfold blindIfFault
  split
  · exact markBlindAt_keeps _ _ _
  · exact .refl _

theorem beginStep_keeps (pos : Pos) (s : State) : Keeps (keptView s) (keptView (beginStep pos s)) := by
  unfold beginStep
  split
  · exact .refl _
  · next l _ =>
    have hs : Keeps (keptView s) (keptView (updateScan (fun x => { x with
        ctx := x.ctx.map fun k : RunContext => { k with awaiting := true } }) (ensureScan l.id s))) := by
      refine (ensureScan_keeps _ s).trans (keeps_of_scan rfl fun h => h.map fun y c hy => ?_)
      rw [PerChan.get_map]
      exact hy c
    exact hs.trans ((blindIfFault_keeps _ _ _).trans ((blindIfFault_keeps _ _ _).trans
      ((blindIfFault_keeps _ _ _).trans (blindIfFault_keeps _ _ _))))

theorem scanOf_fits {id : LetterId} {s : State} (h : RunsFit s.scan) : RunsFit (some (scanOf id s)) := by
  unfold scanOf
  split
  · next x hx =>
    split
    · exact hx ▸ h
    · exact .fresh _ _
  · exact .fresh _ _

theorem letterSample_keeps (c : Chan) (l : Letter) (pos : Pos) (x : SamplePair) (s : State) :
    Keeps (keptView s) (keptView (letterSample c l pos x s)) := by
  have hstep : ∀ (u : State) (k : RunContext), (RunsFit u.scan → ContextFits k) →
      Keeps (keptView u) (keptView { u with scan := some { scanOf l.id u with ctx := (scanOf l.id u).ctx.set c k } }) :=
    fun u k hk => keeps_of_scan rfl fun h => (scanOf_fits h).set (hk h)
  have hmark : Keeps (keptView s) (keptView
      (if ((ensureScan l.id s).lch.chans.get c).state = .search ∨ ((ensureScan l.id s).lch.chans.get c).state = .check
        then updateScan (·.markBlind c) (ensureScan l.id s) else ensureScan l.id s)) := by
    split
    · exact (ensureScan_keeps _ s).trans (markBlind_keeps c _)
    · exact ensureScan_keeps _ s
  simp only [letterSample]
  refine hmark.trans (.trans ?_ (captureSample_keeps _ _ _ _))
  rw [countSources_view]
  refine hstep _ _ fun h => ?_
  exact ContextFits.runStep (scanOf_fits h _ rfl c) _ _ _ _ _

end Sys2Proof.Machine
end

section
/-! Every operation of the tracker, the line controller, the facing unit and the channels keeps the capacities and the feed
hold set: each follows from the operations it is made of. -/

namespace Sys2Proof.Machine

/-! ### Records that join and leave (R9, R16, R26 to R28) -/

/-- The test of LIST_HIGH brings it in line whatever the list has done (R16). -/
theorem refreshListHigh_keeps {v : KeptView} {u : State}
    (h : keptView u = { v with letters := u.trk.letters.length, scan := u.scan })
    (hn : v.letters ≤ Config.listCapacity → u.trk.letters.length ≤ Config.listCapacity)
    (hr : RunsFit v.scan → RunsFit u.scan) : Keeps v (keptView (refreshListHigh u)) := by
  rw [refreshListHigh_view, h]
  constructor
  · rintro ⟨h1, h2, h3, h4, h5, h6, h7, h8, h9⟩
    exact ⟨hn h1, h2, h3, h4, h5, h6, h7, hr h8, h9⟩
  · rintro ⟨-, h2, h3, h4⟩
    exact ⟨rfl, h2, h3, h4⟩

theorem dropRecord_view (l : Letter) (s : State) :
    keptView (dropRecord l s) = { keptView s with letters := (s.trk.letters.filter (·.id != l.id)).length } := rfl

theorem dropScan_cases {P : State → Prop} (l : Letter) (s : State) (stays : P s) (drops : P { s with scan := none }) :
    P (dropScan l s) := by
  unfold dropScan
  split
  · split
    · exact drops
    · exact stays
  · exact stays

theorem removeRecord_keeps (l : Letter) (d : Disposition) (s : State) :
    Keeps (keptView s) (keptView (removeRecord l d s)) := by
  have hlen : (s.trk.letters.filter (·.id != l.id)).length ≤ s.trk.letters.length := List.length_filter_le ..
  have hu : ∀ u, keptView u = keptView (dropRecord l s) ∨ keptView u = { keptView (dropRecord l s) with scan := none } →
      Keeps (keptView s) (keptView (refreshListHigh u)) := by
    rintro u (hv | hv)
    all_goals
      have hl : u.trk.letters.length = (s.trk.letters.filter (·.id != l.id)).length := congrArg KeptView.letters hv
      have hs := congrArg KeptView.scan hv
      change u.scan = _ at hs
      refine refreshListHigh_keeps (by rw [hv, hl, hs]; rfl) (fun h => (hl.trans_le hlen).trans h) (fun h => ?_)
      rw [hs]
    · exact h
    · exact .none
  simp only [removeRecord]
  refine ((hu _ ?_).trans (countRemoval_keeps l d _)).trans (reportRemoval_keeps l d _)
  rw [releaseUnmeasured_view]
  exact dropScan_cases (P := fun u => keptView u = keptView (dropRecord l s) ∨
    keptView u = { keptView (dropRecord l s) with scan := none }) l _ (.inl rfl) (.inr rfl)

theorem loseRecord_keeps (s : State) (l : Letter) : Keeps (keptView s) (keptView (loseRecord s l)) := by
  have hlen : (s.trk.letters.filter (·.id != l.id)).length ≤ s.trk.letters.length := List.length_filter_le ..
  refine .trans (.trans ?_ (countRemoval_keeps l _ _)) (reportRemoval_keeps l _ _)
  exact refreshListHigh_keeps rfl (fun h => hlen.trans h) id

theorem loseAllRecords_keeps (s : State) : Keeps (keptView s) (keptView (loseAllRecords s)) := by
  simp only [loseAllRecords, clearMeasuring_view, restGates_view]
  exact foldl_keepsView loseRecord_keeps _ s

/-! ### The line (chapter 7) -/

/-- Between two line states after LOADING the view stays as it is. -/
theorem enterLine_view {t : LineState} {s : State} (ht : t ≠ .loading) (hs : s.lnc.line ≠ .loading) :
    keptView (enterLine t s) = keptView s := by
  unfold enterLine
  rw [raise_view]
  exact updateLine_view rfl (by simp [ht, hs])

theorem settleFaulted_keeps (s : State) : Keeps (keptView s) (keptView (settleFaulted s)) := by
  rw [← idleChannels_view s]
  exact settleHeads_keeps _

theorem enterFaulted_keeps (cause : LineCause) (s : State) : Keeps (keptView s) (keptView (enterFaulted cause s)) := by
  by_cases hl : s.lnc.line = .faulted ∨ s.lnc.line = .loading
  · rw [enterFaulted, if_pos hl]
    exact .refl _
  · obtain ⟨h1, h2⟩ := not_or.1 hl
    obtain ⟨b, hb, he⟩ := enterFaulted_eq (cause := cause) h1 h2
    have hv : keptView b = keptView s := by
      rw [hb, raise_view, raise_view]
      exact updateLine_view rfl (by simp [LineController.faultEntry, h2])
    have ha : Keeps (keptView s) (keptView (loseAllRecords (abortPrints (abandonCalibration (stopSampling b))))) := by
      rw [← hv]
      refine (stopSampling_keeps b).trans (.trans ?_ (loseAllRecords_keeps _))
      rw [← abandonCalibration_view (stopSampling b)]
      exact abortPrints_keeps _
    rw [he]
    split
    · exact ha
    · exact ha.trans (settleFaulted_keeps _)

theorem enterRunning_view {s : State} (hs : s.lnc.line ≠ .loading) : keptView (enterRunning s) = keptView s := by
  change keptView (enterLine .running _) = keptView s
  rw [enterLine_view (by simp) (by exact hs)]
  exact updateLine_view rfl .rfl

theorem checkStart_view (s : State) : keptView (checkStart s) = keptView s := by
  unfold checkStart
  split
  · next h => exact enterRunning_view (by simp [h.1])
  · rfl

theorem startTimeout_keeps (s : State) : Keeps (keptView s) (keptView (startTimeout s)) := by
  simp only [startTimeout]
  split
  · next h =>
    split
    · rw [raise_view, updateLine_view rfl .rfl, enterRunning_view (by simp [h.1])]
      exact .refl _
    · exact enterFaulted_keeps _ _
  · exact .refl _

theorem enterStopped_keeps {s : State} (hs : s.lnc.line ≠ .loading) :
    Keeps (keptView s) (keptView (enterStopped s)) := by
  have hu : keptView (updateLine (fun c => { c with stopTimer := none, drainTimer := .off }) s) = keptView s :=
    updateLine_view rfl .rfl
  simp only [enterStopped]
  rw [enterLine_view (by simp) (by simpa using hs), idleChannels_view, ← hu]
  exact stopSampling_keeps _

theorem checkDrain_keeps (s : State) : Keeps (keptView s) (keptView (checkDrain s)) := by
  unfold checkDrain
  split
  · next ms _ =>
    split
    · next h =>
      have hu : keptView (updateLine (fun c => { c with
          drainTimer := .held ms, below := 0, stopTimer := some s.prl.profile.stopTimeout }) s) = keptView s :=
        updateLine_view rfl .rfl
      simp only [endDrain]
      split
      · rw [hu]; exact .refl _
      · rw [← hu]; exact enterStopped_keeps (by simp [h.1])
    · exact .refl _
  all_goals exact .refl _

theorem enterStopping_keeps {s : State} (hs : s.lnc.line ≠ .loading) :
    Keeps (keptView s) (keptView (enterStopping s)) := by
  refine .trans ?_ (checkDrain_keeps _)
  rw [enterLine_view (by simp) (by exact hs), updateLine_view rfl .rfl]
  exact .refl _

theorem drainTimeout_keeps (s : State) : Keeps (keptView s) (keptView (drainTimeout s)) := by
  unfold drainTimeout
  split
  · split
    · exact enterFaulted_keeps _ _
    · exact .refl _
  all_goals exact .refl _

theorem stopFail_keeps (s : State) : Keeps (keptView s) (keptView (stopFail s)) := by
  unfold stopFail
  split
  · next h =>
    split
    · exact enterFaulted_keeps _ _
    · exact enterStopped_keeps (by simp [h.1])
  · exact .refl _

theorem beltStill_keeps (s : State) : Keeps (keptView s) (keptView (beltStill s)) := by
  refine beltStill_cases (P := fun u => Keeps (keptView s) (keptView u)) s (.refl _) (.refl _) (fun h => ?_)
    (fun _ => ?_)
  · exact enterStopped_keeps (s := { s with trk := { s.trk with moving := false } }) (by simp [h])
  · exact settleFaulted_keeps { s with trk := { s.trk with moving := false } }

theorem superviseSpeed_keeps (s : State) : Keeps (keptView s) (keptView (superviseSpeed s)) := by
  have hb : ∀ n, keptView (updateLine (fun c => { c with below := n }) s) = keptView s :=
      fun _ => updateLine_view rfl .rfl
  refine superviseSpeed_cases (P := fun u => Keeps (keptView s) (keptView u)) s (.refl _) (fun _ n => ?_) (fun n => ?_)
    (fun _ n => ?_)
  · rw [checkStart_view, updateLine_view rfl .rfl]; exact .refl _
  · rw [hb]; exact .refl _
  · rw [← hb n]; exact enterFaulted_keeps _ _

theorem completeWake_view (s : State) : keptView (completeWake s) = keptView s := by
  unfold completeWake
  split
  · next h => rw [raise_view, enterLine_view (by simp) (by simp [stopWake, h.1]), stopWake_view]
  · rfl

theorem enterStarting_view {s : State} (hs : s.lnc.line ≠ .loading) : keptView (enterStarting s) = keptView s := by
  unfold enterStarting
  rw [enterLine_view (by simp) (by simpa using hs), channelsStart_view, updateLine_view rfl .rfl]

/-! ### Verdicts and scans (R64, R69, R76 to R88) -/

theorem handToCancel_keeps (l : Letter) (v : Verdict) (s : State) :
    Keeps (keptView s) (keptView (handToCancel l v s)) := by
  unfold handToCancel
  split
  · exact schedulePrint_keeps _ _ _ _
  · rw [updateLetter_view]; exact .refl _

theorem handToPockets_keeps (l : Letter) (r : Route) (s : State) :
    Keeps (keptView s) (keptView (handToPockets l r s)) := by
  unfold handToPockets
  split
  · rw [← updateLetter_view l.id (fun x => { x with dest := some ⟨0, none⟩ }) s]
    exact assignPocket_keeps _ _
  · exact .refl _

theorem writeVerdict_keeps (l : Letter) (v : Verdict) (s : State) :
    Keeps (keptView s) (keptView (writeVerdict l v s)) := by
  simp only [writeVerdict]
  refine .trans (.trans ?_ (handToCancel_keeps l v _)) (handToPockets_keeps l _ _)
  rw [bump_view]
  refine .trans ?_ (.refl (keptView (updateLetter _ _ s)))
  rw [updateLetter_view]
  exact .refl _

theorem evaluate_keeps (id : LetterId) (s : State) : Keeps (keptView s) (keptView (evaluate id s)) := by
  unfold evaluate
  split
  · exact .refl _
  · split
    · exact writeVerdict_keeps _ _ _
    · split
      · split
        · exact writeVerdict_keeps _ _ _
        · exact writeVerdict_keeps _ _ _
      · split
        · exact writeVerdict_keeps _ _ _
        · split
          · exact writeVerdict_keeps _ _ _
          · exact .refl _

theorem endHold_keeps (close : Bool) (s : State) : Keeps (keptView s) (keptView (endHold close s)) := by
  unfold endHold
  split
  · exact .refl _
  · split <;> exact writeVerdict_keeps _ _ _

theorem reachPairPoint_keeps (s : State) : Keeps (keptView s) (keptView (reachPairPoint s)) := by
  unfold reachPairPoint
  split
  · exact .refl _
  · split
    · exact writeVerdict_keeps _ _ _
    · exact .refl _

theorem reachVerdictLimit_keeps (s : State) : Keeps (keptView s) (keptView (reachVerdictLimit s)) := by
  unfold reachVerdictLimit
  split
  · exact .refl _
  · split
    · exact writeVerdict_keeps _ _ _
    · exact .refl _

theorem completeScan_keeps (id : LetterId) (s : State) : Keeps (keptView s) (keptView (completeScan id s)) := by
  have hend : ∀ u : State, Keeps (keptView u) (keptView { u with
      scan := if (u.scan.map ScanContext.letter) = some id then none else u.scan
      lch := { u.lch with capture := (u.lch.capture.finish id).forget id } }) := by
    intro u
    refine keeps_of_sampling rfl (fun h => h.finish id) fun h => ?_
    change RunsFit (if _ then _ else _)
    split
    · exact .none
    · exact h
  simp only [completeScan]
  refine .trans (.trans ?_ (hend _)) (evaluate_keeps id _)
  simp only [updateLetter_view, closeChannel_view]
  exact .refl _

theorem markLong_keeps (id : LetterId) (s : State) : Keeps (keptView s) (keptView (markLong id s)) := by
  rw [← updateLetter_view id (fun l => { l with flags := { l.flags with long := true }, longPoint := none }) s]
  exact completeScan_keeps id _

theorem reachLongPoint_keeps (s : State) : Keeps (keptView s) (keptView (reachLongPoint s)) := by
  unfold reachLongPoint
  split
  · exact markLong_keeps _ _
  · exact .refl _

theorem completeIfPassed_keeps (id : LetterId) (s : State) :
    Keeps (keptView s) (keptView (completeIfPassed id s)) := by
  unfold completeIfPassed
  split
  · split
    · exact completeScan_keeps _ _
    · exact .refl _
  · exact .refl _

theorem measureLetter_keeps (l : Letter) (s : State) : Keeps (keptView s) (keptView (measureLetter l s)) := by
  have hlong : Keeps (keptView s) (keptView (if due s.trk.belt l.longPoint then markLong l.id s else s)) := by
    split
    · exact markLong_keeps _ _
    · exact .refl _
  simp only [measureLetter]
  refine hlong.trans (.trans ?_ (completeIfPassed_keeps l.id _))
  generalize (if due s.trk.belt l.longPoint then markLong l.id s else s) = u at hlong ⊢
  split
  · rw [setReleasePoints_view, setLength_view]; exact .refl _
  · rw [setLength_view]; exact .refl _

theorem e0TrailingEdge_keeps (s : State) : Keeps (keptView s) (keptView (e0TrailingEdge s)) := by
  unfold e0TrailingEdge
  split
  · exact .refl _
  · exact .refl _
  all_goals
    split
    · exact measureLetter_keeps _ _
    · exact .refl _

theorem e0LeadingEdge_keeps (s : State) : Keeps (keptView s) (keptView (e0LeadingEdge s)) := by
  have hi : s.trk.letters.length < Config.listCapacity → Keeps (keptView s) (keptView (induct s)) := by
    intro hl
    simp only [induct, resumeDrain_view]
    refine .trans ?_ (endHold_keeps _ _)
    refine refreshListHigh_keeps rfl (fun _ => ?_) id
    change (s.trk.letters ++ [newLetter s]).length ≤ _
    rw [List.length_append]
    exact hl
  unfold e0LeadingEdge
  split
  · exact .refl _
  · exact .refl _
  · exact enterFaulted_keeps _ _
  · exact enterFaulted_keeps _ _
  · exact enterFaulted_keeps _ _
  all_goals
    split
    · exact enterFaulted_keeps _ _
    · next h => exact hi (by omega)

theorem reachBlockedPoint_keeps (s : State) : Keeps (keptView s) (keptView (reachBlockedPoint s)) := by
  unfold reachBlockedPoint
  split
  · split
    · next l _ _ =>
      rw [← updateLetter_view l.id (fun l => { l with blockedPoint := none }) s]
      exact enterFaulted_keeps _ _
    · exact .refl _
  · exact .refl _

/-! ### Arrivals, expiries and decisions (R17 to R20, R121) -/

theorem retire_keeps (l : Letter) (d : Disposition) (s : State) : Keeps (keptView s) (keptView (retire l d s)) :=
  (removeRecord_keeps l d s).trans (checkDrain_keeps _)

theorem arrive_keeps (l : Letter) (e : Eye) (s : State) : Keeps (keptView s) (keptView (arrive l e s)) := by
  have hu : Keeps (keptView s) (keptView (updateLetter l.id (fun x => { x with arrived := x.arrived ++ [e] }) s)) := by
    rw [updateLetter_view]
    exact .refl _
  simp only [arrive]
  split
  · split
    · exact hu
    · split
      · exact hu.trans (retire_keeps _ _ _)
      · exact hu
  · split
    · rw [resynchronise_view]; exact hu
    · exact hu

theorem expire_keeps (l : Letter) (e : Eye) (s : State) : Keeps (keptView s) (keptView (expire l e s)) := by
  unfold expire
  split
  · exact retire_keeps _ _ _
  · exact enterFaulted_keeps _ _

theorem reachExpiry_keeps (id : LetterId) (e : Eye) (s : State) :
    Keeps (keptView s) (keptView (reachExpiry id e s)) := by
  unfold reachExpiry
  split
  · split
    · exact expire_keeps _ _ _
    · exact .refl _
  · exact .refl _

theorem expireWaiting_keeps (fuel : Nat) (e : Eye) (s : State) :
    Keeps (keptView s) (keptView (expireWaiting fuel e s)) := by
  induction fuel generalizing s with
  | zero => exact .refl _
  | succ n ih =>
    unfold expireWaiting
    split
    · split
      · exact (expire_keeps _ _ _).trans (ih _)
      · exact .refl _
    · exact .refl _

theorem eyeLeadingEdge_keeps (e : Eye) (s : State) : Keeps (keptView s) (keptView (eyeLeadingEdge e s)) := by
  simp only [eyeLeadingEdge]
  split
  · refine (expireWaiting_keeps (s.trk.letters.length + 1) e s).trans ?_
    split
    · split
      · exact enterFaulted_keeps _ _
      · split
        · exact arrive_keeps _ _ _
        · exact enterFaulted_keeps _ _
    · exact .refl _
  · exact .refl _

theorem settlePrint_keeps (id : LetterId) (s : State) : Keeps (keptView s) (keptView (settlePrint id s)) := by
  have hf : ∀ (h : Head) (u : State), Keeps (keptView u) (keptView
      (if (u.cnu.heads.get h).printing = some id then reachFireEnd h u else u)) := by
    intro h u
    split
    · exact reachFireEnd_keeps h u
    · exact .refl _
  exact (hf .upper s).trans (hf .lower _)

theorem decidePocket_keeps (l : Letter) (s : State) : Keeps (keptView s) (keptView (decidePocket l s)) := by
  simp only [decidePocket]
  split
  · rw [driveOwnedBank_view, updateLetter_view]
    exact assignPocket_keeps _ _
  · rw [updateLetter_view]
    exact assignPocket_keeps _ _

theorem reachDecision_keeps (id : LetterId) (s : State) : Keeps (keptView s) (keptView (reachDecision id s)) := by
  unfold reachDecision
  split
  · split
    · refine (settlePrint_keeps id s).trans ?_
      simp only
      split
      · exact decidePocket_keeps _ _
      · exact .refl _
    · exact .refl _
  · exact .refl _

/-! ### Flashes and their returns (R30 to R34) -/

theorem failFace_keeps (f : Face) (cause : FaultCause) (s : State) :
    Keeps (keptView s) (keptView (failFace f cause s)) := by
  unfold failFace
  split
  · rw [faultFace_view]
    exact (markBlindAt_keeps _ _ _).trans (markBlindAt_keeps _ _ _)
  · rw [faultFace_view]
    exact .refl _

theorem overrun_keeps (f : Face) (s : State) : Keeps (keptView s) (keptView (overrun f s)) := by
  unfold overrun
  split
  · exact failFace_keeps _ _ _
  · exact .refl _

theorem makeFlash_keeps (pos : Pos) (s : State) : Keeps (keptView s) (keptView (makeFlash pos s)) := by
  simp only [makeFlash]
  refine .trans (.trans ?_ (foldl_keepsView (fun s id => completeScan_keeps id s) _ _)) (beginStep_keeps pos _)
  refine .trans ?_ ((settleStep_keeps .au _).trans ((settleStep_keeps .al _).trans
    ((settleStep_keeps .bu _).trans (settleStep_keeps .bl _))))
  rw [pulseLamps_view]
  exact (overrun_keeps .a s).trans (overrun_keeps .b _)

theorem takeFlash_keeps (s : State) : Keeps (keptView s) (keptView (takeFlash s)) := by
  unfold takeFlash
  split
  · split
    · exact makeFlash_keeps _ _
    · exact .refl _
  · exact .refl _

theorem takeSample_keeps (c : Chan) (pos : Pos) (x : SamplePair) (s : State) :
    Keeps (keptView s) (keptView (takeSample c pos x s)) := by
  simp only [takeSample]
  split
  · exact .refl _
  · split
    · split
      · exact captureSample_keeps _ _ _ _
      · exact letterSample_keeps _ _ _ _ _
    · have hd : ∀ e, Keeps (keptView s) (keptView (darkSample c x (captureSample c none e s))) := by
        intro e
        rw [darkSample_view]
        exact captureSample_keeps _ _ _ _
      split
      · rw [checkStart_view]; exact hd _
      · exact hd _

theorem sampleReturn_keeps (f : Face) (upper lower : SamplePair) (s : State) :
    Keeps (keptView s) (keptView (sampleReturn f upper lower s)) := by
  unfold sampleReturn
  split
  · split
    · rw [calibrationReturn_view]; exact .refl _
    · unfold travelReturn
      split
      · exact .refl _
      · exact (takeSample_keeps _ _ upper { s with lch := { s.lch with
          outstanding := s.lch.outstanding.set f false } }).trans (takeSample_keeps _ _ lower _)
  · exact .refl _

theorem sampleTimeout_keeps (f : Face) (s : State) : Keeps (keptView s) (keptView (sampleTimeout f s)) := by
  unfold sampleTimeout
  split
  · split
    · rw [calibrationTimeout_view]; exact .refl _
    · exact failFace_keeps _ _ _
  · exact .refl _

end Sys2Proof.Machine
end

section
/-! Loading, fields, requests and resets keep the capacities and the feed hold set; with them every command does. -/

namespace Sys2Proof.Machine

/-! ### The end of LOADING (R147) -/

/-- Only the pockets, their limits, the tray log, the head policy, two hold reasons and the line have changed; the log
still has room, and no pocket but a bank pocket has come into OUT. -/
structure LoadMoves (v w : KeptView) : Prop where
  rest : { w with
    pockets := v.pockets, limits := v.limits, log := v.log, policy := v.policy, catchFull := v.catchFull
    headDown := v.headDown, loading := v.loading } = v
  room : v.log + reserved v.pockets ≤ Config.trayLogCapacity → w.log + reserved w.pockets ≤ Config.trayLogCapacity
  service : (∀ k : PocketNo, isBank k = false → (v.pockets k).1 ≠ .out) →
    ∀ k : PocketNo, isBank k = false → (w.pockets k).1 ≠ .out

/-- With both reasons in line with their conditions at the end of LOADING, both invariants are kept. -/
theorem LoadMoves.keeps {v w : KeptView} (h : LoadMoves v w) (hc : w.catchFull = (w.atLimit 0 || w.atLimit 9))
    (hd : w.headDown = w.headsDown) : Keeps v w := by
  obtain ⟨hrest, hroom, hservice⟩ := h
  have hv : w.letters = v.letters ∧ w.listHigh = v.listHigh ∧ w.requests = v.requests ∧ w.replies = v.replies ∧
      w.reports = v.reports ∧ w.heads = v.heads ∧ w.captured = v.captured ∧ w.captureFull = v.captureFull ∧
      w.scan = v.scan ∧ w.resetPending = v.resetPending := by
    rw [← hrest]
    simp
  obtain ⟨hle, hlh, hrq, hrp, hrt, hhe, hca, hcf, hsc, hrs⟩ := hv
  constructor
  · intro i
    exact ⟨hle ▸ i.letters, hroom i.log, hrq ▸ i.requests, hrp ▸ i.replies, hrt ▸ i.reports, hhe ▸ i.heads,
      hca ▸ hcf ▸ i.capture, hsc ▸ i.runs, hrs ▸ hrq ▸ i.reset⟩
  · intro i
    exact ⟨hlh ▸ hle ▸ i.listHigh, fun _ => hc, fun _ => hd, hservice i.service⟩

theorem beginPockets_moves (s : State) : PocketsMove (keptView s) (keptView (beginPockets s)) := by
  refine foldl_moves (fun u k => updatePocket_moves ?_ ?_) _ s
  · simp only [Pocket.begin]
    split <;> simp
  · simp only [Pocket.begin]
    split <;> simp

/-- A pass over every pocket's limit ends with pocket 9's, and so with the test of CATCH_FULL. -/
theorem applyLimits_moved (s : State) : ∃ u, allPockets.foldl (fun s k => applyLimit k s) s = refreshCatchFull u ∧
    PocketsMove (keptView s) (keptView u) := by
  have ha : allPockets = [0, 1, 2, 3, 4, 5, 6, 7, 8] ++ [9] := by decide
  rw [ha, List.foldl_append, List.foldl_cons, List.foldl_nil]
  have hx := foldl_moves (fun s k => applyLimit_moves k s) [0, 1, 2, 3, 4, 5, 6, 7, 8] s
  generalize List.foldl (fun s k => applyLimit k s) s [0, 1, 2, 3, 4, 5, 6, 7, 8] = x at hx ⊢
  obtain ⟨u, hu, hm⟩ := applyLimit_moved 9 x
  exact ⟨u, hu, hx.trans hm⟩

theorem resumePockets_moved (s : State) :
    ∃ u, resumePockets s = refreshCatchFull u ∧ PocketsMove (keptView s) (keptView u) := by
  simp only [resumePockets]
  generalize hx : bankPockets.foldl (fun s k => raiseLimit k s)
    (adoptClasses (fun _ => true) (allPockets.foldl matchSensor s)) = x
  have hm : PocketsMove (keptView s) (keptView x) := by
    rw [← hx]
    refine .trans ?_ (foldl_moves (fun s k => raiseLimit_moves k s) _ _)
    rw [adoptClasses_view]
    exact foldl_moves matchSensor_moves _ _
  obtain ⟨u, hu, hm'⟩ := applyLimits_moved x
  exact ⟨u, hu, hm.trans hm'⟩

/-- The pockets at the end of LOADING, after either reset. -/
theorem loadedPockets_moved (s : State) :
    ∃ u, (if s.prl.afterPin then refreshCatchFull (beginPockets s) else resumePockets s) = refreshCatchFull u ∧
      PocketsMove (keptView s) (keptView u) := by
  split
  · exact ⟨_, rfl, beginPockets_moves s⟩
  · exact resumePockets_moved s

theorem endLoading_keeps (p : Profile) (r : LoadResult) (s : State) :
    Keeps (keptView s) (keptView (endLoading p r s)) := by
  let x : State := { updateLoader (fun x => { x with profile := p, result := r }) s with
    lch := { s.lch with chans := s.lch.chans.map (Channel.nominal p) } }
  obtain ⟨u, hu, hm⟩ := loadedPockets_moved x
  let y : State := { refreshCatchFull u with
    pkm := { (refreshCatchFull u).pkm with debounce := (refreshCatchFull u).inputs.sweep } }
  let z := updateLine (fun c => { c with line := .stopped }) (applyHeadDown y)
  have hy : keptView y = keptView (refreshCatchFull u) := rfl
  have hz : keptView z = { keptView y with headDown := (keptView y).headsDown, loading := false } := by
    change { keptView (applyHeadDown y) with loading := false } = _
    rw [applyHeadDown_view]
    rfl
  have hk : Keeps (keptView s) (keptView z) := by
    have hx : keptView x = { keptView s with limits := fun k => p.limits[k], policy := p.headDownPolicy } := rfl
    have hmx := hm.trans (refreshCatchFull_moves u)
    rw [← hy] at hmx
    have hcatch := refreshCatchFull_catch u
    rw [← hy] at hcatch
    refine LoadMoves.keeps ⟨?_, ?_, ?_⟩ ?_ ?_
    · have hrest := hmx.rest
      rw [hx] at hrest
      rw [hz]
      generalize keptView y = w at hrest ⊢
      generalize keptView s = v at hrest ⊢
      cases v
      cases w
      simp only [KeptView.mk.injEq] at hrest ⊢
      simp [hrest]
    · rw [hz]
      intro h
      exact hmx.room (hx ▸ h)
    · rw [hz]
      intro h
      exact hmx.service (hx ▸ h)
    · rw [hz]
      exact hcatch
    · rw [hz]
      rfl
  have he : endLoading p r s =
      (let w := if r.isDefaulted then raise .profileDefaulted z else z
       if w.inputs.estop then enterFaulted .estop w else w) := by
    simp only [endLoading]
    rw [show ({ updateLoader (fun x => { x with profile := p, result := r }) s with
      lch := { (updateLoader (fun x => { x with profile := p, result := r }) s).lch with
        chans := (updateLoader (fun x => { x with profile := p, result := r }) s).lch.chans.map (Channel.nominal p) } }
        : State) = x from rfl, hu]
  have hw : Keeps (keptView s) (keptView (if r.isDefaulted then raise .profileDefaulted z else z)) := by
    split
    · rw [raise_view]
      exact hk
    · exact hk
  rw [he]
  simp only
  generalize (if r.isDefaulted then raise .profileDefaulted z else z) = w at hw ⊢
  split
  · exact hw.trans (enterFaulted_keeps _ w)
  · exact hw

theorem endLoad_keeps (image : List Byte) (s : State) : Keeps (keptView s) (keptView (endLoad image s)) := by
  unfold endLoad
  split
  · split
    · exact endLoading_keeps _ _ s
    · exact endLoading_keeps _ _ s
  · exact .refl _

theorem loadNoResponse_keeps (s : State) : Keeps (keptView s) (keptView (loadNoResponse s)) := by
  unfold loadNoResponse
  split
  · exact endLoading_keeps _ _ s
  · exact .refl _

/-! ### SET_FIELD (R195) -/

/-- Only fields 49 to 58 are limits. -/
theorem Profile.setField_limits {n : Nat} (v : FieldValue) (p : Profile) (h : ¬ (49 ≤ n ∧ n ≤ 58)) :
    (p.setField n v).limits = p.limits := by
  unfold Profile.setField
  split
  · unfold Profile.setNum
    split <;> simp at h ⊢
  · unfold Profile.setCode
    split <;> rfl
  all_goals rfl

/-- Only field 48 is the head-down policy. -/
theorem Profile.setField_headDownPolicy {n : Nat} (v : FieldValue) (p : Profile) (h : n ≠ 48) :
    (p.setField n v).headDownPolicy = p.headDownPolicy := by
  unfold Profile.setField
  split
  · unfold Profile.setNum
    split <;> rfl
  · unfold Profile.setCode
    split <;> simp at h ⊢
  all_goals rfl

theorem updateProfile_view (f : Profile → Profile) (s : State) :
    keptView (updateProfile f s) =
      { keptView s with
        limits := fun k => (f s.prl.profile).limits[k], policy := (f s.prl.profile).headDownPolicy } := rfl

/-- A new value that is neither a limit nor the head policy leaves the view. -/
theorem updateProfile_view_of {f : Profile → Profile} {s : State} (hl : (f s.prl.profile).limits = s.prl.profile.limits)
    (hp : (f s.prl.profile).headDownPolicy = s.prl.profile.headDownPolicy) :
    keptView (updateProfile f s) = keptView s := by
  rw [updateProfile_view, hl, hp]
  rfl

/-- A new limit field: its pocket's limit is applied, which tests CATCH_FULL (R140). -/
theorem limitField_keeps {f : Profile → Profile} (k : PocketNo) {s : State}
    (hp : (f s.prl.profile).headDownPolicy = s.prl.profile.headDownPolicy) :
    Keeps (keptView s) (keptView (applyLimit k (raiseLimit k (updateProfile f s)))) := by
  have hu : PocketsMove (keptView s) (keptView (updateProfile f s)) := by
    rw [updateProfile_view, hp]
    exact ⟨rfl, id, id⟩
  obtain ⟨u, he, hm⟩ := applyLimit_moved k (raiseLimit k (updateProfile f s))
  rw [he]
  exact refreshCatchFull_keeps ((hu.trans (raiseLimit_moves k _)).trans hm)

/-- A new head policy out of LOADING: HEAD_DOWN is tested (R114). -/
theorem policyField_keeps {f : Profile → Profile} {s : State} (hl : s.lnc.line ≠ .loading)
    (hf : (f s.prl.profile).limits = s.prl.profile.limits) :
    Keeps (keptView s) (keptView (refreshHeadDown (updateProfile f s))) := by
  rw [refreshHeadDown, if_neg (by exact hl), applyHeadDown_view, updateProfile_view, hf]
  constructor
  · rintro ⟨h1, h2, h3, h4, h5, h6, h7, h8, h9⟩
    exact ⟨h1, h2, h3, h4, h5, h6, h7, h8, h9⟩
  · rintro ⟨h1, h2, h3, h4⟩
    exact ⟨h1, h2, fun _ => rfl, h4⟩

theorem limitPocket_none {n : Nat} (h : limitPocket n = none) : ¬ (49 ≤ n ∧ n ≤ 58) := by
  unfold limitPocket at h
  split at h
  · cases h
  · assumption

theorem limitPocket_some {n : Nat} {k : PocketNo} (h : limitPocket n = some k) : 49 ≤ n := by
  unfold limitPocket at h
  split at h
  · next hn => exact hn.1
  · cases h

theorem fieldEffects_keeps {n : Nat} (v : FieldValue) {s : State} (hw : fieldWritable n s.lnc.line = true) :
    Keeps (keptView s)
      (keptView (fieldEffects n s.prl.profile (updateProfile (fun _ => s.prl.profile.setField n v) s))) := by
  unfold fieldEffects
  split
  · next k hk =>
    have hn := limitPocket_some hk
    exact limitField_keeps k (s.prl.profile.setField_headDownPolicy v (by omega))
  · next hk =>
    have hlim := s.prl.profile.setField_limits v (limitPocket_none hk)
    split
    · next hc =>
      have hn : n ≠ 48 := by
        intro e
        simp [isClassField, e] at hc
      rw [adoptClasses_view, updateProfile_view_of hlim (s.prl.profile.setField_headDownPolicy v hn)]
      exact .refl _
    · split
      · next h48 =>
        subst h48
        refine policyField_keeps (fun hl => ?_) hlim
        simp [fieldWritable, hl] at hw
      · next h48 =>
        have hview := updateProfile_view_of (f := fun _ => s.prl.profile.setField n v) hlim
          (s.prl.profile.setField_headDownPolicy v h48)
        split
        · rw [refreshWake_view, hview]
          exact .refl _
        · rw [hview]
          exact .refl _

/-! ### Resets (R145, R146, R199) -/

/-- What both resets clear: the line is LOADING, the link and the capture are empty, no letter is being scanned. -/
structure KeptView.Cleared (v : KeptView) : Prop where
  loading : v.loading = true
  requests : v.requests = []
  replies : v.replies = 0
  reports : v.reports = 0
  heads : ∀ h, (v.heads h).1 = 0
  captured : v.captured = 0
  scan : v.scan = none
  resetPending : v.resetPending = false

theorem KeptView.Cleared.within {v : KeptView} (h : v.Cleared) (hl : v.letters ≤ Config.listCapacity)
    (hr : v.log + reserved v.pockets ≤ Config.trayLogCapacity) : v.Within where
  letters := hl
  log := hr
  requests := by simp [h.requests]
  replies := by simp [h.replies]
  reports := by simp [h.reports]
  heads k := by simp [h.heads k]
  capture := by simp [h.captured, Config.captureCapacity]
  runs y hy := by simp [h.scan] at hy
  reset hp := by simp [h.resetPending] at hp

theorem KeptView.Cleared.holds {v : KeptView} (h : v.Cleared) (hl : v.listHigh = decide (44 ≤ v.letters))
    (hs : ∀ k : PocketNo, isBank k = false → (v.pockets k).1 ≠ .out) : v.Holds where
  listHigh := hl
  catchFull e := by simp [h.loading] at e
  headDown e := by simp [h.loading] at e
  service := hs

theorem softReset_cleared (s : State) : (keptView (softReset s)).Cleared where
  loading := rfl
  requests := rfl
  replies := rfl
  reports := rfl
  heads h := by cases h <;> rfl
  captured := rfl
  scan := rfl
  resetPending := rfl

theorem softReset_kept (s : State) : (keptView (softReset s)).letters = (keptView s).letters ∧
    (keptView (softReset s)).listHigh = (keptView s).listHigh ∧
    (keptView (softReset s)).pockets = (keptView s).pockets ∧ (keptView (softReset s)).log = (keptView s).log :=
  ⟨rfl, rfl, rfl, rfl⟩

theorem softReset_keeps (s : State) : Keeps (keptView s) (keptView (softReset s)) := by
  obtain ⟨hle, hlh, hp, hlog⟩ := softReset_kept s
  have hc := softReset_cleared s
  constructor
  · exact fun i => hc.within (hle ▸ i.letters) (hlog ▸ hp ▸ i.log)
  · exact fun i => hc.holds (hlh ▸ hle ▸ i.listHigh) (hp ▸ i.service)

section
variable (inputs : Inputs) (straps : Straps) (pending : List Instr)

theorem pinReset_cleared : (keptView (.pinReset inputs straps pending)).Cleared where
  loading := rfl
  requests := rfl
  replies := rfl
  reports := rfl
  heads h := by cases h <;> rfl
  captured := rfl
  scan := rfl
  resetPending := rfl

theorem pinReset_pockets (k : PocketNo) :
    (keptView (.pinReset inputs straps pending)).pockets k = (.noTray, 0, 0) := by
  change Pocket.load (Vector.replicate 10 Pocket.initial)[k] = _
  simp only [Fin.getElem_fin, Vector.getElem_replicate]
  rfl

theorem pinReset_within : (keptView (.pinReset inputs straps pending)).Within := by
  refine (pinReset_cleared inputs straps pending).within (Nat.zero_le _) ?_
  rw [show (keptView (.pinReset inputs straps pending)).pockets = fun _ => (.noTray, 0, 0) from
    funext (pinReset_pockets inputs straps pending)]
  change 0 + reserved _ ≤ _
  decide

theorem pinReset_holds : (keptView (.pinReset inputs straps pending)).Holds := by
  refine (pinReset_cleared inputs straps pending).holds rfl fun k _ => ?_
  rw [pinReset_pockets]
  simp

end

theorem actReset_keeps (s : State) : Keeps (keptView s) (keptView (actReset s)) := by
  unfold actReset
  split
  · exact softReset_keeps s
  · exact .refl _

theorem assertReset_view (s : State) : keptView (assertReset s) = keptView s := rfl

end Sys2Proof.Machine
end

section
/-! The requests, and the walk over the commands that settles the invariants of capacities and of the feed hold set. -/

namespace Sys2Proof.Machine

/-! ### Operations of the requests leave the queued replies -/

@[simp] theorem enterLine_linkView (t : LineState) (s : State) : linkView (enterLine t s) = linkView s := rfl

@[simp] theorem updateLine_linkView (f : LineController → LineController) (s : State) :
    linkView (updateLine f s) = linkView s := rfl

@[simp] theorem updatePocket_linkView (k : PocketNo) (f : Pocket → Pocket) (s : State) :
    linkView (updatePocket k f s) = linkView s := rfl

@[simp] theorem updateHead_linkView (h : Head) (f : HeadUnit → HeadUnit) (s : State) :
    linkView (updateHead h f s) = linkView s := rfl

@[simp] theorem updateProfile_linkView (f : Profile → Profile) (s : State) :
    linkView (updateProfile f s) = linkView s :=
  rfl

@[simp] theorem startWake_linkView (s : State) : linkView (startWake s) = linkView s := by simp [linkView]

@[simp] theorem refreshWake_linkView (s : State) : linkView (refreshWake s) = linkView s := by simp [linkView]

@[simp] theorem emptyQueue_linkView (h : Head) (s : State) : linkView (emptyQueue h s) = linkView s :=
    by simp [linkView]

@[simp] theorem adoptClasses_linkView (changed : PocketNo → Bool) (s : State) :
    linkView (adoptClasses changed s) = linkView s := by simp [linkView]

@[simp] theorem raiseLimit_linkView (k : PocketNo) (s : State) : linkView (raiseLimit k s) = linkView s := by
  simp [linkView]

@[simp] theorem updateChans_linkView (named : List Chan) (f : Channel → Channel) (s : State) :
    linkView (updateChans named f s) = linkView s := by simp [linkView]

@[simp] theorem channelsStart_linkView (s : State) : linkView (channelsStart s) = linkView s := rfl

@[simp] theorem enterStarting_linkView (s : State) : linkView (enterStarting s) = linkView s := by
  simp [enterStarting]

@[simp] theorem enterStopped_linkView (s : State) : linkView (enterStopped s) = linkView s := rfl

@[simp] theorem enterStopping_linkView (s : State) : linkView (enterStopping s) = linkView s := by
  simp only [enterStopping, checkDrain, endDrain]
  (repeat' split) <;> simp

@[simp] theorem beginDraining_linkView (k : PocketNo) (reason : CloseReason) (s : State) :
    linkView (beginDraining k reason s) = linkView s := by simp [beginDraining]

@[simp] theorem becomeFull_linkView (k : PocketNo) (s : State) : linkView (becomeFull k s) = linkView s := by
  simp only [becomeFull]
  split <;> simp

@[simp] theorem bringIn_linkView (k : PocketNo) (s : State) : linkView (bringIn k s) = linkView s := by
  simp only [bringIn]
  (repeat' split) <;> simp

@[simp] theorem applyLimit_linkView (k : PocketNo) (s : State) : linkView (applyLimit k s) = linkView s := by
  simp only [applyLimit, refreshCatchFull_linkView]
  (repeat' split) <;> simp

@[simp] theorem fieldEffects_linkView (n : Nat) (old : Profile) (s : State) :
    linkView (fieldEffects n old s) = linkView s := by
  unfold fieldEffects
  (repeat' split) <;> simp

/-- What an owner's effect must leave for its answer to have the room that dispatch has found: both invariants, and the
replies. -/
structure Serves (s t : State) : Prop where
  keeps : Keeps (keptView s) (keptView t)
  replies : t.lki.replies = s.lki.replies

theorem Serves.refl (s : State) : Serves s s := ⟨.refl _, rfl⟩

theorem serves_of {s t : State} (h : Keeps (keptView s) (keptView t)) (hl : linkView t = linkView s) : Serves s t :=
  ⟨h, (linkView_reports hl).2.2⟩

theorem serves_of_view {s t : State} (h : keptView t = keptView s) (hl : linkView t = linkView s) : Serves s t :=
  serves_of (h ▸ .refl _) hl

/-! ### Dispatch -/

theorem taken_keeps {r : Request} {rest : List Request} {s : State} (h : s.lki.requests = r :: rest) :
    Keeps (keptView s) (keptView (taken rest s)) := by
  constructor
  · rintro ⟨h1, h2, h3, h4, h5, h6, h7, h8, h9⟩
    refine ⟨h1, h2, ?_, h4, h5, h6, h7, h8, fun hp => ?_⟩
    · change s.lki.requests.length ≤ _ at h3
      rw [h, List.length_cons] at h3
      change rest.length ≤ _
      omega
    · exact absurd (h9 hp) (by change s.lki.requests ≠ []; simp [h])
  · rintro ⟨h1, h2, h3, h4⟩
    exact ⟨h1, h2, h3, h4⟩

theorem dispatchable_room {r : Request} {s : State} (h : dispatchable r s = true) :
    s.lki.replies.length < Config.replyCapacity := by
  have hr : replyRoom r.kind s = true := by
    simp only [dispatchable, Bool.and_eq_true] at h
    exact h.2
  unfold replyRoom at hr
  split at hr
  · rw [List.isEmpty_iff] at hr
    simp [hr, Config.replyCapacity]
  · simpa using hr

/-- A dispatch keeps both invariants where its owner does, leaving the replies. -/
theorem dispatch_keeps {k : ReqKind} {o : Owner} {s : State}
    (ho : ∀ r rest, Serves (taken rest s) (o r (taken rest s)).1) :
    Keeps (keptView s) (keptView (dispatch k o s)) := by
  refine dispatch_cases (P := fun u => Keeps (keptView s) (keptView u)) k o s (.refl _) ?_ ?_
  · intro r rest e hr _ hd
    exact (taken_keeps hr).trans (pushAnswer_keeps (s := taken rest s) _ (dispatchable_room hd))
  · intro r rest hr _ hd _
    obtain ⟨hk, hp⟩ := ho r rest
    refine ((taken_keeps hr).trans hk).trans (pushAnswer_keeps _ ?_)
    rw [hp]
    exact dispatchable_room hd

theorem dispatchUnknown_keeps (s : State) : Keeps (keptView s) (keptView (dispatchUnknown s)) := by
  unfold dispatchUnknown
  split
  · exact .refl _
  · next r rest hr =>
    split
    · next h =>
      simp only [Bool.and_eq_true] at h
      exact (taken_keeps hr).trans (pushAnswer_keeps (s := taken rest s) _ (dispatchable_room h.2))
    · exact .refl _

theorem Owner.Reads.serves {o : Owner} (h : o.Reads) (r : Request) (s : State) : Serves s (o r s).1 := by
  rw [h r s]
  exact .refl s

/-! ### RESET (R178, R198) -/

theorem pushAnswer_view (kind tag : Byte) (a : Answer) (s : State) :
    keptView (pushAnswer kind tag a s) = { keptView s with replies := (keptView s).replies + 1 } := by
  change { keptView s with replies := (pushAnswer kind tag a s).lki.replies.length } = _
  rw [pushAnswer_replies]
  rfl

theorem pushAnswers_view (l : List Request) (a : Answer) (s : State) :
    keptView (l.foldl (fun s r => pushAnswer r.kind r.tag a s) s) =
      { keptView s with replies := (keptView s).replies + l.length } := by
  induction l generalizing s with
  | nil => rfl
  | cons r l ih =>
    rw [List.foldl_cons, ih, pushAnswer_view, List.length_cons]
    simp only [Nat.add_assoc, Nat.add_comm 1]

theorem answerBehind_view {s : State} (h : s.lki.resetPending = true) : keptView (answerBehind s) =
    { keptView s with requests := [], replies := (keptView s).replies + (keptView s).requests.length } := by
  rw [answerBehind, if_pos h, pushAnswers_view]
  rfl

/-- An accepted RESET and the answers to what is behind it fit in the reply queue, which is empty before (R178). -/
theorem acceptedReset_keeps {r : Request} {rest : List Request} {a : Answer} {s : State}
    (hr : s.lki.requests = r :: rest) (hs : s.lki.replies = []) :
    Keeps (keptView s) (keptView (answerBehind (pushAnswer r.kind r.tag a
      (updateLink (fun k => { k with resetPending := true }) (taken rest s))))) := by
  have hv : keptView (answerBehind (pushAnswer r.kind r.tag a
      (updateLink (fun k => { k with resetPending := true }) (taken rest s)))) =
      { keptView s with requests := [], replies := 1 + rest.length, resetPending := true } := by
    have hu : keptView (updateLink (fun k => { k with resetPending := true }) (taken rest s)) =
        { keptView s with requests := rest, resetPending := true } := rfl
    have hz : (keptView s).replies = 0 := congrArg List.length hs
    rw [answerBehind_view rfl, pushAnswer_view, hu, hz]
  rw [hv]
  constructor
  · rintro ⟨h1, h2, h3, h4, h5, h6, h7, h8, -⟩
    refine ⟨h1, h2, Nat.zero_le _, ?_, h5, h6, h7, h8, fun _ => rfl⟩
    change s.lki.requests.length ≤ _ at h3
    rw [hr, List.length_cons] at h3
    simp only [Config.requestCapacity, Config.replyCapacity] at h3 ⊢
    omega
  · rintro ⟨h1, h2, h3, h4⟩
    exact ⟨h1, h2, h3, h4⟩

theorem answerBehind_keeps (s : State) : Keeps (keptView s) (keptView (answerBehind s)) := by
  by_cases h : s.lki.resetPending = true
  · rw [answerBehind_view h]
    constructor
    · rintro ⟨h1, h2, h3, h4, h5, h6, h7, h8, h9⟩
      refine ⟨h1, h2, Nat.zero_le _, ?_, h5, h6, h7, h8, fun _ => rfl⟩
      rw [h9 h]
      exact h4
    · rintro ⟨h1, h2, h3, h4⟩
      exact ⟨h1, h2, h3, h4⟩
  · rw [answerBehind, if_neg h]
    exact .refl _

theorem execReset_keeps (s : State) : Keeps (keptView s) (keptView (answerBehind (dispatch .reset ownReset s))) := by
  refine dispatch_cases (P := fun u => Keeps (keptView s) (keptView (answerBehind u))) _ _ s
    (answerBehind_keeps s) ?_ ?_
  · intro r rest e hr _ hd
    exact ((taken_keeps hr).trans (pushAnswer_keeps (s := taken rest s) _ (dispatchable_room hd))).trans
      (answerBehind_keeps _)
  · intro r rest hr hk hd _
    have hs : s.lki.replies = [] := by
      simp only [dispatchable, replyRoom, hk, if_true, Bool.and_eq_true, List.isEmpty_iff] at hd
      exact hd.2
    generalize (ownReset r (taken rest s)).2 = a
    refine ownReset_cases (P := fun u => Keeps (keptView s) (keptView (answerBehind (pushAnswer r.kind r.tag a u)))) r
      ?_ (acceptedReset_keeps hr hs)
    exact ((taken_keeps hr).trans (pushAnswer_keeps (s := taken rest s) _ (dispatchable_room hd))).trans
      (answerBehind_keeps _)

end Sys2Proof.Machine
end

section
/-! Every command keeps the capacities and the feed hold set. -/

namespace Sys2Proof.Machine

/-! ### The requests' owners -/

theorem enterStarting_serves {s : State} (h : s.lnc.line = .stopped ∨ s.lnc.line = .standby) :
    Serves s (enterStarting s) :=
  serves_of_view (enterStarting_view fun e => by simp [e] at h) (enterStarting_linkView s)

theorem enterStopping_serves {s : State} (h : s.lnc.line = .starting ∨ s.lnc.line = .running) :
    Serves s (enterStopping s) :=
  serves_of (enterStopping_keeps fun e => by simp [e] at h) (enterStopping_linkView s)

theorem enterStandby_serves {s : State} (h : s.lnc.line = .stopped) : Serves s (startWake (enterLine .standby s)) := by
  refine serves_of_view ?_ (by simp)
  rw [startWake_view, enterLine_view (by simp) (by simp [h])]

theorem clearedFault_serves {s : State} (h : s.lnc.line = .faulted) :
    Serves s (enterLine .stopped (updateLine (fun c => { c with reason := none }) s)) := by
  refine serves_of_view ?_ (by simp)
  rw [enterLine_view (by simp) (by simp [h]), updateLine_view rfl .rfl]

theorem setOperator_serves (on : Bool) (s : State) : Serves s (setOperator on s).1 :=
  serves_of_view (setHold_view _ s) (by simp [setOperator])

/-- A change of a head and its queue, with the test of HEAD_DOWN. -/
theorem refreshHeadDown_serves {s u : State} (h : HeadsMove (keptView s) (keptView u)) (hl : linkView u = linkView s) :
    Serves s (refreshHeadDown u) :=
  serves_of (refreshHeadDown_keeps h) (by simp [hl])

theorem emptiedHead_serves (h : Head) {f : HeadUnit → HeadUnit} (hf : ∀ u, (f u).queue = u.queue) (s : State) :
    Serves s (refreshHeadDown (emptyQueue h (updateHead h f s))) :=
  refreshHeadDown_serves ((updateHead_moves (by rw [hf]; exact id)).trans (emptyQueue_moves h _)) (by simp)

theorem changedHead_serves (h : Head) {f : HeadUnit → HeadUnit} (hf : ∀ u, (f u).queue = u.queue) (s : State) :
    Serves s (refreshHeadDown (updateHead h f s)) :=
  refreshHeadDown_serves (updateHead_moves (by rw [hf]; exact id)) (by simp)

theorem pocketOut_serves {k : PocketNo} (hb : isBank k = true) (s : State) :
    Serves s (updatePocket k (fun p => { p with state := .out }) s) :=
  serves_of (updatePocket_keeps (.inl ⟨rfl, rfl⟩) (by simp) (fun _ => .inr hb)) rfl

theorem takenTray_serves {x : TrayRecord} {rest : List TrayRecord} {s : State} (h : s.pkm.log = x :: rest) :
    Serves s { s with pkm := { s.pkm with log := rest } } := by
  refine serves_of ⟨?_, ?_⟩ rfl
  · rintro ⟨h1, h2, h3, h4, h5, h6, h7, h8, h9⟩
    refine ⟨h1, ?_, h3, h4, h5, h6, h7, h8, h9⟩
    change s.pkm.log.length + reserved (keptView s).pockets ≤ _ at h2
    change rest.length + reserved (keptView s).pockets ≤ _
    rw [h, List.length_cons] at h2
    omega
  · rintro ⟨h1, h2, h3, h4⟩
    exact ⟨h1, h2, h3, h4⟩

theorem ownPoll_serves (r : Request) (s : State) : Serves s (ownPoll r s).1 :=
  ⟨keeps_of_reports rfl fun h => (takeReports_length pollRoom s.lki.reports).trans h, rfl⟩

/-! ### The commands -/

theorem live_keeps {f : State → State} {s t : State} (h : live f s = .next t)
    (hf : Keeps (keptView s) (keptView (f s))) : Keeps (keptView s) (keptView t) :=
  live_cases (P := fun u => Keeps (keptView s) (keptView u)) h (.refl _) hf

theorem live_keeps_of_view {f : State → State} {s t : State} (h : live f s = .next t)
    (hf : keptView (f s) = keptView s) : Keeps (keptView s) (keptView t) := live_keeps h (hf ▸ .refl _)

theorem onPin_keeps {level : Inputs → Inputs} {event : State → State} {s t : State} (h : onPin level event s = .next t)
    (hf : ∀ u, Keeps (keptView u) (keptView (event u))) : Keeps (keptView s) (keptView t) :=
  onPin_cases (P := fun u => Keeps (keptView s) (keptView u)) h (.refl _) (hf { s with inputs := level s.inputs })

theorem ite_keeps {c : Prop} [Decidable c] {v : KeptView} {t u : State} (ht : Keeps v (keptView t))
    (hu : Keeps v (keptView u)) : Keeps v (keptView (if c then t else u)) := by
  split
  · exact ht
  · exact hu

theorem afterLoading_keeps {f : State → State} {s : State} (h : Keeps (keptView s) (keptView (f s))) :
    Keeps (keptView s) (keptView (afterLoading f s)) := ite_keeps (.refl _) h

theorem request_keeps {k : ReqKind} {o : Owner} {s t : State} (h : live (dispatch k o) s = .next t)
    (ho : ∀ r s, Serves s (o r s).1) : Keeps (keptView s) (keptView t) :=
  live_keeps h (dispatch_keeps fun r _ => ho r _)

theorem endWindow_keeps (s : State) : Keeps (keptView s) (keptView (endWindow s)) :=
  superviseSpeed_keeps { s with trk := { s.trk with speed := s.trk.windowCount * 100, windowCount := 0 } }

/-- Every command keeps the capacities and the feed hold set. -/
theorem exec_keeps {c : Instr} {s t : State} (h : exec c s = .next t) : Keeps (keptView s) (keptView t) := by
  cases c with
  | resetNAssert =>
    cases h
    rw [assertReset_view]
    exact .refl _
  | resetNRelease straps =>
    simp only [exec, execResetNRelease] at h
    split at h <;> cases h
    · exact ⟨fun _ => pinReset_within .., fun _ => pinReset_holds ..⟩
    · exact .refl _
  | e0LeEdge =>
    simp only [exec, execE0LeEdge] at h
    split at h
    · cases h
      exact .refl _
    · exact onPin_keeps h e0LeadingEdge_keeps
  | e0TeEdge =>
    simp only [exec, execE0TeEdge] at h
    split at h
    · exact onPin_keeps h e0TrailingEdge_keeps
    · cases h
      exact .refl _
  | eyeLeEdge edge =>
    simp only [exec, execEyeLeEdge] at h
    split at h
    · cases h
    · split at h
      · cases h
        exact .refl _
      · exact onPin_keeps h fun u => ite_keeps (eyeLeadingEdge_keeps _ u) (.refl _)
  | estop active =>
    unfold exec execEstop at h
    exact onPin_keeps h fun u => ite_keeps (enterFaulted_keeps _ u) (.refl _)
  | feedloadActive =>
    unfold exec execFeedloadActive at h
    exact onPin_keeps h fun u => by rw [startWake_view]; exact .refl _
  | feedloadInactive =>
    unfold exec execFeedloadInactive at h
    exact onPin_keeps h fun u => by rw [stopWake_view]; exact .refl _
  | headFault hd a =>
    unfold exec execHeadFault at h
    exact onPin_keeps h fun u => ite_keeps (faultHead_keeps hd u) (.refl _)
  | trayRemoved k =>
    unfold exec execTrayRemoved at h
    exact onPin_keeps h fun u => ite_keeps (afterLoading_keeps (takeRemoval_keeps k u)) (.refl _)
  | trayInserted k =>
    unfold exec execTrayInserted at h
    exact onPin_keeps h fun u => ite_keeps (.refl _) (afterLoading_keeps (takeInsertion_keeps k u))
  | sweepButtonChange k a =>
    unfold exec execSweepButtonChange at h
    exact onPin_keeps h fun u => ite_keeps (.refl _) (afterLoading_keeps (by rw [setDebounce_view]; exact .refl _))
  | profileLoadEnd image => exact live_keeps h (endLoad_keeps image s)
  | storeLoadNoResponse => exact live_keeps h (loadNoResponse_keeps s)
  | encPulse => exact live_keeps_of_view h (encPulse_view s)
  | speedWindowEnd => exact live_keeps h (endWindow_keeps s)
  | beltStill => exact live_keeps h (beltStill_keeps s)
  | longPoint => exact live_keeps h (reachLongPoint_keeps s)
  | blockedPoint => exact live_keeps h (reachBlockedPoint_keeps s)
  | expiryPoint id eye => exact live_keeps h (reachExpiry_keeps id eye s)
  | setupPoint id gate => exact live_keeps_of_view h (reachSetupPoint_view id gate s)
  | releasePoint gate => exact live_keeps_of_view h (releaseIfDue_view gate s)
  | flash => exact live_keeps h (takeFlash_keeps s)
  | pairPoint => exact live_keeps h (reachPairPoint_keeps s)
  | verdictLimit => exact live_keeps h (reachVerdictLimit_keeps s)
  | fireStart head => exact live_keeps h (reachFireStart_keeps head s)
  | fireEnd head => exact live_keeps h (reachFireEnd_keeps head s)
  | recoveryEnd head => exact live_keeps h (reachRecoveryEnd_keeps head s)
  | pocketDecisionPoint id => exact live_keeps h (reachDecision_keeps id s)
  | sampleReturn face upper lower => exact live_keeps h (sampleReturn_keeps face upper lower s)
  | timeout face => exact live_keeps h (sampleTimeout_keeps face s)
  | calibrationFlash => exact live_keeps_of_view h (calibrationFlash_view s)
  | settleEnd => exact live_keeps_of_view h (endSettle_view s)
  | wake => exact live_keeps_of_view h (completeWake_view s)
  | startTimeout => exact live_keeps h (startTimeout_keeps s)
  | drainTimeout => exact live_keeps h (drainTimeout_keeps s)
  | stopFail => exact live_keeps h (stopFail_keeps s)
  | sweepButton k => exact live_keeps h (pressSweep_keeps k s)
  | goodFrame rx => exact live_keeps h (receiveOver_keeps _ _ s)
  | badFrame rx e => exact live_keeps h (receiveOver_keeps _ _ s)
  | interByteTimeout => exact live_keeps_of_view h (interByteTimeout_view s)
  | unknownKind => exact live_keeps h (dispatchUnknown_keeps s)
  | replySend => exact live_keeps h (sendReply_keeps s)
  | eventNotice => exact live_keeps_of_view h (sendNotice_view s)
  | letterReportSend => exact live_keeps h (sendReport_keeps s)
  | softReset => exact live_keeps h (actReset_keeps s)
  | reset =>
    unfold exec execReset at h
    exact live_keeps h (execReset_keeps s)
  | storeNotBusy => exact live_keeps_of_view h (storeNotBusy_view s)
  | storePageDone => exact live_keeps_of_view h (storePageDone_view s)
  | storeWriteNoResponse => exact live_keeps_of_view h (storeWriteNoResponse_view s)
  | storeVerifyDone bs => exact live_keeps_of_view h (storeVerifyDone_view bs s)
  | identify => exact request_keeps h ownIdentify_reads.serves
  | getStatus => exact request_keeps h ownGetStatus_reads.serves
  | getPostmark => exact request_keeps h ownGetPostmark_reads.serves
  | readChannels => exact request_keeps h ownReadChannels_reads.serves
  | readCapture => exact request_keeps h ownReadCapture_reads.serves
  | readPockets => exact request_keeps h ownReadPockets_reads.serves
  | readTallies => exact request_keeps h ownReadTallies_reads.serves
  | getField => exact request_keeps h ownGetField_reads.serves
  | poll => exact request_keeps h ownPoll_serves
  | start => exact request_keeps h fun r s => ownStart_cases r (.refl s) enterStarting_serves
  | stop => exact request_keeps h fun r s => ownStop_cases r (.refl s) enterStopping_serves
  | standby => exact request_keeps h fun r s => ownStandby_cases r (.refl s) enterStandby_serves
  | clearFault => exact request_keeps h fun r s => ownClearFault_cases r (.refl s) clearedFault_serves
  | holdFeed => exact request_keeps h fun _ => setOperator_serves true
  | releaseFeed => exact request_keeps h fun _ => setOperator_serves false
  | headReset =>
    exact request_keeps h fun r s => ownHeadReset_cases r (.refl s) fun hd _ => changedHead_serves hd (by simp) s
  | headDisable =>
    exact request_keeps h fun r s => ownHeadDisable_cases r (.refl s)
      (fun hd => emptiedHead_serves hd (by simp) s) fun hd => emptiedHead_serves hd (by simp) s
  | headEnable =>
    exact request_keeps h fun r s => ownHeadEnable_cases r (.refl s)
      (fun hd => changedHead_serves hd (by simp) s) fun hd => changedHead_serves hd (by simp) s
  | setPostmark =>
    exact request_keeps h fun r s => ownSetPostmark_cases r (.refl s) fun _ _ _ _ => serves_of_view rfl rfl
  | calibrate => exact request_keeps h fun r s => ownCalibrate_cases r (.refl s) fun _ => serves_of_view rfl rfl
  | armCapture =>
    exact request_keeps h fun r s => ownArmCapture_cases r (.refl s) fun _ _ =>
      serves_of (keeps_of_sampling rfl (fun _ => ⟨by simp, fun _ => by simp [Config.captureCapacity]⟩) id) rfl
  | setCounterSource =>
    exact request_keeps h fun r s => ownSetCounterSource_cases r (.refl s) fun _ _ =>
      serves_of_view (updateChans_view ..) (by simp)
  | channelReset =>
    exact request_keeps h fun r s => ownChannelReset_cases r (.refl s) fun _ _ =>
      serves_of_view (updateChans_view ..) (by simp)
  | sweep =>
    exact request_keeps h fun r s => ownSweep_cases r (.refl s) fun k hk =>
      serves_of (beginDraining_keeps _ (sweepRefusal_slotFree hk)) (by simp)
  | pocketOut => exact request_keeps h fun r s => ownPocketOut_cases r (.refl s) fun _ hb => pocketOut_serves hb s
  | pocketIn =>
    exact request_keeps h fun r s => ownPocketIn_cases r (.refl s) fun k => serves_of (bringIn_keeps k s) (by simp)
  | takeTray => exact request_keeps h fun r s => ownTakeTray_cases r (.refl s) fun _ _ => takenTray_serves
  | clearShift => exact request_keeps h fun r s => ownClearShift_cases r (.refl s) (serves_of_view rfl rfl)
  | setField =>
    exact request_keeps h fun r s => ownSetField_cases r (.refl s) fun _ v hw =>
      serves_of (fieldEffects_keeps v hw) (by simp)
  | writeProfile => exact request_keeps h fun r s => ownWriteProfile_cases r (.refl s) (serves_of_view rfl rfl)
  | setEventMask =>
    exact request_keeps h fun r s => ownSetEventMask_cases r (.refl s) fun m => serves_of_view (setMask_view m s) rfl
  | clearEvents => exact request_keeps h fun r s => ownClearEvents_cases r (.refl s) fun _ => ⟨.refl _, rfl⟩
  | setReportMode =>
    exact request_keeps h fun r s => ownSetReportMode_cases r (.refl s) fun _ => serves_of_view rfl rfl

theorem step_keeps {s t : State} (h : step s = .next t) : Keeps (keptView s) (keptView t) := by
  unfold step at h
  split at h
  · cases h
    rw [endSending_view]
    exact .refl _
  · next c rest _ => exact exec_keeps (s := s.withPending rest) h

/-- Settles O55: the capacities, on the view of the state, are kept by every command. -/
theorem capacityInvariant : Obligations.CapacityInvariant := by
  intro s t hw h
  rw [withinCapacity_iff] at hw ⊢
  exact (step_keeps h).within hw

/-- Settles O56: the feed hold set, on the view of the state, is kept by every command. -/
theorem holdSetInvariant : Obligations.HoldSetInvariant := by
  intro s t hk h
  rw [holdSetKept_iff] at hk ⊢
  exact (step_keeps h).holds hk

end Sys2Proof.Machine
end

section
/-! The resets: what they leave and clear, and the invariants that hold after one. -/

namespace Sys2Proof.Machine

/-! ### The pin reset (R199) -/

/-- Held in reset, a command other than the pin's own changes nothing but the levels kept of the input pins. -/
theorem onPin_held {level : Inputs → Inputs} {event : State → State} {s : State} (h : s.inReset = true) :
    onPin level event s = .next { s with inputs := level s.inputs } := if_pos h

theorem exec_held {c : Instr} {s : State} (h : s.inReset = true) (he : ∀ b, c ≠ .eyeLeEdge ⟨.e0, b⟩)
    (ha : c ≠ .resetNAssert) (hr : ∀ straps, c ≠ .resetNRelease straps) :
    ∃ i, exec c s = .next { s with inputs := i } := by
  cases c with
  | resetNAssert => exact absurd rfl ha
  | resetNRelease straps => exact absurd rfl (hr straps)
  | e0LeEdge =>
    simp only [exec, execE0LeEdge]
    split
    · exact ⟨s.inputs, rfl⟩
    · exact ⟨_, onPin_held h⟩
  | e0TeEdge =>
    simp only [exec, execE0TeEdge]
    split
    · exact ⟨_, onPin_held h⟩
    · exact ⟨s.inputs, rfl⟩
  | eyeLeEdge edge =>
    simp only [exec, execEyeLeEdge]
    split
    · next e => exact absurd (congrArg Instr.eyeLeEdge (show edge = ⟨.e0, edge.blocked⟩ by rw [← e])) (he _)
    · split
      · exact ⟨s.inputs, rfl⟩
      · exact ⟨_, onPin_held h⟩
  | headFault _ _ => exact ⟨_, if_pos h⟩
  | estop _ => exact ⟨_, if_pos h⟩
  | feedloadActive => exact ⟨_, if_pos h⟩
  | feedloadInactive => exact ⟨_, if_pos h⟩
  | trayRemoved _ => exact ⟨_, if_pos h⟩
  | trayInserted _ => exact ⟨_, if_pos h⟩
  | sweepButtonChange _ _ => exact ⟨_, if_pos h⟩
  | _ => exact ⟨s.inputs, if_pos h⟩

theorem execResetNRelease_out {straps : Straps} {s : State} (h : s.inReset = false) :
    exec (.resetNRelease straps) s = .next s := by
  change execResetNRelease straps s = _
  simp [execResetNRelease, h]

theorem execResetNRelease_held {straps : Straps} {s : State} (h : s.inReset = true) :
    exec (.resetNRelease straps) s = .next (.pinReset s.inputs straps s.pending) := if_pos h

theorem gateOf_pinReset (inputs : Inputs) (straps : Straps) (pending : List Instr) (g : GateId) :
    gateOf g (.pinReset inputs straps pending) = ⟨none, false⟩ := by
  change (Vector.replicate 10 Gate.atRest)[gateIdx g] = _
  simp only [Fin.getElem_fin, Vector.getElem_replicate]
  rfl

theorem tally_pinReset (inputs : Inputs) (straps : Straps) (pending : List Instr) (x : Tally) :
    tally x (.pinReset inputs straps pending) = 0 := by
  change (Vector.replicate 34 0)[x.idx] = 0
  simp

theorem pocket_pinReset (inputs : Inputs) (straps : Straps) (pending : List Instr) (k : PocketNo) :
    (State.pinReset inputs straps pending).pkm.pockets[k] = .initial := by
  change (Vector.replicate 10 Pocket.initial)[k] = _
  simp only [Fin.getElem_fin, Vector.getElem_replicate]

/-- Settles O3: the four parts are the model's equations of the reset pin; the pins negate by `inReset` itself. -/
theorem pinResetHoldsAndReleases : Obligations.PinResetHoldsAndReleases := by
  unfold Obligations.PinResetHoldsAndReleases
  refine ⟨fun s => rfl, fun c s h he ha hr => exec_held h he ha hr, fun s h => ?_, fun straps s => ⟨?_, fun h => ?_⟩⟩
  · simp [feedPin, transportRunPin, attnPin, dePin, txdAtMark, spiCsHigh, firePin, gatePin, shutterPin, h]
  · exact execResetNRelease_out
  · refine ⟨_, execResetNRelease_held h, rfl, rfl, rfl, rfl, rfl,
      ⟨rfl, rfl, rfl, rfl, rfl, rfl, rfl, rfl, gateOf_pinReset _ _ _⟩,
      ⟨?_, rfl, rfl, rfl, ?_, ?_⟩, ⟨rfl, rfl, rfl, rfl, rfl, ?_⟩, ⟨rfl, tally_pinReset _ _ _, fun k => ?_⟩, ?_, ?_, ?_⟩
    · intro c
      cases c <;> exact ⟨rfl, rfl, rfl, rfl, rfl, rfl⟩
    · intro f
      cases f <;> rfl
    · intro f
      cases f <;> rfl
    · intro hd
      cases hd <;> exact ⟨rfl, rfl, rfl, rfl, rfl, rfl⟩
    · rw [pocket_pinReset]
      exact ⟨rfl, rfl, rfl, rfl, rfl, rfl, rfl, rfl⟩
    · and_intros <;> rfl
    · and_intros <;> rfl
    · and_intros <;> rfl

/-! ### The invariants after reset -/

/-- Settles O53: after reset nothing is listed, queued, held or counted. -/
theorem resetMeetsInvariants : Obligations.ResetMeetsInvariants := by
  unfold Obligations.ResetMeetsInvariants
  have hcap : WithinCapacity State.reset := (withinCapacity_iff _).2 (pinReset_within ..)
  have hhold : HoldSetKept State.reset := (holdSetKept_iff _).2 (pinReset_holds ..)
  have hpost : PostmarkInOrder State.reset := ⟨nofun, by decide, by decide, nofun, nofun⟩
  have hlist : ListKept State.reset := ⟨fun _ _ => rfl, nofun, nofun⟩
  have haccount : AccountKept State.reset := by
    have hl : State.reset.trk.letters = [] := rfl
    refine ⟨by simp [hl], by simp [hl], nofun, fun k => ?_, fun h => absurd rfl h, fun _ _ k => ?_, fun _ _ _ _ => ?_⟩
    · rw [State.reset, pocket_pinReset]
      rfl
    · rw [State.reset, pocket_pinReset]
      rfl
    · simp only [State.reset, tally_pinReset]
      decide
  have hreason : FaultReasonKept State.reset := iff_of_false (by decide) (by decide)
  exact ⟨hreason, hcap, hpost, hhold, hlist, haccount⟩

/-! ### RESET and the soft reset (R178, R198) -/

theorem pushAnswers_eq (a : Answer) (l : List Request) (s : State) :
    l.foldl (fun s r => pushAnswer r.kind r.tag a s) s =
      { s with lki := { s.lki with replies := s.lki.replies ++ l.map fun r => placeOf r a } } := by
  induction l generalizing s with
  | nil => simp
  | cons r l ih =>
    rw [List.foldl_cons, ih, pushAnswer_eq]
    simp

/-- The owner of RESET accepts in STOPPED, in STANDBY, and in FAULTED with the belt still (R178). -/
theorem ownReset_accepts {r : Request} {s : State}
    (h : s.lnc.line = .stopped ∨ s.lnc.line = .standby ∨ (s.lnc.line = .faulted ∧ s.trk.moving = false)) :
    ownReset r s = (updateLink (fun k => { k with resetPending := true }) s, .ok false []) := by
  rcases h with h | h | ⟨h, hm⟩
  · simp [ownReset, h]
  · simp [ownReset, h]
  · simp [ownReset, h, hm]

theorem ownReset_refuses {r : Request} {s : State}
    (h : ¬ (s.lnc.line = .stopped ∨ s.lnc.line = .standby ∨ (s.lnc.line = .faulted ∧ s.trk.moving = false))) :
    ownReset r s = (s, .error .wrongState 0) := by
  obtain ⟨h1, h2, h3⟩ : s.lnc.line ≠ .stopped ∧ s.lnc.line ≠ .standby ∧
      (s.lnc.line = .faulted → s.trk.moving = true) := by
    simpa using h
  simp only [ownReset, refuse]
  cases hl : s.lnc.line <;> simp_all

theorem exec_reset {r : Request} {rest : List Request} {s : State} (h : Served .reset r rest s) :
    exec .reset s = .next (answerBehind (pushAnswer r.kind r.tag (ownReset r (taken rest s)).2
      (ownReset r (taken rest s)).1)) := by
  change live (fun s => answerBehind (dispatch .reset ownReset s)) s = _
  rw [live_out h.out, dispatch_ready h.toReady, serve_served h]
  rfl

/-- RESET finds no reply waiting: it is dispatched with the reply queue empty (R178). -/
theorem Served.noReplies {r : Request} {rest : List Request} {s : State} (h : Served .reset r rest s) :
    s.lki.replies = [] := by
  have hd := h.room
  simp only [dispatchable, replyRoom, h.kind, if_true, Bool.and_eq_true, List.isEmpty_iff] at hd
  exact hd.2

theorem softReset_chan (s : State) (c : Chan) : (softReset s).lch.chans.get c = .initial := by
  cases c <;> rfl

theorem softReset_head (s : State) (h : Head) : (softReset s).cnu.heads.get h =
    { HeadUnit.initial (s.inputs.headFault.get h) with hdata := (s.cnu.heads.get h).hdata } := by
  cases h <;> rfl

/-- Settles O15: RESET by its owner and the answers behind it, the soft reset by the equations of `softReset`. -/
theorem softResetActs : Obligations.SoftResetActs := by
  unfold Obligations.SoftResetActs
  refine ⟨fun r rest s h => ⟨fun hl => ?_, fun hl => ?_⟩, fun s ho => ⟨fun hw => ?_, fun hp hr => ?_⟩⟩
  · rw [exec_reset h, ownReset_accepts (s := taken rest s) hl, pushAnswer_eq]
    simp only [answerBehind, taken, updateLink, if_true, pushAnswers_eq, h.noReplies]
    simp [placeOf, answerFrame, h.kind]
    exact ⟨⟨by decide, by decide⟩, fun _ _ => ⟨by decide, by decide⟩⟩
  · rw [exec_reset h, ownReset_refuses (s := taken rest s) hl, pushAnswer_eq]
    simp [answerBehind, taken, updateLink, h.noReset, refused, answered]
  · change live actReset s = _
    rw [live_out ho, actReset, if_neg]
    rintro ⟨h1, h2⟩
    rcases hw with hw | hw
    · simp [hw] at h1
    · exact hw h2
  · refine ⟨softReset s, ?_, rfl, ?_, ⟨rfl, rfl, rfl⟩, rfl, rfl, rfl, rfl, rfl, ⟨rfl, rfl, rfl, rfl, rfl⟩, ?_,
      rfl, rfl, rfl, ?_, ?_, ⟨rfl, rfl, rfl, rfl⟩, ?_⟩
    · change live actReset s = _
      rw [live_out ho, actReset, if_pos ⟨hp, hr⟩]
    · intro c
      rw [softReset_chan]
      exact ⟨rfl, rfl, rfl, rfl, rfl, rfl⟩
    · intro hd
      rw [softReset_head]
      exact ⟨rfl, rfl, rfl, rfl, rfl, rfl⟩
    · and_intros <;> rfl
    · and_intros <;> rfl
    · intro b hb
      cases b <;> simp at hb <;> rfl

end Sys2Proof.Machine
end

section
/-! The belt: its speed windows, its pulses, and its coming to rest. -/

namespace Sys2Proof.Machine

/-! ### A speed window's end (R3, R151, R156) -/

/-- The state at the end of a window, with the new speed and before its supervision. -/
def windowed (s : State) : State :=
  { s with trk := { s.trk with speed := s.trk.windowCount * 100, windowCount := 0 } }

theorem exec_speedWindowEnd {s : State} (h : s.inReset = false) :
    exec .speedWindowEnd s = .next (superviseSpeed (windowed s)) := live_out h endWindow

theorem superviseSpeed_other {u : State} (h1 : u.lnc.line ≠ .starting) (h2 : u.lnc.line ≠ .running)
    (h3 : ¬ (u.lnc.line = .stopping ∧ u.lnc.stopTimer = none)) : superviseSpeed u = u := by
  simp only [superviseSpeed]
  split
  · next h => exact absurd h h1
  · next h => exact absurd h h2
  · next h =>
    split
    · next ht => exact absurd ⟨h, by simpa using ht⟩ h3
    · rfl
  all_goals rfl

/-- In STARTING the windows at speed are counted, and the start condition is tested (R151). -/
theorem superviseSpeed_starting {u : State} (h : u.lnc.line = .starting) (n : Nat)
    (hn : n = if u.prl.profile.minSpeed ≤ u.trk.speed then min (u.lnc.atSpeed + 1) 10 else 0) :
    superviseSpeed u = checkStart (updateLine (fun c => { c with atSpeed := n }) u) := by
  subst hn
  simp [superviseSpeed, h, Config.windowsAtSpeed, updateLine]

/-- In RUNNING and in the drain phase the windows below speed are counted, and the twentieth is SPEED_LOW (R156). -/
theorem superviseSpeed_supervises {u : State}
    (h : u.lnc.line = .running ∨ (u.lnc.line = .stopping ∧ u.lnc.stopTimer = none)) (n : Nat)
    (hn : n = if u.prl.profile.minSpeed ≤ u.trk.speed then 0 else u.lnc.below + 1) : superviseSpeed u =
      if 20 ≤ n then enterFaulted .speedLow (updateLine (fun c => { c with below := n }) u)
      else updateLine (fun c => { c with below := n }) u := by
  subst hn
  rcases h with h | ⟨h, ht⟩
  · simp [superviseSpeed, h, Config.windowsBelowSpeed]
  · simp [superviseSpeed, h, ht, Config.windowsBelowSpeed]

theorem allLocked_iff (s : State) : allLocked s = true ↔ ∀ c, (s.lch.chans.get c).state = .locked := by
  simp only [allLocked, List.all_eq_true, beq_iff_eq]
  constructor
  · intro h c
    exact h c (by cases c <;> decide)
  · intro h c _
    exact h c

theorem checkStart_waits {u : State} (h : u.lnc.atSpeed < 10 ∨ ∃ c, (u.lch.chans.get c).state ≠ .locked) :
    checkStart u = u := by
  rw [checkStart, if_neg]
  rintro ⟨-, hs, hl⟩
  rcases h with h | ⟨c, hc⟩
  · have hs : 10 ≤ u.lnc.atSpeed := of_decide_eq_true hs
    omega
  · exact hc ((allLocked_iff u).1 hl c)

theorem checkStart_starts {u : State} (h : u.lnc.line = .starting) (hs : u.lnc.atSpeed = 10)
    (hl : ∀ c, (u.lch.chans.get c).state = .locked) : checkStart u = enterRunning u := by
  rw [checkStart, if_pos ⟨h, by simp [speedMet, hs, Config.windowsAtSpeed], (allLocked_iff u).2 hl⟩]

/-- The window counts are no part of an entry to FAULTED. -/
theorem FaultedEntry.of_below {cause : LineCause} {n : Nat} {u t : State}
    (h : FaultedEntry cause (updateLine (fun c => { c with below := n }) u) t) : FaultedEntry cause u t :=
  ⟨h.line, h.reason, h.timers, h.operator, h.events, h.letters, h.measuring, h.gates, h.belt, h.contexts, h.sampling,
    h.channels, h.capture, h.heads, h.postmark, h.losses, h.tallies, h.pockets, h.log, h.reports, h.dropped, by
      intro b hb
      have := h.kept b hb
      cases b <;> simp at hb <;> exact this⟩

/-- Settles O21: the supervision by its equation in each line state. -/
theorem speedWindowSupervises : Obligations.SpeedWindowSupervises := by
  unfold Obligations.SpeedWindowSupervises
  intro s ho u hu
  have he : exec .speedWindowEnd s = .next (superviseSpeed u) := by rw [exec_speedWindowEnd ho, hu]; rfl
  have hl : u.lnc = s.lnc := by rw [hu]
  have hp : u.prl = s.prl := by rw [hu]
  have hc : u.lch = s.lch := by rw [hu]
  rw [he, ← hl, ← hp, ← hc]
  refine ⟨fun h1 h2 h3 => by rw [superviseSpeed_other h1 h2 h3], fun h => ⟨fun hs => ?_, fun hs hw => ?_,
    fun hs h9 hk => ?_⟩,
    fun h => ⟨fun hs => ?_, fun hs hn => ?_, fun hs hn => ?_⟩⟩
  · rw [superviseSpeed_starting h 0 (by rw [if_neg (by omega)]), checkStart_waits (.inl (by simp))]
    rfl
  · rw [superviseSpeed_starting h (min (u.lnc.atSpeed + 1) 10) (by rw [if_pos hs]), checkStart_waits]
    · rfl
    · rcases hw with hw | hw
      · exact .inl (by simp only [updateLine_lnc]; omega)
      · exact .inr hw
  · have h10 : 10 = min (u.lnc.atSpeed + 1) 10 := by omega
    rw [superviseSpeed_starting h 10 (by rw [if_pos hs, ← h10]),
      checkStart_starts (u := updateLine (fun c => { c with atSpeed := 10 }) u) h rfl hk]
    rfl
  · rw [superviseSpeed_supervises h 0 (by rw [if_pos hs]), if_neg (by omega)]
    rfl
  · rw [superviseSpeed_supervises h (u.lnc.below + 1) (by rw [if_neg (by omega)]), if_neg (by omega)]
    rfl
  · rw [superviseSpeed_supervises h (u.lnc.below + 1) (by rw [if_neg (by omega)]), if_pos hn]
    refine ⟨_, rfl, FaultedEntry.of_below (enterFaulted_entry ?_ ?_)⟩
    · simp only [updateLine_lnc]
      rcases h with h | ⟨h, -⟩ <;> simp [h]
    · simp only [updateLine_lnc]
      rcases h with h | ⟨h, -⟩ <;> simp [h]

/-! ### A belt pulse (R1, R3, R4, R30) -/

theorem exec_encPulse {s : State} (h : s.inReset = false) : exec .encPulse s = .next (encPulse s) := live_out h encPulse

theorem succ_eq_ofNat (x : Pos) : x + 1 = BitVec.ofNat 32 (x.toNat + 1) := by
  apply BitVec.eq_of_toNat_eq
  simp [BitVec.toNat_add]

/-! ### The belt comes to rest (R4, R39, R116, R159) -/

theorem exec_beltStill {s : State} (h : s.inReset = false) : exec .beltStill s = .next (beltStill s) :=
  live_out h beltStill

/-- The belt read still. -/
def atRest (s : State) : State := { s with trk := { s.trk with moving := false } }

theorem beltStill_only {s : State} (hm : s.trk.moving = true) (hf : s.lnc.line ≠ .faulted)
    (hs : ¬ (s.lnc.line = .stopping ∧ s.lnc.stopTimer.isSome = true)) : beltStill s = atRest s := by
  simp only [beltStill, hm, if_true]
  split
  · next h => rw [if_neg fun ht => hs ⟨h, ht⟩]; rfl
  · next h => exact absurd h hf
  all_goals rfl

theorem beltStill_stopped {s : State} (hm : s.trk.moving = true) (h : s.lnc.line = .stopping)
    (ht : s.lnc.stopTimer.isSome = true) : beltStill s = enterStopped (atRest s) := by
  simp [beltStill, hm, h, ht, atRest]

theorem beltStill_faulted {s : State} (hm : s.trk.moving = true) (h : s.lnc.line = .faulted) :
    beltStill s = settleFaulted (atRest s) := by
  simp [beltStill, hm, h, atRest]

theorem toIdle_get (x : PerChan Channel) (c : Chan) : (x.map Channel.toIdle).get c =
    if (x.get c).state.isFault then x.get c else { x.get c with state := .idle, quiet := 0, noisy := 0 } := by
  rw [PerChan.get_map]
  rfl

/-- A head at stillness in FAULTED has no recovery left (R116). -/
theorem settle_parts (u : HeadUnit) : u.settle.recoveryEnd = none ∧ u.settle.recoveringFrom = none ∧
    u.settle.state = if u.state = .recovering then if u.offPending then .off else .ready else u.state := by
  by_cases hr : u.state = .recovering
  · cases ho : u.offPending <;> simp [HeadUnit.settle, HeadUnit.recovered, hr, ho]
  · simp [HeadUnit.settle, HeadUnit.recovered, hr]

/-- Settles O22: a pulse by its equation, stillness by what it does in each line state. -/
theorem beltPulseAndStillness : Obligations.BeltPulseAndStillness := by
  unfold Obligations.BeltPulseAndStillness
  refine ⟨fun s ho => ?_, fun s ho => ⟨fun hm => ?_, fun hm hf hs => ?_, fun hm h ht => ?_, fun hm h => ?_⟩⟩
  · rw [exec_encPulse ho, ← succ_eq_ofNat]
    rfl
  · rw [exec_beltStill ho, beltStill, if_neg (by simp [hm])]
  · rw [exec_beltStill ho, beltStill_only hm hf hs]
    rfl
  · refine ⟨_, exec_beltStill ho, ?_⟩
    rw [beltStill_stopped hm h ht]
    refine ⟨rfl, rfl, toIdle_get s.lch.chans, rfl, rfl, rfl, rfl, ⟨rfl, rfl⟩, fun b hb => ?_⟩
    cases b <;> simp at hb <;> rfl
  · refine ⟨_, exec_beltStill ho, ?_⟩
    rw [beltStill_faulted hm h]
    obtain ⟨hl, hr, -⟩ := lineView_line (settleFaulted_lineView (atRest s))
    refine ⟨by simp [atRest], fun c => ?_, fun hd => ?_, ?_, ?_, fun b hb => ?_⟩
    · rw [← toIdle_get]
      simp [settleFaulted, atRest]
    · have hh := settleHeads_head (idleChannels (atRest s)) hd
      obtain ⟨h1, h2, h3⟩ := settle_parts (s.cnu.heads.get hd)
      rw [settleFaulted, hh]
      exact ⟨h1, h2, h3⟩
    · exact hl.trans h
    · exact hr
    · cases b <;> simp at hb <;> simp [Same, atRest]

end Sys2Proof.Machine
end

section
/-! Letters at the eyes: the record an induction makes, what an edge at a later eye does, and the jams. -/

namespace Sys2Proof.Machine

/-! ### Tallies -/

/-- The tallies in the order of the table of R141. -/
def tallyOrder : List Tally :=
  [.inducted, .stamp .o1, .stamp .o2, .stamp .o3, .stamp .o4, .meter .o1, .meter .o2, .meter .o3, .meter .o4,
    .noTag, .ambiguous, .reject .short, .reject .long, .reject .close, .reject .closePair, .reject .blind, .printed,
    .missed, .cancelFaulted, .headDown] ++ allPockets.map .delivered ++ [.lostFault, .lostNoTray, .traysClosed,
      .traysLostLog]

theorem tallyOrder_idx (x : Tally) : tallyOrder[x.idx.val]? = some x := by
  cases x with
  | stamp o => cases o <;> rfl
  | meter o => cases o <;> rfl
  | reject r => cases r <;> rfl
  | delivered k => revert k; decide
  | _ => rfl

theorem Tally.idx_inj {x y : Tally} : x.idx = y.idx ↔ x = y := by
  refine ⟨fun h => ?_, fun h => by rw [h]⟩
  have hx := tallyOrder_idx x
  rw [h, tallyOrder_idx y] at hx
  exact (Option.some.inj hx).symm

theorem tally_bump (x y : Tally) (s : State) :
    tally x (bump y s) = if x = y then min (tally y s + 1) 4294967295 else tally x s := by
  simp only [tally, bump, Config.tallyCeiling]
  split
  · next h => simp [h]
  · next h =>
    have hv : (y.idx : Nat) ≠ x.idx := fun e => h (Tally.idx_inj.1 (Fin.ext e.symm))
    simp [hv]

theorem tally_of_pkm {s t : State} (h : t.pkm = s.pkm) (x : Tally) : tally x t = tally x s := by
  rw [tally, tally, h]

/-! ### Induction (R8, R9, R10, R16) -/

theorem exec_e0LeEdge {s : State} (ho : s.inReset = false) (he : s.inputs.e0 = false) :
    exec .e0LeEdge s = .next (e0LeadingEdge { s with inputs := { s.inputs with e0 := true } }) := by
  change execE0LeEdge s = _
  simp [execE0LeEdge, onPin, he, ho]

theorem e0LeadingEdge_discarded {s : State} (h : s.lnc.line = .loading ∨ s.lnc.line = .faulted) :
    e0LeadingEdge s = s := by
  rcases h with h | h <;> simp [e0LeadingEdge, h]

theorem e0LeadingEdge_inducts {s : State} (h : s.lnc.line = .running ∨ s.lnc.line = .stopping)
    (hr : s.trk.letters.length < 48) : e0LeadingEdge s = induct s := by
  have hc : ¬ Config.listCapacity ≤ s.trk.letters.length := by simp only [Config.listCapacity]; omega
  rcases h with h | h <;> simp only [e0LeadingEdge, h, if_neg hc]

theorem e0LeadingEdge_overflows {s : State} (h : s.lnc.line = .running ∨ s.lnc.line = .stopping)
    (hr : 48 ≤ s.trk.letters.length) : e0LeadingEdge s = enterFaulted .trackOverflow s := by
  have hc : Config.listCapacity ≤ s.trk.letters.length := hr
  rcases h with h | h <;> simp only [e0LeadingEdge, h, if_pos hc]

theorem e0LeadingEdge_strays {s : State}
    (h : s.lnc.line = .stopped ∨ s.lnc.line = .standby ∨ s.lnc.line = .starting) :
    e0LeadingEdge s = enterFaulted (.jam ⟨.stray, .e0, none⟩) s := by
  rcases h with h | h | h <;> simp [e0LeadingEdge, h, jam]

/-- The state with the new record counted and LIST_HIGH tested, before a drain resumes. -/
def inducted (s : State) : State := refreshListHigh (bump .inducted (addRecord (newLetter s) s))

theorem induct_unheld {s : State} (h : s.held = none) : induct s = resumeDrain (inducted s) := by
  have hh : (inducted s).held = none := by simp [inducted, h]
  change resumeDrain (endHold (newLetter s).flags.close (inducted s)) = _
  rw [endHold, heldLetter, hh]
  rfl

theorem inducted_lnc (s : State) : (inducted s).lnc =
    { s.lnc with hold := { s.lnc.hold with listHigh := decide (44 ≤ s.trk.letters.length + 1) } } := by
  have hl : (addRecord (newLetter s) s).trk.letters.length = s.trk.letters.length + 1 := by simp [addRecord]
  simp only [inducted, refreshListHigh, setHold_lnc, Config.listHigh]
  change { s.lnc with hold := { s.lnc.hold with
    listHigh := decide (44 ≤ (addRecord (newLetter s) s).trk.letters.length) } } = _
  rw [hl]

theorem resumeDrain_hold (s : State) :
    (resumeDrain s).lnc.hold = s.lnc.hold ∧ (resumeDrain s).lnc.line = s.lnc.line := by
  unfold resumeDrain
  split
  · split <;> exact ⟨rfl, rfl⟩
  all_goals exact ⟨rfl, rfl⟩

theorem resumeDrain_resumes {s : State} {ms : Nat} (hl : s.lnc.line = .stopping) (hd : s.lnc.drainTimer = .held ms) :
    (resumeDrain s).lnc = { s.lnc with stopTimer := none, drainTimer := .running ms, below := 0 } := by
  simp [resumeDrain, hd, hl, updateLine]

/-- Settles O23: the edge inducts, with no held verdict to end, and each part is that of one of its operations. -/
theorem inductionMakesRecord : Obligations.InductionMakesRecord := by
  unfold Obligations.InductionMakesRecord
  intro s ho he
  refine ⟨fun hl => ?_, fun hl hr hh => ?_⟩
  · rw [exec_e0LeEdge ho he, e0LeadingEdge_discarded (by exact hl)]
  · refine ⟨_, exec_e0LeEdge ho he, ?_⟩
    generalize hu : ({ s with inputs := { s.inputs with e0 := true } } : State) = u
    have huh : u.held = none := by rw [← hu]; exact hh
    have hul : u.lnc = s.lnc := by rw [← hu]
    have hut : u.trk = s.trk := by rw [← hu]
    have hup : u.pkm = s.pkm := by rw [← hu]
    rw [e0LeadingEdge_inducts (hul ▸ hl) (hut ▸ hr), induct_unheld huh]
    obtain ⟨hhold, hline⟩ := resumeDrain_hold (inducted u)
    have hpkm : (resumeDrain (inducted u)).pkm = (bump .inducted u).pkm := by simp [inducted, bump, addRecord]
    refine ⟨by simp [inducted, ← hu, addRecord], ?_, ?_, fun x hx => ?_, ?_, ?_, fun ms h1 h2 => ?_, fun b hb => ?_⟩
    · have ht : (resumeDrain (inducted u)).trk = (addRecord (newLetter u) u).trk := by simp [inducted]
      rw [ht, ← hu]
      simp only [addRecord, newLetter]
      cases s.trk.lastTe <;> rfl
    · rw [tally_of_pkm hpkm, tally_bump, if_pos rfl, tally_of_pkm hup]
    · rw [tally_of_pkm hpkm, tally_bump, if_neg hx, tally_of_pkm hup]
    · rw [hhold, inducted_lnc, hul, hut]
    · rw [hline, inducted_lnc, hul]
    · rw [resumeDrain_resumes (ms := ms) (by rw [inducted_lnc, hul]; exact h1) (by rw [inducted_lnc, hul]; exact h2)]
      exact ⟨rfl, rfl, rfl⟩
    · cases b <;> simp at hb <;> simp [Same, inducted, addRecord, ← hu]

/-! ### Edges at the later eyes (R6, R17) -/

theorem exec_eyeLeEdge {s : State} {e : Eye} {b : Bool} (ho : s.inReset = false) (he : e ≠ .e0)
    (hb : s.inputs.blocked e ≠ b) : exec (.eyeLeEdge ⟨e, b⟩) s =
      .next (if b then eyeLeadingEdge e { s with inputs := s.inputs.setEye e b }
        else { s with inputs := s.inputs.setEye e b }) := by
  change execEyeLeEdge ⟨e, b⟩ s = _
  simp only [execEyeLeEdge, if_neg he, if_neg hb, onPin, ho]
  rfl

theorem exec_eyeLeEdge_same {s : State} {e : Eye} {b : Bool} (he : e ≠ .e0) (hb : s.inputs.blocked e = b) :
    exec (.eyeLeEdge ⟨e, b⟩) s = .next s := by
  change execEyeLeEdge ⟨e, b⟩ s = _
  simp only [execEyeLeEdge, if_neg he, if_pos hb]

theorem exec_eyeLeEdge_leading {s : State} {e : Eye} (ho : s.inReset = false) (he : e ≠ .e0)
    (hb : s.inputs.blocked e = false) : exec (.eyeLeEdge ⟨e, true⟩) s =
      .next (eyeLeadingEdge e { s with inputs := s.inputs.setEye e true }) := by
  rw [exec_eyeLeEdge ho he (by simp [hb]), if_pos rfl]

/-- No waiting letter, or one whose expiry point lies ahead: nothing expires before the edge. -/
theorem expireWaiting_none {e : Eye} {s : State} (fuel : Nat)
    (h : ∀ l, waitingAt e s = some l → reached s.trk.belt (expiryPointAt s.prl.profile l e) = false) :
    expireWaiting fuel e s = s := by
  cases fuel with
  | zero => rfl
  | succ n =>
    simp only [expireWaiting]
    split
    · next l hl => rw [if_neg (by simp [h l hl])]
    · rfl

theorem eyeLeadingEdge_outside {e : Eye} {s : State} (h : s.lnc.line.sampling = false) : eyeLeadingEdge e s = s := by
  simp [eyeLeadingEdge, eyeEdgesTaken, h]

theorem eyeLeadingEdge_unexpected {e : Eye} {s : State} (h : s.lnc.line.sampling = true) (hw : waitingAt e s = none) :
    eyeLeadingEdge e s = enterFaulted (.jam ⟨.stray, e, none⟩) s := by
  have hx : expireWaiting (s.trk.letters.length + 1) e s = s := expireWaiting_none _ (by simp [hw])
  simp [eyeLeadingEdge, eyeEdgesTaken, h, hx, hw, jam]

/-- With its expiry point ahead the waiting letter arrives, or is ahead of its window (R17, R18). -/
theorem eyeLeadingEdge_waiting {e : Eye} {s : State} {l : Letter} (h : s.lnc.line.sampling = true)
    (hw : waitingAt e s = some l) (hx : reached s.trk.belt (expiryPointAt s.prl.profile l e) = false) :
    eyeLeadingEdge e s = if reached s.trk.belt (openPoint s.prl.profile l e) then arrive l e s
      else enterFaulted (.jam ⟨.stray, e, some l.id⟩) s := by
  have hn : expireWaiting (s.trk.letters.length + 1) e s = s := expireWaiting_none _ (by simp [hw, hx])
  simp [eyeLeadingEdge, eyeEdgesTaken, h, hn, hw, jam]

/-! ### Jams (R13, R19, R21) -/

theorem sampling_enters {x : LineState} (h : x.sampling = true) : x ≠ .faulted ∧ x ≠ .loading := by
  cases x <;> simp [LineState.sampling] at h <;> simp

theorem exec_expiryPoint {s : State} {id : LetterId} {e : Eye} {l : Letter} (ho : s.inReset = false)
    (hl : findLetter id s = some l) (hs : expiryStands l e = true)
    (hx : reached s.trk.belt (expiryPointAt s.prl.profile l e) = true) :
    exec (.expiryPoint id e) s = .next (expire l e s) := by
  change live (reachExpiry id e) s = _
  rw [live_out ho]
  simp [reachExpiry, hl, hs, hx]

/-- What is read of the records chosen from a list does not see a change that neither the choice nor the reading sees. -/
theorem updateList_filter_map {α : Type} {f : Letter → Letter} {p : Letter → Bool} {g : Letter → α}
    (hp : ∀ l, p (f l) = p l) (hg : ∀ l, g (f l) = g l) (id : LetterId) (ls : List Letter) :
    ((updateList id f ls).filter p).map g = (ls.filter p).map g := by
  induction ls with
  | nil => rfl
  | cons l ls ih =>
    have hpl : p (if l.id == id then f l else l) = p l := by split <;> simp [hp]
    have hgl : g (if l.id == id then f l else l) = g l := by split <;> simp [hg]
    simp only [updateList, List.map_cons, List.filter_cons, hpl] at ih ⊢
    split
    · rw [List.map_cons, List.map_cons, hgl, ih]
    · exact ih

/-- A record with its BLOCKED point taken (R13). -/
def Letter.unblocked (l : Letter) : Letter := { l with blockedPoint := none }

theorem lettersTo_unblocked (k : PocketNo) (id : LetterId) (s : State) :
    lettersTo k (updateLetter id Letter.unblocked s) = lettersTo k s := by
  have h := updateList_filter_map (f := Letter.unblocked) (p := fun l => l.dest.map Destination.pocket == some k)
    (g := fun _ => ()) (fun _ => rfl) (fun _ => rfl) id s.trk.letters
  simpa [lettersTo, updateLetter] using congrArg List.length h

/-- The BLOCKED point of a record is no part of an entry to FAULTED. -/
theorem FaultedEntry.of_unblocked {cause : LineCause} {id : LetterId} {s t : State}
    (h : FaultedEntry cause (updateLetter id Letter.unblocked s) t) : FaultedEntry cause s t := by
  have hto := fun k => lettersTo_unblocked k id s
  have hclose : ∀ k, closesAtFault k (updateLetter id Letter.unblocked s) ↔ closesAtFault k s := by
    intro k
    rw [closesAtFault, hto]
    rfl
  have hreports : lossReports (updateLetter id Letter.unblocked s) = lossReports s :=
    updateList_filter_map (f := Letter.unblocked) (p := fun l => reportCalled s.prl.profile.reportMode l .lostFault)
      (g := fun l => reportOf l .lostFault) (fun _ => rfl) (fun _ => rfl) id s.trk.letters
  have hlosses := h.losses
  have hpockets := h.pockets
  have hlog := h.log
  have hrep := h.reports
  have hdrop := h.dropped
  simp only [List.foldl_const, updateLetter, updateList_length] at hlosses
  simp only [hclose, hto] at hpockets hlog
  rw [hreports] at hrep hdrop
  refine ⟨h.line, h.reason, h.timers, h.operator, h.events, h.letters, h.measuring, h.gates, h.belt, h.contexts,
    h.sampling, h.channels, h.capture, h.heads, h.postmark, ?_, h.tallies, hpockets, hlog, hrep, hdrop, fun b hb => ?_⟩
  · rw [List.foldl_const]
    exact hlosses
  · have hk := h.kept b hb
    cases b <;> simp at hb <;> exact hk

theorem exec_blockedPoint {s : State} {l : Letter} (ho : s.inReset = false) (hl : measuredLetter s = some l)
    (he : s.inputs.e0 = true) (hd : due s.trk.belt l.blockedPoint = true) : exec .blockedPoint s =
      .next (enterFaulted (.jam ⟨.blocked, .e0, some l.id⟩) (updateLetter l.id Letter.unblocked s)) := by
  change live reachBlockedPoint s = _
  rw [live_out ho]
  simp only [reachBlockedPoint, hl, hd, he, and_self, if_true]
  rfl

/-- Settles O24: each of the six is an entry to FAULTED with its cause, from the state of the edge or point. -/
theorem jamsMakeFaulted : Obligations.JamsMakeFaulted := by
  unfold Obligations.JamsMakeFaulted
  intro s ho
  refine ⟨fun he hl => ?_, fun he hl hr => ?_, fun e he hb hs hw => ?_, fun e l he hb hs hw hx hp => ?_,
    fun id e l h1 h2 hl hm ha hd hx => ?_, fun l h1 h2 hl he hd => ?_⟩
  · refine ⟨_, exec_e0LeEdge ho he, ?_⟩
    rw [e0LeadingEdge_strays (by exact hl)]
    exact enterFaulted_entry (by rcases hl with h | h | h <;> simp [h]) (by rcases hl with h | h | h <;> simp [h])
  · refine ⟨_, exec_e0LeEdge ho he, ?_⟩
    rw [e0LeadingEdge_overflows (by exact hl) (by exact hr)]
    exact enterFaulted_entry (by rcases hl with h | h <;> simp [h]) (by rcases hl with h | h <;> simp [h])
  · obtain ⟨h1, h2⟩ := sampling_enters hs
    refine ⟨_, exec_eyeLeEdge_leading ho he hb, ?_⟩
    rw [eyeLeadingEdge_unexpected (by exact hs) (by exact hw)]
    exact enterFaulted_entry h1 h2
  · obtain ⟨h1, h2⟩ := sampling_enters hs
    refine ⟨_, exec_eyeLeEdge_leading ho he hb, ?_⟩
    rw [eyeLeadingEdge_waiting (by exact hs) (by exact hw) (by exact hx), if_neg (by simp [hp])]
    exact enterFaulted_entry h1 h2
  · refine ⟨_, exec_expiryPoint ho hl (by simp [expiryStands, hm, ha]) hx, ?_⟩
    have hu : ¬ (deliveryEye l e && (decide (e ∈ l.arrived) || undeliverable l s)) = true := by
      simp only [ha, decide_false, Bool.false_or, Bool.and_eq_true]
      exact hd
    rw [expire, if_neg hu, findLetter_id hl]
    exact enterFaulted_entry h1 h2
  · exact ⟨_, exec_blockedPoint ho hl he hd, .of_unblocked (enterFaulted_entry h1 h2)⟩

end Sys2Proof.Machine
end

section
/-! The correction at E3: what moves with a letter's position, and what an arrival leaves. -/

namespace Sys2Proof.Machine

/-! ### Gates and their owners -/

theorem allGates_nodup : allGates.Nodup := by decide

theorem mem_allGates (g : GateId) : g ∈ allGates := by
  cases g with
  | g0 => decide
  | g1 => decide
  | bg k => revert k; decide

theorem mem_gatesOwnedBy {id : LetterId} {g : GateId} {s : State} :
    g ∈ gatesOwnedBy id s ↔ ∃ o, (gateOf g s).owner = some o ∧ o.id = id := by
  simp only [gatesOwnedBy, List.mem_filter, mem_allGates, true_and]
  split
  · next o h => simp [h]
  · next h => simp [h]

theorem gatesOwnedBy_nodup (id : LetterId) (s : State) : (gatesOwnedBy id s).Nodup := allGates_nodup.filter _

theorem setGate_other {g k : GateId} (h : k ≠ g) (x : Gate) (s : State) : gateOf k (setGate g x s) = gateOf k s := by
  rw [gateOf_setGate, if_neg (fun e => h (gateIdx_inj.1 e))]

theorem setGate_self (g : GateId) (x : Gate) (s : State) : gateOf g (setGate g x s) = x := by
  rw [gateOf_setGate, if_pos rfl]

theorem gateOf_updateOwner (f : GateOwner → GateOwner) (g k : GateId) (s : State) : gateOf k (updateOwner f g s) =
    if k = g then { gateOf g s with owner := (gateOf g s).owner.map f } else gateOf k s := by
  rw [updateOwner]
  split
  · next h => rw [h, setGate_self]
  · next h => rw [setGate_other h]

/-- A pass that changes the owner of each gate of a list changes those gates alone. -/
theorem gateOf_foldl_updateOwner (f : GateOwner → GateOwner) (gs : List GateId) (hgs : gs.Nodup) (k : GateId)
    (s : State) :
    gateOf k (gs.foldl (fun s g => updateOwner f g s) s) =
      if k ∈ gs then { gateOf k s with owner := (gateOf k s).owner.map f } else gateOf k s := by
  induction gs generalizing s with
  | nil => simp
  | cons g gs ih =>
    obtain ⟨hg, hgs⟩ := List.nodup_cons.1 hgs
    rw [List.foldl_cons, ih hgs, gateOf_updateOwner]
    by_cases h : k = g
    · subst h
      simp [hg]
    · simp [h]

theorem gateOf_moveReleasePoints (id : LetterId) (d : Int) (k : GateId) (s : State) :
    gateOf k (moveReleasePoints id d s) = { gateOf k s with owner := (gateOf k s).owner.map fun o =>
      if o.id = id then { o with release := o.release.map fun p => moveBy p d } else o } := by
  have eta : ∀ x, x = (gateOf k s).owner → gateOf k s = { gateOf k s with owner := x } := by
    rintro _ rfl
    rfl
  rw [moveReleasePoints, gateOf_foldl_updateOwner _ _ (gatesOwnedBy_nodup id s)]
  cases ho : (gateOf k s).owner with
  | none =>
    have hk : k ∉ gatesOwnedBy id s := fun h => by simp [mem_gatesOwnedBy, ho] at h
    rw [if_neg hk]
    exact eta _ (by simp [ho])
  | some o =>
    by_cases hid : o.id = id
    · rw [if_pos (mem_gatesOwnedBy.2 ⟨o, ho, hid⟩)]
      simp [hid]
    · have hk : k ∉ gatesOwnedBy id s := fun h => by
        obtain ⟨x, hx, hxid⟩ := mem_gatesOwnedBy.1 h
        rw [ho] at hx
        exact hid (Option.some.inj hx ▸ hxid)
      rw [if_neg hk]
      exact eta _ (by simp [ho, hid])

/-- The tracker without its gates. -/
def ungated (s : State) : Tracker := { s.trk with gates := Vector.replicate 10 .atRest }

theorem moveReleasePoints_ungated (id : LetterId) (d : Int) (s : State) :
    ungated (moveReleasePoints id d s) = ungated s :=
  foldl_keeps (fun s g => updateOwner (fun o => { o with release := o.release.map fun p => moveBy p d }) g s) ungated _
    (fun _ _ => rfl) s

theorem trk_of_ungated {s t : State} (h : ungated t = ungated s) : t.trk = { s.trk with gates := t.trk.gates } := by
  simp only [ungated, Tracker.mk.injEq] at h
  obtain ⟨h1, h2, h3, h4, h5, h6, h7, h8, -⟩ := h
  cases ht : t.trk
  simp only [ht] at h1 h2 h3 h4 h5 h6 h7 h8
  simp [h1, h2, h3, h4, h5, h6, h7, h8]

/-! ### The levels of the eyes -/

theorem Inputs.blocked_setEye (i : Inputs) (e d : Eye) (b : Bool) :
    (i.setEye e b).blocked d = if d = e then b else i.blocked d := by
  cases e with
  | pe k =>
    cases d with
    | pe j =>
      simp only [Inputs.setEye, Inputs.blocked, Eye.pe.injEq]
      split
      · next h => simp [h]
      · next h =>
        have hv : (k : Nat) ≠ j := fun e => h (Fin.ext e.symm)
        simp [hv]
    | _ => rfl
  | _ => cases d <;> rfl

/-! ### An arrival (R18, R20, R99) -/

theorem updateLetter_eq (id : LetterId) (f : Letter → Letter) (s : State) : updateLetter id f s =
    { s with trk := { s.trk with letters := s.trk.letters.map fun x => if x.id = id then f x else x } } := by
  simp [updateLetter, updateList]

theorem arrive_elsewhere {l : Letter} {e : Eye} {s : State} (h : deliveryEye l e = false) (he : e ≠ .e3) :
    arrive l e s = updateLetter l.id (fun x => { x with arrived := x.arrived ++ [e] }) s := by
  simp [arrive, h, he]

theorem updateLetter_updateLetter {id : LetterId} {f g : Letter → Letter} {s : State} (hf : ∀ x, (f x).id = x.id) :
    updateLetter id g (updateLetter id f s) = updateLetter id (fun x => g (f x)) s := by
  simp only [updateLetter, updateList, List.map_map]
  congr 2
  refine List.map_congr_left fun x _ => ?_
  simp only [Function.comp_apply]
  by_cases hx : (x.id == id) = true
  · simp [hx, hf]
  · simp [hx]

/-- An arrival at E3 marks the letter and moves it by the deviation `d` (R18, R20). -/
theorem arrive_e3 {l : Letter} {d : Int} {s : State} (h : deliveryEye l .e3 = false)
    (hd : d = posDiff (beyond l.lePos s.prl.profile.e3Pos) s.trk.belt) : arrive l .e3 s =
      movePrint l.id d (moveReleasePoints l.id d (updateLetter l.id (fun x => { x with
        arrived := x.arrived ++ [.e3], lePos := moveBy x.lePos d, resync := some d
        flags := { x.flags with resynced := x.flags.resynced || d != 0 }
        pdecPoint := x.pdecPoint.map fun p => moveBy p d }) s)) := by
  have hb : (d != 0) = decide (d ≠ 0) := by by_cases hz : d = 0 <;> simp [hz]
  have hr : arrive l .e3 s =
      resynchronise l (updateLetter l.id (fun x => { x with arrived := x.arrived ++ [.e3] }) s) := by
    simp [arrive, h]
  rw [hr, hb]
  simp only [resynchronise]
  rw [updateLetter_updateLetter (by simp)]
  subst hd
  rfl

theorem movePrint_head (id : LetterId) (d : Int) (h : Head) (s : State) :
    (movePrint id d s).cnu.heads.get h = (s.cnu.heads.get h).movePoints id d := by
  rw [movePrint, updateHead_get]
  cases h <;> simp

/-- The moved letter has its E3 point at the belt (R20). -/
theorem moveBy_deviation (le belt off : Pos) : moveBy le (posDiff (le + off) belt) + off = belt := by
  simp only [moveBy, posDiff, BitVec.ofInt_toInt]
  bv_omega

/-- What the correction at E3 moves beside the record, whose list is `ls` by then (R20, R99). -/
theorem correction_parts (id : LetterId) (d : Int) (ls : List Letter) (s : State) :
    let t := movePrint id d (moveReleasePoints id d { s with trk := { s.trk with letters := ls } })
    t.trk.letters = ls ∧
    (∀ g, gateOf g t = { gateOf g s with owner := (gateOf g s).owner.map fun o =>
      if o.id = id then { o with release := o.release.map fun p => moveBy p d } else o }) ∧
    (∀ h, t.cnu.heads.get h = (s.cnu.heads.get h).movePoints id d) ∧
    t.trk = { s.trk with letters := t.trk.letters, gates := t.trk.gates } ∧ ChangesOnly [.trk, .cnu] s t := by
  intro t
  have htrk : t.trk = (moveReleasePoints id d { s with trk := { s.trk with letters := ls } }).trk := by simp [t]
  have hkept := trk_of_ungated (moveReleasePoints_ungated id d { s with trk := { s.trk with letters := ls } })
  rw [← htrk] at hkept
  have hletters : t.trk.letters = ls := by rw [hkept]
  refine ⟨hletters, fun g => ?_, fun h => ?_, ?_, fun b hb => ?_⟩
  · have hg : gateOf g t = gateOf g (moveReleasePoints id d { s with trk := { s.trk with letters := ls } }) := by
      rw [gateOf, htrk]
      rfl
    rw [hg, gateOf_moveReleasePoints]
    rfl
  · rw [movePrint_head]
    simp
  · rw [hletters]
    exact hkept
  · cases b <;> simp at hb <;> simp [Same, t]

/-- Settles O27: the levels, and an arrival's marks; at E3 each moved part by the lemma of its own move. -/
theorem arrivalMarksAndResynchronises : Obligations.ArrivalMarksAndResynchronises := by
  unfold Obligations.ArrivalMarksAndResynchronises
  refine ⟨Inputs.blocked_setEye, fun s e ho he => ⟨fun b hb => exec_eyeLeEdge_same he hb, fun hb => ?_, fun hb hs => ?_,
    fun l hb hs hw hd hp hx => ?_⟩⟩
  · rw [exec_eyeLeEdge ho he (by simp [hb])]
    rfl
  · rw [exec_eyeLeEdge_leading ho he hb, eyeLeadingEdge_outside (by exact hs)]
  · have hexec : exec (.eyeLeEdge ⟨e, true⟩) s = .next (arrive l e { s with inputs := s.inputs.setEye e true }) := by
      rw [exec_eyeLeEdge_leading ho he hb, eyeLeadingEdge_waiting (by exact hs) (by exact hw) (by exact hx),
        if_pos (by exact hp)]
    refine ⟨fun h3 => ?_, fun d h3 hdev => ?_⟩
    · rw [hexec, arrive_elsewhere hd h3, updateLetter_eq]
    · subst h3
      refine ⟨hdev ▸ moveBy_deviation _ _ _, _, hexec, ?_⟩
      rw [arrive_e3 (s := { s with inputs := s.inputs.setEye .e3 true }) hd hdev, updateLetter_eq]
      obtain ⟨hl, hg, hh, ht, hk⟩ := correction_parts l.id d
        (s.trk.letters.map fun x => if x.id = l.id then { x with
          arrived := x.arrived ++ [.e3], lePos := moveBy x.lePos d, resync := some d
          flags := { x.flags with resynced := x.flags.resynced || d != 0 }
          pdecPoint := x.pdecPoint.map fun p => moveBy p d } else x)
        { s with inputs := s.inputs.setEye .e3 true }
      refine ⟨hk .inputs (by simp), hl, hg, hh, ht, fun b hb => ?_⟩
      have hkb := hk b
      cases b <;> simp at hb hkb <;> exact hkb

end Sys2Proof.Machine
end

section
/-! The verdict: what writing it does to the letter, its head and pocket 0 (R75, R85 to R88, R97, R101). -/

namespace Sys2Proof.Machine

/-! ### The end of a head's previous print -/

theorem findLetter_updated {id : LetterId} {f : Letter → Letter} {s : State} {l : Letter} (hf : ∀ x, (f x).id = x.id)
    (h : findLetter id s = some l) : findLetter id (updateLetter id f s) = some (f l) := by
  rw [findLetter_updateLetter id id f hf, h]
  simp [findLetter_id h]

theorem findLetter_of_letters {s t : State} (h : t.trk.letters = s.trk.letters) (id : LetterId) :
    findLetter id t = findLetter id s := by rw [findLetter, findLetter, h]

/-- What the head queues and the close-pair test read of a record: its id, position, cancel part and CLOSE flag. -/
def Letter.traits (l : Letter) : LetterId × Pos × Option CancelPart × Bool := (l.id, l.lePos, l.cancel, l.flags.close)

def traits (s : State) : List (LetterId × Pos × Option CancelPart × Bool) := s.trk.letters.map Letter.traits

theorem traits_updateLetter {id : LetterId} {f : Letter → Letter} (hf : ∀ x, (f x).traits = x.traits) (s : State) :
    traits (updateLetter id f s) = traits s := by
  simp only [traits, updateLetter, updateList, List.map_map]
  refine List.map_congr_left fun x _ => ?_
  simp only [Function.comp_apply]
  split
  · exact hf x
  · rfl

theorem findLetter_traits (k : LetterId) (s : State) :
    (findLetter k s).map Letter.traits = (traits s).find? (·.1 == k) := by
  rw [traits, List.find?_map]
  rfl

theorem previousEnd_of_traits {s t : State} (h : traits t = traits s) (hp : t.prl = s.prl) (u : HeadUnit) :
    previousEnd u t = previousEnd u s := by
  have he : ∀ (v : State) (k : LetterId),
      ((findLetter k v).bind fun l => l.print.map fun x => fireEndAt v.prl.profile l x) =
      ((findLetter k v).map Letter.traits).bind fun y => (y.2.2.1.bind fun c => c.print).map fun x =>
        beyond (beyond y.2.1 (v.prl.profile.cPos + x.ps)) x.k := by
    intro v k
    cases findLetter k v <;> rfl
  unfold previousEnd
  split
  · rw [he, he, findLetter_traits, findLetter_traits, h, hp]
  · rw [hp]

/-- A letter's successor carries CLOSE or not as the traits show it (R78). -/
theorem successor_traits {s t : State} (h : traits t = traits s) (id : LetterId) :
    (successor id t.trk.letters).map (·.flags.close) = (successor id s.trk.letters).map (·.flags.close) := by
  have hg : ∀ ls ms : List Letter, ls.map Letter.traits = ms.map Letter.traits →
      (successor id ls).map (·.flags.close) = (successor id ms).map (·.flags.close) := by
    intro ls
    induction ls with
    | nil =>
      intro ms hm
      rw [List.map_nil, eq_comm, List.map_eq_nil_iff] at hm
      rw [hm]
    | cons l ls ih =>
      intro ms hm
      cases ms with
      | nil => simp at hm
      | cons m ms =>
        simp only [List.map_cons, List.cons.injEq] at hm
        obtain ⟨hlm, hrest⟩ := hm
        have hid : l.id = m.id := congrArg Prod.fst hlm
        simp only [successor, hid]
        split
        · cases ls with
          | nil =>
            rw [List.map_nil, eq_comm, List.map_eq_nil_iff] at hrest
            rw [hrest]
          | cons a as =>
            cases ms with
            | nil => simp at hrest
            | cons b bs =>
              simp only [List.map_cons, List.cons.injEq] at hrest
              exact congrArg some (congrArg (fun y => y.2.2.2) hrest.1)
        · exact ih ms hrest
  exact hg _ _ h

/-! ### The hand-over to the cancel unit (R87, R97, R101) -/

/-- The parts of a state that the hand-over of letter `l` reads are those of `s`; the tallies apart. -/
structure SeenAlike (l l' : Letter) (s s' : State) : Prop where
  id : l'.id = l.id
  length : l'.length = l.length
  lePos : l'.lePos = l.lePos
  cnu : s'.cnu = s.cnu
  prl : s'.prl = s.prl
  previous : ∀ u, previousEnd u s' = previousEnd u s

theorem PrintPlaced.congr {o : Orientation} {run : ChosenRun} {d : Date} {l l' m : Letter} {s s' t : State}
    (h : PrintPlaced o run d l' m s' t) (ha : SeenAlike l l' s s') (hm : tally .missed s' = tally .missed s)
    (hd : tally .headDown s' = tally .headDown s) : PrintPlaced o run d l m s t := by
  obtain ⟨h1, h2, h3, h4, h5, h6⟩ := ha
  unfold PrintPlaced at h ⊢
  simp only [h1, h2, h3, h4, h5, h6, hm, hd] at h
  exact h

/-- The cancel part that the hand-over writes. -/
def placedPart (l : Letter) (o : Orientation) (run : ChosenRun) (s : State) : CancelPart :=
  ⟨(placedOutcome l o run s).1, (placedOutcome l o run s).2, some (placedPrint l o run s), none⟩

theorem schedulePrint_letter {l x : Letter} {o : Orientation} {run : ChosenRun} {s : State}
    (h : findLetter l.id s = some x) : findLetter l.id (schedulePrint l o run s) =
      some { x with cancel := some (placedPart l o run s) } := by
  have hw : ∀ c m, (placedOutcome l o run s) = (c, m) →
      findLetter l.id (withPrint l o run c m s) = some { x with cancel := some (placedPart l o run s) } := by
    intro c m hc
    rw [withPrint, findLetter_updated (by simp) h, placedPart, hc]
  refine schedulePrint_cases (P := fun u => findLetter l.id u = some { x with cancel := some (placedPart l o run s) })
    l o run s (hw _ _) (hw _ _) fun m => hw _ _

/-- What the hand-over counts and queues, by its outcome (R101, R120). -/
structure PrintHanded (c : CancelOutcome) (h : Head) (id : LetterId) (s t : State) : Prop where
  scheduled : c = .scheduled → t.cnu = { s.cnu with
    heads := s.cnu.heads.set h { s.cnu.heads.get h with queue := (s.cnu.heads.get h).queue ++ [id] } } ∧
    tally .missed t = tally .missed s ∧ tally .headDown t = tally .headDown s
  kept : c ≠ .scheduled → t.cnu = s.cnu
  headDown : c = .headDown → tally .headDown t = min (tally .headDown s + 1) 4294967295
  missed : c = .missed → tally .missed t = min (tally .missed s + 1) 4294967295

theorem schedulePrint_handed (l : Letter) (o : Orientation) (run : ChosenRun) (s : State) :
    PrintHanded (placedOutcome l o run s).1 o.head l.id s (schedulePrint l o run s) := by
  have hw : ∀ c m, (withPrint l o run c m s).pkm = s.pkm := fun _ _ => rfl
  refine schedulePrint_cases (P := PrintHanded _ o.head l.id s) l o run s (fun h => ?_) (fun h => ?_) (fun m h => ?_)
  · rw [h]
    exact ⟨fun _ => ⟨rfl, rfl, rfl⟩, nofun, nofun, nofun⟩
  · rw [h]
    refine ⟨nofun, fun _ => rfl, fun _ => ?_, nofun⟩
    rw [tally_bump, if_pos rfl, tally_of_pkm (hw _ _)]
  · rw [h]
    refine ⟨nofun, fun _ => rfl, nofun, fun _ => ?_⟩
    rw [tally_bump, if_pos rfl, tally_of_pkm (hw _ _)]

theorem recoveryCheck_none {u : HeadUnit} {start : Pos} {s : State} (h : ∀ e, previousEnd u s = some e →
    reached start (e + BitVec.ofNat 32 s.prl.profile.h) = true) : recoveryCheck u start s = true := by
  unfold recoveryCheck
  split
  · next e he => exact h e he
  · rfl

theorem schedulePrint_placed {l x : Letter} {o : Orientation} {run : ChosenRun} {d : Date} {s : State}
    (hd : s.cnu.date = some d) : PrintPlaced o run d l { x with cancel := some (placedPart l o run s) } s
      (schedulePrint l o run s) := by
  rintro span y u start rfl hy rfl rfl
  have hy : placedPrint l o run s = y := by
    rw [hy]
    simp [placedPrint, impressionNow, hd]
  have hk := schedulePrint_handed l o run s
  have hdown := HeadUnit.down_iff (s.cnu.heads.get o.head)
  have hpart : ∀ c m, placedOutcome l o run s = (c, m) → placedPart l o run s = ⟨c, m, some y, none⟩ := by
    intro c m h
    rw [placedPart, h, hy]
  have hout : placedOutcome l o run s =
      scheduleOutcome (s.cnu.heads.get o.head) (l.lePos + BitVec.ofNat 32 (s.prl.profile.cPos + y.ps)) s := by
    rw [placedOutcome, hy]
    rfl
  simp only [Option.some.injEq]
  refine ⟨fun h => ?_, fun h1 h2 h3 => ?_⟩
  · have hr : placedOutcome l o run s = (.headDown, none) := by
      rw [hout, scheduleOutcome, if_pos (hdown.2 h)]
    rw [hr] at hk
    exact ⟨hpart _ _ hr, hk.kept (by simp), hk.headDown rfl⟩
  · have hup : ¬ (s.cnu.heads.get o.head).down = true := by
      rw [hdown]
      simp [h1, h2, h3]
    refine ⟨fun hq => ?_, fun e hq he hx => ?_, fun hq he => ?_⟩
    · have hr : placedOutcome l o run s = (.missed, some .queueFull) := by
        rw [hout, scheduleOutcome, if_neg hup, if_pos (by exact hq)]
      rw [hr] at hk
      exact ⟨hpart _ _ hr, hk.kept (by simp), hk.missed rfl⟩
    · have hr : placedOutcome l o run s = (.missed, some .tooClose) := by
        rw [hout, scheduleOutcome, if_neg hup, if_neg (by simp only [Config.headQueueCapacity]; omega), if_neg]
        rw [recoveryCheck, he]
        exact ne_true_of_eq_false hx
      rw [hr] at hk
      exact ⟨hpart _ _ hr, hk.kept (by simp), hk.missed rfl⟩
    · have hr : placedOutcome l o run s = (.scheduled, none) := by
        rw [hout, scheduleOutcome, if_neg hup, if_neg (by simp only [Config.headQueueCapacity]; omega),
          if_pos (recoveryCheck_none he)]
      rw [hr] at hk
      exact ⟨hpart _ _ hr, hk.scheduled rfl⟩

/-! ### Writing the verdict (R75, R85, R86, R88) -/

/-- A record with its verdict and route, and its pocket decision point where it is MAIN. -/
def Letter.judged (v : Verdict) (point : Option Pos) (l : Letter) : Letter :=
  { l with verdict := some v, route := some (routeOf v), pdecPoint := point }

/-- The pocket decision point of letter `l` under a route (R121). -/
def decisionPoint (p : Profile) (l : Letter) : Route → Option Pos
  | .cull => none
  | .main _ _ => some (beyond l.lePos p.pdecPos)

/-- The state with the verdict written and counted and a hold of the letter ended, before the hand-overs. -/
def verdictCounted (l : Letter) (v : Verdict) (s : State) : State :=
  let s := updateLetter l.id (Letter.judged v (decisionPoint s.prl.profile l (routeOf v))) s
  bump v.tally { s with held := if s.held = some l.id then none else s.held }

theorem writeVerdict_eq (l : Letter) (v : Verdict) (s : State) : writeVerdict l v s =
    handToPockets l (routeOf v) (handToCancel l v (verdictCounted l v s)) := rfl

theorem verdictCounted_alike (l : Letter) (v : Verdict) (s : State) : SeenAlike l l s (verdictCounted l v s) where
  id := rfl
  length := rfl
  lePos := rfl
  cnu := rfl
  prl := rfl
  previous := previousEnd_of_traits (traits_updateLetter
    (f := Letter.judged v (decisionPoint s.prl.profile l (routeOf v)))
    (fun _ => rfl) s) rfl

theorem verdictCounted_letter {l : Letter} {v : Verdict} {s : State} (h : findLetter l.id s = some l) :
    findLetter l.id (verdictCounted l v s) = some (l.judged v (decisionPoint s.prl.profile l (routeOf v))) := by
  rw [← findLetter_updated (f := Letter.judged v (decisionPoint s.prl.profile l (routeOf v))) (fun _ => rfl) h]
  exact findLetter_of_letters rfl _

theorem verdictCounted_held (l : Letter) (v : Verdict) (s : State) : (verdictCounted l v s).held ≠ some l.id := by
  change (if s.held = some l.id then none else s.held) ≠ some l.id
  split
  · simp
  · assumption

theorem verdictCounted_tally (l : Letter) (v : Verdict) (s : State) (x : Tally) : tally x (verdictCounted l v s) =
    if x = v.tally then min (tally v.tally s + 1) 4294967295 else tally x s := tally_bump ..

/-- The tallies of the verdicts are none of those of the outcomes (R120, R141). -/
theorem Verdict.tally_ne (v : Verdict) : v.tally ≠ .missed ∧ v.tally ≠ .headDown := by
  unfold Verdict.tally
  split <;> simp

theorem handToCancel_other {l : Letter} {v : Verdict} {s : State} (h : v.kind ≠ .stamp) :
    handToCancel l v s = updateLetter l.id (fun l => { l with cancel := some .notRequired }) s := by
  unfold handToCancel
  split
  · next hk _ _ => exact absurd hk h
  · rfl

theorem handToCancel_letter {l x : Letter} {v : Verdict} {s : State} (h : findLetter l.id s = some x) :
    ∃ c, findLetter l.id (handToCancel l v s) = some { x with cancel := some c } := by
  unfold handToCancel
  split
  · exact ⟨_, schedulePrint_letter h⟩
  · exact ⟨_, findLetter_updated (by simp) h⟩

/-- The cancel unit counts under its own outcomes, and no hold or pocket is its own. -/
theorem handToCancel_kept (l : Letter) (v : Verdict) (s : State) :
    (handToCancel l v s).pkm.pockets = s.pkm.pockets ∧
    ∀ x, x ≠ .missed → x ≠ .headDown → tally x (handToCancel l v s) = tally x s := by
  unfold handToCancel
  split
  · refine schedulePrint_cases (P := fun u => u.pkm.pockets = s.pkm.pockets ∧
      ∀ x, x ≠ .missed → x ≠ .headDown → tally x u = tally x s) _ _ _ s ?_ ?_ ?_
    · exact fun _ => ⟨rfl, fun _ _ _ => rfl⟩
    · refine fun _ => ⟨rfl, fun x _ hx => ?_⟩
      rw [tally_bump, if_neg hx]
      rfl
    · refine fun _ _ => ⟨rfl, fun x hx _ => ?_⟩
      rw [tally_bump, if_neg hx]
      rfl
  · exact ⟨rfl, fun _ _ _ => rfl⟩

theorem assignPocket_kept (k : PocketNo) (s : State) :
    (assignPocket k s).trk = s.trk ∧ (assignPocket k s).held = s.held ∧
    (assignPocket k s).cnu = s.cnu ∧ ∀ x, tally x (assignPocket k s) = tally x s := by
  refine ⟨by simp, by simp, by simp, fun x => ?_⟩
  have hp : (assignPocket k s).pkm.tallies = s.pkm.tallies := by
    simp only [assignPocket, refreshCatchFull_frame]
    rfl
  rw [tally, tally, hp]

theorem routeOf_main {v : Verdict} {o : Orientation} (hk : v.kind = .stamp) (ho : v.orientation = some o) :
    routeOf v = .main o.turnover o.cls := by simp [routeOf, hk, ho]

theorem handToCancel_stamp {l : Letter} {v : Verdict} {o : Orientation} {run : ChosenRun} (hk : v.kind = .stamp)
    (ho : v.orientation = some o) (hr : v.chosen = some run) (s : State) :
    handToCancel l v s = schedulePrint l o run s := by simp [handToCancel, hk, ho, hr]

/-- The verdict and its hand-over to the cancel unit, before pocket 0 takes a culled letter. -/
theorem handToCancel_written {l : Letter} {v : Verdict} {s : State} (h : findLetter l.id s = some l) :
    ∃ c, findLetter l.id (handToCancel l v (verdictCounted l v s)) =
        some { l.judged v (decisionPoint s.prl.profile l (routeOf v)) with cancel := some c } ∧
      (∀ (o run d) (m : Letter), v.kind = .stamp → v.orientation = some o → v.chosen = some run → s.cnu.date = some d →
        m.cancel = some c → PrintPlaced o run d l m s (handToCancel l v (verdictCounted l v s))) ∧
      (v.kind ≠ .stamp → c = .notRequired ∧ (handToCancel l v (verdictCounted l v s)).cnu = s.cnu) := by
  have hx := verdictCounted_letter (v := v) h
  obtain ⟨c, hc⟩ := handToCancel_letter (v := v) hx
  refine ⟨c, hc, fun o run d m hk ho hr hd hm => ?_, fun hk => ?_⟩
  · rw [handToCancel_stamp hk ho hr] at hc ⊢
    have hp := schedulePrint_placed (x := { m with cancel := none }) (l := l) (o := o) (run := run)
      (s := verdictCounted l v s) hd
    rw [schedulePrint_letter hx] at hc
    have hcp : m.cancel = some (placedPart l o run (verdictCounted l v s)) := by
      have := congrArg Letter.cancel (Option.some.inj hc)
      rw [hm]
      exact this.symm
    have hme : ({ ({ m with cancel := none } : Letter) with
        cancel := some (placedPart l o run (verdictCounted l v s)) } : Letter) = m := by
      rw [← hcp]
    rw [hme] at hp
    refine hp.congr (verdictCounted_alike l v s) ?_ ?_
    · rw [verdictCounted_tally, if_neg v.tally_ne.1.symm]
    · rw [verdictCounted_tally, if_neg v.tally_ne.2.symm]
  · rw [handToCancel_other hk] at hc ⊢
    rw [findLetter_updated (by simp) hx] at hc
    exact ⟨(Option.some.inj (congrArg Letter.cancel (Option.some.inj hc))).symm, rfl⟩

/-- The record differs only in what a verdict and its hand-overs write (R75, R87, R88). -/
def OnlyJudged (x y : Letter) : Prop :=
  y = { x with verdict := y.verdict, route := y.route, cancel := y.cancel, dest := y.dest, pdecPoint := y.pdecPoint }

/-- Writing a verdict does what R75 and R85 to R88 have it do. -/
theorem writeVerdict_written {l : Letter} {v : Verdict} {s : State} (h : findLetter l.id s = some l) :
    ∃ m, findLetter l.id (writeVerdict l v s) = some m ∧ OnlyJudged l m ∧
      VerdictWritten v l m s (writeVerdict l v s) := by
  obtain ⟨c, hc, hprint, hother⟩ := handToCancel_written (v := v) h
  obtain ⟨hpockets, htally⟩ := handToCancel_kept l v (verdictCounted l v s)
  have hheld : (handToCancel l v (verdictCounted l v s)).held ≠ some l.id := by
    simpa using verdictCounted_held l v s
  have hcount : tally v.tally (handToCancel l v (verdictCounted l v s)) = min (tally v.tally s + 1) 4294967295 := by
    rw [htally _ v.tally_ne.1 v.tally_ne.2, verdictCounted_tally, if_pos rfl]
  rw [writeVerdict_eq]
  generalize handToCancel l v (verdictCounted l v s) = w at hc hprint hother hpockets hheld hcount ⊢
  cases hr : routeOf v with
  | cull =>
    rw [hr] at hc
    have hc' := findLetter_updated (f := fun x => { x with dest := some ⟨0, none⟩ }) (fun _ => rfl) hc
    generalize hu : updateLetter l.id (fun x => { x with dest := some ⟨0, none⟩ }) w = u at hc'
    have hup : u.pkm = w.pkm ∧ u.held = w.held ∧ u.cnu = w.cnu := by rw [← hu]; exact ⟨rfl, rfl, rfl⟩
    obtain ⟨htrk, hh, hcnu, ht⟩ := assignPocket_kept 0 u
    have he : handToPockets l .cull w = assignPocket 0 u := by rw [← hu]; rfl
    rw [he]
    refine ⟨_, (findLetter_of_letters (by rw [htrk]) _).trans hc', rfl, ⟨rfl, rfl⟩, ?_, ?_,
      fun o run d hk ho _ _ => ?_, fun hk => ?_, fun _ => ⟨rfl, rfl, ?_⟩, fun hm => absurd hr hm⟩
    · rw [hh, hup.2.1]
      exact hheld
    · rw [ht, tally_of_pkm hup.1]
      exact hcount
    · rw [routeOf_main hk ho] at hr
      cases hr
    · obtain ⟨h1, h2⟩ := hother hk
      exact ⟨congrArg some h1, by rw [hcnu, hup.2.2]; exact h2⟩
    · rw [assignPocket_pockets, hup.1, hpockets]
      rfl
  | main turnover cls =>
    rw [hr] at hc
    refine ⟨_, hc, rfl, ⟨rfl, rfl⟩, hheld, hcount, fun o run d hk ho hch hd => ?_, fun hk => ?_, fun hcull => ?_,
      fun _ => ⟨rfl, hpockets, rfl⟩⟩
    · exact hprint o run d _ hk ho hch hd rfl
    · obtain ⟨h1, h2⟩ := hother hk
      exact ⟨congrArg some h1, h2⟩
    · rw [hr] at hcull
      cases hcull

end Sys2Proof.Machine
end

section
/-! The end of a scan: the results, the verdict made or held, and what of the tracker they leave (R64, R70, R76 to R78). -/

namespace Sys2Proof.Machine

/-! ### What a scan's end changes of the tracker -/

/-- The record differs only in its results and in what a verdict and its hand-overs write (R70, R75, R87, R88). -/
def OnlyScanned (x y : Letter) : Prop :=
  y = { x with results := y.results, verdict := y.verdict, route := y.route, cancel := y.cancel, dest := y.dest
               pdecPoint := y.pdecPoint }

theorem OnlyScanned.trans {x y z : Letter} (h : OnlyScanned x y) (h' : OnlyScanned y z) : OnlyScanned x z := by
  unfold OnlyScanned at *
  rw [h', h]

theorem OnlyScanned.id_eq {x y : Letter} (h : OnlyScanned x y) : y.id = x.id := by rw [h]

/-- Of the tracker only the records of letter `id` have changed, each in what the end of its scan writes. -/
def RecordOnly (id : LetterId) (s t : State) : Prop :=
  ∃ f : Letter → Letter, (∀ x, OnlyScanned x (f x)) ∧ t.trk = (updateLetter id f s).trk

theorem RecordOnly.updateLetter {id : LetterId} {f : Letter → Letter} (hf : ∀ x, OnlyScanned x (f x)) (s : State) :
    RecordOnly id s (updateLetter id f s) := ⟨f, hf, rfl⟩

theorem RecordOnly.of_trk {id : LetterId} {s t : State} (h : t.trk = s.trk) : RecordOnly id s t := by
  refine ⟨fun x => x, fun _ => rfl, ?_⟩
  rw [h]
  simp [Machine.updateLetter, updateList]

theorem RecordOnly.trans {id : LetterId} {s t u : State} (h : RecordOnly id s t) (h' : RecordOnly id t u) :
    RecordOnly id s u := by
  obtain ⟨f, hf, ht⟩ := h
  obtain ⟨g, hg, hu⟩ := h'
  refine ⟨fun x => g (f x), fun x => (hf x).trans (hg _), ?_⟩
  rw [← updateLetter_updateLetter (f := f) (g := g) fun x => (hf x).id_eq, hu]
  simp only [Machine.updateLetter, ht]

theorem RecordOnly.findLetter {id : LetterId} {s t : State} {l : Letter} (h : RecordOnly id s t)
    (hl : findLetter id s = some l) : ∃ m, findLetter id t = some m ∧ OnlyScanned l m := by
  obtain ⟨f, hf, ht⟩ := h
  refine ⟨f l, ?_, hf l⟩
  rw [findLetter_of_letters (s := Machine.updateLetter id f s) (by rw [ht]),
    findLetter_updated (fun x => (hf x).id_eq) hl]

theorem RecordOnly.tracker {id : LetterId} {s t : State} (h : RecordOnly id s t) :
    t.trk = { s.trk with letters := t.trk.letters } := by
  obtain ⟨f, -, ht⟩ := h
  rw [ht]
  rfl

theorem schedulePrint_record (l : Letter) (o : Orientation) (run : ChosenRun) (s : State) :
    RecordOnly l.id s (schedulePrint l o run s) := by
  have hw : ∀ c m, RecordOnly l.id s (withPrint l o run c m s) := fun c m => .updateLetter (by exact fun _ => rfl) s
  refine schedulePrint_cases (P := RecordOnly l.id s) l o run s (fun _ => ?_) (fun _ => ?_) (fun m _ => ?_)
  · exact (hw _ _).trans (.of_trk rfl)
  · exact (hw _ _).trans (.of_trk rfl)
  · exact (hw _ _).trans (.of_trk rfl)

theorem handToCancel_record (l : Letter) (v : Verdict) (s : State) : RecordOnly l.id s (handToCancel l v s) := by
  unfold handToCancel
  split
  · exact schedulePrint_record ..
  · exact .updateLetter (by exact fun _ => rfl) s

theorem handToPockets_record (l : Letter) (r : Route) (s : State) : RecordOnly l.id s (handToPockets l r s) := by
  unfold handToPockets
  split
  · exact (RecordOnly.updateLetter (f := fun x => { x with dest := some ⟨0, none⟩ }) (fun _ => rfl) s).trans
      (.of_trk (by simp))
  · exact .of_trk rfl

theorem writeVerdict_record (l : Letter) (v : Verdict) (s : State) : RecordOnly l.id s (writeVerdict l v s) := by
  rw [writeVerdict_eq]
  refine .trans (.trans ?_ (handToCancel_record l v _)) (handToPockets_record l _ _)
  exact (RecordOnly.updateLetter (f := Letter.judged v (decisionPoint s.prl.profile l (routeOf v)))
    (fun _ => rfl) s).trans
    (.of_trk rfl)

theorem evaluate_record (id : LetterId) (s : State) : RecordOnly id s (evaluate id s) := by
  unfold evaluate
  split
  · exact .of_trk rfl
  · next l hl =>
    have hv : ∀ v, RecordOnly id s (writeVerdict l v s) := fun v => findLetter_id hl ▸ writeVerdict_record l v s
    split
    · exact hv _
    · split
      · split
        · exact hv _
        · exact hv _
      · split
        · exact hv _
        · split
          · exact hv _
          · exact .of_trk rfl

/-! ### The end of a scan (R64, R70) -/

/-- The four results that the end of a letter's scan writes (R70). -/
def scanResults (id : LetterId) (s : State) : PerChan ChanResult :=
  ⟨resultOf s.prl.profile (scanOf id s) .au, resultOf s.prl.profile (scanOf id s) .al,
    resultOf s.prl.profile (scanOf id s) .bu, resultOf s.prl.profile (scanOf id s) .bl⟩

theorem scanResults_get (id : LetterId) (s : State) (c : Chan) : (scanResults id s).get c =
    resultAfter s.prl.profile ((scanOf id s).blind.get c) ((scanOf id s).ctx.get c) := by
  cases c <;> rfl

/-- The state with the results written and the context ended, before the verdict is evaluated. -/
def resultsWritten (id : LetterId) (s : State) : State :=
  let x := scanOf id s
  let u := closeChannel .bl x (closeChannel .bu x (closeChannel .al x (closeChannel .au x s)))
  let u := updateLetter id (fun l => { l with results := some (scanResults id s) }) u
  { u with
    scan := if (u.scan.map ScanContext.letter) = some id then none else u.scan
    lch := { u.lch with capture := (u.lch.capture.finish id).forget id } }

theorem completeScan_eq (id : LetterId) (s : State) : completeScan id s = evaluate id (resultsWritten id s) := rfl

theorem resultsWritten_frame (id : LetterId) (s : State) :
    (resultsWritten id s).trk = (updateLetter id (fun l => { l with results := some (scanResults id s) }) s).trk ∧
    (resultsWritten id s).cnu = s.cnu ∧ (resultsWritten id s).pkm = s.pkm ∧ (resultsWritten id s).prl = s.prl ∧
    (resultsWritten id s).held = s.held := by
  unfold resultsWritten
  and_intros <;> simp [updateLetter]

theorem resultsWritten_letter {id : LetterId} {s : State} {l : Letter} (h : findLetter id s = some l) :
    findLetter id (resultsWritten id s) = some { l with results := some (scanResults id s) } := by
  rw [← findLetter_updated (f := fun l => { l with results := some (scanResults id s) }) (fun _ => rfl) h]
  exact findLetter_of_letters (by rw [(resultsWritten_frame id s).1]) id

theorem completeScan_record (id : LetterId) (s : State) : RecordOnly id s (completeScan id s) := by
  rw [completeScan_eq]
  refine .trans ⟨_, ?_, (resultsWritten_frame id s).1⟩ (evaluate_record id _)
  exact fun _ => rfl

/-! ### The verdict, made or held (R76, R77, R78) -/

theorem VerdictWritten.congr {v : Verdict} {l l' m : Letter} {s s' t : State} (h : VerdictWritten v l' m s' t)
    (ha : SeenAlike l l' s s') (hd : l'.dest = l.dest) (hp : s'.pkm = s.pkm) : VerdictWritten v l m s t where
  verdict := h.verdict
  held := ha.id ▸ h.held
  counted := by rw [h.counted, tally_of_pkm hp]
  print o run d hk ho hr hdate :=
    (h.print o run d hk ho hr (ha.cnu ▸ hdate)).congr ha (tally_of_pkm hp _) (tally_of_pkm hp _)
  notRequired hk := ha.cnu ▸ h.notRequired hk
  culled hr := hp ▸ h.culled hr
  main hr := by
    have hm := h.main hr
    rw [hd, hp, ha.lePos, ha.prl] at hm
    exact hm

/-- The verdict of a successor's CLOSE flag, where there is a successor (R78). -/
theorem successor_close {s : State} {id : LetterId} {b : Bool} :
    (successor id s.trk.letters).map (·.flags.close) = some b ↔
      ∃ n, successor id s.trk.letters = some n ∧ n.flags.close = b := Option.map_eq_some_iff

/-- What a state shows to the verdict of letter `l` once its results are written, as `s` shows it. -/
structure JudgedAlike (l l' : Letter) (s s' : State) : Prop extends SeenAlike l l' s s' where
  flags : l'.flags = l.flags
  dest : l'.dest = l.dest
  undecided : l'.verdict = l.verdict ∧ l'.route = l.route ∧ l'.cancel = l.cancel
  pkm : s'.pkm = s.pkm
  belt : s'.trk.belt = s.trk.belt
  successor : (successor l.id s'.trk.letters).map (·.flags.close) = (successor l.id s.trk.letters).map (·.flags.close)

theorem ScanJudged.congr {res : PerChan ChanResult} {l l' : Letter} {s s' t : State} (h : ScanJudged res l' s' t)
    (ha : JudgedAlike l l' s s') : ScanJudged res l s t := by
  obtain ⟨m, hm, hres, hlen, hflags, hrej, hnot⟩ := h
  have hv : ∀ {v}, VerdictWritten v l' m s' t → VerdictWritten v l m s t :=
      fun h => h.congr ha.toSeenAlike ha.dest ha.pkm
  have hsucc : ∀ b, (∃ n, Machine.successor l.id s.trk.letters = some n ∧ n.flags.close = b) →
      ∃ n, Machine.successor l'.id s'.trk.letters = some n ∧ n.flags.close = b := by
    intro b hb
    rw [ha.id]
    rw [← successor_close] at hb ⊢
    rw [ha.successor, hb]
  have hnone : Machine.successor l.id s.trk.letters = none → Machine.successor l'.id s'.trk.letters = none := by
    intro hn
    rw [ha.id, ← Option.map_eq_none_iff (f := fun n : Letter => n.flags.close), ha.successor, hn]
    rfl
  have hlimit : verdictLimitOf s.prl.profile l' = verdictLimitOf s.prl.profile l := by
    simp only [verdictLimitOf, ha.lePos]
  have hpair : pairPointOf s.prl.profile l' = pairPointOf s.prl.profile l := by
    simp only [pairPointOf, ha.lePos, ha.length]
  obtain ⟨hverdict, hroute, hcancel⟩ := ha.undecided
  rw [ha.length] at hlen
  rw [ha.flags] at hflags hrej hnot
  simp only [ha.belt, ha.prl, hlimit, hpair, ha.length] at hnot
  refine ⟨m, ha.id ▸ hm, hres, hlen, hflags, fun hf => hv (hrej hf), fun h1 h2 h3 => ?_⟩
  obtain ⟨hclose, hfar, hdue, hlim⟩ := hnot h1 h2 h3
  refine ⟨fun n hn hc => ?_, fun n hn hc => ?_, fun hn hd => hv (hdue (hnone hn) hd), fun hn hd => ?_⟩
  · obtain ⟨n', hn', hc'⟩ := hsucc true ⟨n, hn, hc⟩
    exact hv (hclose n' hn' hc')
  · obtain ⟨n', hn', hc'⟩ := hsucc false ⟨n, hn, hc⟩
    exact hv (hfar n' hn' hc')
  · obtain ⟨hreached, hheld⟩ := hlim (hnone hn) hd
    refine ⟨fun hx => hv (hreached hx), fun hx => ?_⟩
    have := hheld hx
    rwa [ha.id, hverdict, hroute, hcancel, ha.dest, ha.cnu, ha.pkm] at this

end Sys2Proof.Machine
end

section
/-! A letter's scan completes: at its LONG point and with its length (R11, R12, R69, R76 to R78). -/

namespace Sys2Proof.Machine

/-! ### The verdict at the end of a scan (R76, R77, R78) -/

theorem LetterFlags.rejects_iff (f : LetterFlags) :
    f.rejects = true ↔ f.short = true ∨ f.long = true ∨ f.close = true := by
  simp [LetterFlags.rejects, or_assoc]

/-- The verdict that the end of a scan with the results `res` makes, none where it is held (R76, R77, R78). -/
def verdictAtEnd (res : PerChan ChanResult) (l : Letter) (s : State) : Option Verdict :=
  if l.flags.rejects then some (flagVerdict l.flags)
  else match successor l.id s.trk.letters with
    | some n => some (if n.flags.close then closePairVerdict else judgeRuns s.prl.profile res (l.length.getD 0))
    | none =>
      if due s.trk.belt (pairPointOf s.prl.profile l) then some (judgeRuns s.prl.profile res (l.length.getD 0))
      else if reached s.trk.belt (verdictLimitOf s.prl.profile l) then some closePairVerdict
      else none

theorem evaluate_eq {l : Letter} {res : PerChan ChanResult} {s : State} (h : findLetter l.id s = some l)
    (hres : l.results = some res) : evaluate l.id s = match verdictAtEnd res l s with
      | some v => writeVerdict l v s
      | none => { s with held := some l.id } := by
  simp only [evaluate, h, judgeLetter, hres, Option.getD_some, verdictAtEnd]
  split
  · rfl
  · cases successor l.id s.trk.letters with
    | some n =>
      simp only
      split <;> rfl
    | none =>
      simp only
      split
      · rfl
      · split <;> rfl

theorem evaluate_judged {l : Letter} {res : PerChan ChanResult} {s : State} (h : findLetter l.id s = some l)
    (hres : l.results = some res) : ScanJudged res l s (evaluate l.id s) := by
  have hmade : ∃ m, findLetter l.id (evaluate l.id s) = some m ∧ OnlyJudged l m ∧
      (∀ v, verdictAtEnd res l s = some v → VerdictWritten v l m s (evaluate l.id s)) ∧
      (verdictAtEnd res l s = none → m = l ∧ evaluate l.id s = { s with held := some l.id }) := by
    rw [evaluate_eq h hres]
    cases hv : verdictAtEnd res l s with
    | some v =>
      obtain ⟨m, hm, ho, hw⟩ := writeVerdict_written (v := v) h
      exact ⟨m, hm, ho, fun _ hx => Option.some.inj hx ▸ hw, nofun⟩
    | none => exact ⟨l, h, rfl, nofun, fun _ => ⟨rfl, rfl⟩⟩
  obtain ⟨m, hm, ho, hmade, hheld⟩ := hmade
  refine ⟨m, hm, ?_, by rw [ho], by rw [ho], fun hf => hmade _ ?_, fun h1 h2 h3 => ⟨fun n hn hc => hmade _ ?_,
    fun n hn hc => hmade _ ?_, fun hn hd => hmade _ ?_, fun hn hd => ⟨fun hx => hmade _ ?_, fun hx => ?_⟩⟩⟩
  · rw [ho, hres]
  · rw [verdictAtEnd, if_pos ((LetterFlags.rejects_iff _).2 hf)]
    rfl
  all_goals have hr : l.flags.rejects = false := by simp [LetterFlags.rejects, h1, h2, h3]
  · simp [verdictAtEnd, hr, hn, hc, closePairVerdict, closePairReject, culledVerdict, Reasons.empty]
  · simp [verdictAtEnd, hr, hn, hc]
  · simp [verdictAtEnd, hr, hn, hd]
  · simp [verdictAtEnd, hr, hn, hd, hx, closePairVerdict, closePairReject, culledVerdict, Reasons.empty]
  · obtain ⟨rfl, he⟩ := hheld (by simp [verdictAtEnd, hr, hn, hd, hx])
    rw [he]
    exact ⟨rfl, rfl, rfl, rfl, rfl, rfl, rfl⟩

/-! ### The scan of a letter completes (R64, R69, R70) -/

/-- The results alone change nothing of what the verdict reads. -/
theorem resultsWritten_alike (l : Letter) (s : State) :
    JudgedAlike l { l with results := some (scanResults l.id s) } s (resultsWritten l.id s) := by
  obtain ⟨htrk, hcnu, hpkm, hprl, -⟩ := resultsWritten_frame l.id s
  have ht : traits (resultsWritten l.id s) = traits s := by
    rw [traits, htrk]
    exact traits_updateLetter (by exact fun _ => rfl) s
  exact ⟨⟨rfl, rfl, rfl, hcnu, hprl, previousEnd_of_traits ht hprl⟩, rfl, rfl, ⟨rfl, rfl, rfl⟩, hpkm, by rw [htrk]; rfl,
    successor_traits ht _⟩

theorem completeScan_judged {l : Letter} {s : State} (h : findLetter l.id s = some l) :
    ScanJudged (scanResults l.id s) l s (completeScan l.id s) := by
  rw [completeScan_eq]
  have hx := resultsWritten_letter h
  exact (evaluate_judged (l := { l with results := some (scanResults l.id s) }) hx rfl).congr (resultsWritten_alike l s)

theorem completeScan_scan (id : LetterId) (s : State) : (completeScan id s).scan.map ScanContext.letter ≠ some id := by
  rw [completeScan_eq, (evaluate_frame id _).2.2.2.1]
  simp only [resultsWritten]
  split
  · simp
  · assumption

/-! ### The LONG point (R12) -/

/-- The letter as its LONG mark leaves it, before its scan ends. -/
def Letter.markedLong (l : Letter) : Letter := { l with flags := { l.flags with long := true }, longPoint := none }

theorem markLong_eq (id : LetterId) (s : State) :
    markLong id s = completeScan id (updateLetter id Letter.markedLong s) := rfl

/-- The mark alone changes nothing of what the verdict's hand-overs read. -/
theorem markedLong_alike (l : Letter) (s : State) :
    SeenAlike l l.markedLong s (updateLetter l.id Letter.markedLong s) where
  id := rfl
  length := rfl
  lePos := rfl
  cnu := rfl
  prl := rfl
  previous := previousEnd_of_traits (traits_updateLetter (by exact fun _ => rfl) s) rfl

theorem exec_longPoint {s : State} {l : Letter} (ho : s.inReset = false) (hl : longDue s = some l) :
    exec .longPoint s = .next (markLong l.id s) := by
  change live reachLongPoint s = _
  rw [live_out ho]
  simp only [reachLongPoint, hl]

/-- Settles O26: the LONG mark ends the scan, and its flag rejects the letter. -/
theorem longPointRejects : Obligations.LongPointRejects := by
  unfold Obligations.LongPointRejects
  intro s l ho hl hf
  have hx : findLetter l.id (updateLetter l.id Letter.markedLong s) = some l.markedLong :=
    findLetter_updated (fun _ => rfl) hf
  obtain ⟨m, hm, hres, hlen, hflags, hrej, -⟩ := completeScan_judged (l := l.markedLong) (by exact hx)
  have ho' := (completeScan_record l.id (updateLetter l.id Letter.markedLong s)).findLetter hx
  have hv := (hrej (.inr (.inl rfl))).congr (markedLong_alike l s) rfl rfl
  refine ⟨markLong l.id s, m, scanResults l.id s, exec_longPoint ho hl, hm, hflags, ?_, hlen, hres,
    scanResults_get l.id s, hv, hv.verdict.1, hv.verdict.2, (hv.culled rfl).1, (hv.notRequired nofun).1, hv.held,
    completeScan_scan _ _⟩
  obtain ⟨m', hm', hs⟩ := ho'
  have hm : findLetter l.id (markLong l.id s) = some m := hm
  rw [markLong_eq, hm', Option.some.injEq] at hm
  rw [← hm, hs]
  rfl

end Sys2Proof.Machine
end

section
/-! A trailing edge at E0 (R6, R9, R11, R12, R23, R69). -/

namespace Sys2Proof.Machine

/-! ### What the gates of a letter change of the records -/

/-- A record without the gates it has owned. -/
def Letter.disowned (l : Letter) : Letter := { l with owned := [] }

/-- The tracker without its gates and what its records have owned. -/
def disowned (s : State) : Tracker :=
  { s.trk with letters := s.trk.letters.map Letter.disowned, gates := Vector.replicate 10 .atRest }

theorem updateLetter_disowned {id : LetterId} {f : Letter → Letter} (hf : ∀ x, (f x).disowned = x.disowned)
    (s : State) :
    disowned (updateLetter id f s) = disowned s := by
  have hl : (updateLetter id f s).trk.letters.map Letter.disowned = s.trk.letters.map Letter.disowned := by
    simp only [updateLetter, updateList, List.map_map]
    refine List.map_congr_left fun x _ => ?_
    simp only [Function.comp_apply]
    split
    · exact hf x
    · rfl
  unfold disowned
  rw [hl]
  rfl

theorem setGate_disowned (g : GateId) (x : Gate) (s : State) : disowned (setGate g x s) = disowned s := rfl

theorem takeGate_disowned (l : Letter) (g : GateId) (s : State) : disowned (takeGate l g s) = disowned s := by
  simp only [takeGate]
  rw [updateLetter_disowned (by exact fun _ => rfl), setGate_disowned]

theorem releaseGateFuel_disowned (n : Nat) (g : GateId) (s : State) :
    disowned (releaseGateFuel n g s) = disowned s := by
  induction n generalizing s with
  | zero => rfl
  | succ n ih =>
    simp only [releaseGateFuel]
    split
    · rfl
    · split
      · rw [ih, takeGate_disowned]
      · exact takeGate_disowned ..

theorem releaseIfDue_disowned (g : GateId) (s : State) : disowned (releaseIfDue g s) = disowned s := by
  unfold releaseIfDue
  split
  · split
    · exact releaseGateFuel_disowned ..
    · rfl
  · rfl

theorem setReleasePoints_disowned (l : Letter) (s : State) : disowned (setReleasePoints l s) = disowned s := by
  refine foldl_keeps _ disowned _ (fun s g => ?_) s
  rw [releaseIfDue_disowned]
  rfl

theorem traits_of_disowned {s t : State} (h : disowned t = disowned s) : traits t = traits s := by
  have hl := congrArg (fun x => x.letters.map Letter.traits) h
  simp only [disowned, List.map_map] at hl
  exact hl

theorem findLetter_of_disowned {id : LetterId} {s t : State} {l : Letter} (h : disowned t = disowned s)
    (hl : findLetter id s = some l) : ∃ m, findLetter id t = some m ∧ m = { l with owned := m.owned } := by
  have hd : ∀ u : State, (findLetter id u).map Letter.disowned = (disowned u).letters.find? (·.id == id) := by
    intro u
    rw [disowned, List.find?_map]
    rfl
  have hm : (findLetter id t).map Letter.disowned = some l.disowned := by rw [hd, h, ← hd, hl]; rfl
  obtain ⟨m, hm, he⟩ := Option.map_eq_some_iff.1 hm
  refine ⟨m, hm, ?_⟩
  have : ({ m.disowned with owned := m.owned } : Letter) = { l.disowned with owned := m.owned } := by rw [he]
  exact this

/-! ### The letter measured (R9, R11) -/

/-- The record as its trailing edge at `te` leaves it (R9, R11). -/
def Letter.measured (te : Pos) (lmin : Nat) (l : Letter) : Letter :=
  { l with
    length := some (posDiff l.lePos te)
    flags := { l.flags with short := l.flags.short || decide (posDiff l.lePos te < lmin) }
    longPoint := none, blockedPoint := none }

theorem setLength_trk (id : LetterId) (s : State) : (setLength id s).trk =
    { (updateLetter id (Letter.measured s.trk.belt s.prl.profile.lmin) s).trk with
      lastTe := some s.trk.belt, measuring := none } := rfl

theorem setLength_letter {id : LetterId} {s : State} {l : Letter} (h : findLetter id s = some l) :
    findLetter id (setLength id s) = some (l.measured s.trk.belt s.prl.profile.lmin) := by
  rw [← findLetter_updated (f := Letter.measured s.trk.belt s.prl.profile.lmin) (fun _ => rfl) h]
  rfl

/-- The state with a LONG point that is already reached taken (R12). -/
def longTaken (l : Letter) (s : State) : State := if due s.trk.belt l.longPoint then markLong l.id s else s

/-- The state with the length set and the release points of the letter's gates (R11, R23). -/
def lengthTaken (l m : Letter) (s : State) : State :=
  setReleasePoints (m.measured s.trk.belt s.prl.profile.lmin) (setLength l.id s)

theorem measureLetter_eq {l m : Letter} {s : State} (h : findLetter l.id (longTaken l s) = some m) :
    measureLetter l s = completeIfPassed l.id (lengthTaken l m (longTaken l s)) := by
  change findLetter l.id (if due s.trk.belt l.longPoint then markLong l.id s else s) = some m at h
  simp only [measureLetter, setLength_letter h]
  rfl

/-- What a LONG point taken at the trailing edge leaves of the letter (R12). -/
theorem longTaken_letter {l : Letter} {s : State} (h : findLetter l.id s = some l) :
    ∃ m, findLetter l.id (longTaken l s) = some m ∧
      OnlyScanned (if due s.trk.belt l.longPoint then l.markedLong else l) m ∧
      (longTaken l s).trk = { s.trk with letters := (longTaken l s).trk.letters } := by
  unfold longTaken
  split
  · have hx := findLetter_updated (f := Letter.markedLong) (fun _ => rfl) h
    have hr := completeScan_record l.id (updateLetter l.id Letter.markedLong s)
    obtain ⟨m, hm, ho⟩ := hr.findLetter hx
    exact ⟨m, hm, ho, hr.tracker⟩
  · exact ⟨l, h, rfl, rfl⟩

theorem completeIfPassed_eq {id : LetterId} {s : State} {l : Letter} (h : findLetter id s = some l) :
    completeIfPassed id s =
      if ∃ pos, s.lch.flashPos = some pos ∧ scanEndsBy s.prl.profile pos l = true then completeScan id s else s := by
  unfold completeIfPassed
  rw [h]
  cases s.lch.flashPos with
  | none => simp
  | some pos => simp

theorem completeIfPassed_record (id : LetterId) (s : State) : RecordOnly id s (completeIfPassed id s) := by
  unfold completeIfPassed
  split
  · split
    · exact completeScan_record ..
    · exact .of_trk rfl
  · exact .of_trk rfl

/-- The state with the level of E0 clear. -/
def e0Cleared (s : State) : State := { s with inputs := { s.inputs with e0 := false } }

theorem exec_e0TeEdge {s : State} (ho : s.inReset = false) (he : s.inputs.e0 = true) :
    exec .e0TeEdge s = .next (e0TrailingEdge (e0Cleared s)) := by
  change execE0TeEdge s = _
  simp [execE0TeEdge, onPin, he, ho, e0Cleared]

theorem exec_e0TeEdge_measures {s : State} {l : Letter} (ho : s.inReset = false) (he : s.inputs.e0 = true)
    (h1 : s.lnc.line ≠ .loading) (h2 : s.lnc.line ≠ .faulted) (hl : measuredLetter s = some l) :
    exec .e0TeEdge s = .next (measureLetter l (e0Cleared s)) := by
  rw [exec_e0TeEdge ho he, e0TrailingEdge]
  have hl : measuredLetter (e0Cleared s) = some l := hl
  split
  · next h => exact absurd h h1
  · next h => exact absurd h h2
  all_goals rw [hl]

theorem e0TrailingEdge_discarded {s : State}
    (h : s.lnc.line = .loading ∨ s.lnc.line = .faulted ∨ measuredLetter s = none) :
    e0TrailingEdge s = s := by
  unfold e0TrailingEdge
  split
  · rfl
  · rfl
  all_goals
    split
    · next hl => simp_all
    · rfl

theorem measuredLetter_found {s : State} {l : Letter} (h : measuredLetter s = some l) : findLetter l.id s = some l := by
  obtain ⟨id, -, hf⟩ := Option.bind_eq_some_iff.1 h
  rw [findLetter_id hf]
  exact hf

theorem lengthTaken_tracker (l m : Letter) (s : State) : (lengthTaken l m s).trk.belt = s.trk.belt ∧
    (lengthTaken l m s).trk.lastTe = some s.trk.belt ∧ (lengthTaken l m s).trk.measuring = none := by
  have h : disowned (lengthTaken l m s) = disowned (setLength l.id s) := setReleasePoints_disowned _ _
  have hb := congrArg Tracker.belt h
  have ht := congrArg Tracker.lastTe h
  have hm := congrArg Tracker.measuring h
  exact ⟨hb, ht, hm⟩

theorem lengthTaken_letter {l m : Letter} {s : State} (h : findLetter l.id s = some m) :
    ∃ n, findLetter l.id (lengthTaken l m s) = some n ∧
      n = { m.measured s.trk.belt s.prl.profile.lmin with owned := n.owned } :=
  findLetter_of_disowned (setReleasePoints_disowned _ _) (setLength_letter h)

theorem lengthTaken_frame (l m : Letter) (s : State) : (lengthTaken l m s).lch = s.lch ∧
    (lengthTaken l m s).scan = s.scan ∧ (lengthTaken l m s).held = s.held ∧ (lengthTaken l m s).cnu = s.cnu ∧
    (lengthTaken l m s).pkm = s.pkm ∧ (lengthTaken l m s).prl = s.prl := by
  unfold lengthTaken
  and_intros <;> simp

theorem lengthTaken_traits (l m : Letter) (s : State) : traits (lengthTaken l m s) = traits s :=
  (traits_of_disowned (setReleasePoints_disowned _ _)).trans
    (traits_updateLetter (f := Letter.measured s.trk.belt s.prl.profile.lmin) (fun _ => rfl) s)

/-- The verdict of a letter just measured reads nothing that the release of its gates has changed. -/
theorem lengthTaken_alike {l n : Letter} {s : State}
    (hn : n = { l.measured s.trk.belt s.prl.profile.lmin with owned := n.owned }) :
    JudgedAlike (l.measured s.trk.belt s.prl.profile.lmin) n s (lengthTaken l l s) := by
  obtain ⟨-, -, -, hcnu, hpkm, hprl⟩ := lengthTaken_frame l l s
  have ht := lengthTaken_traits l l s
  rw [hn]
  exact ⟨⟨rfl, rfl, rfl, hcnu, hprl, previousEnd_of_traits ht hprl⟩, rfl, rfl, ⟨rfl, rfl, rfl⟩, hpkm,
    (lengthTaken_tracker l l s).1, successor_traits ht _⟩

theorem scanResults_congr {s t : State} (hs : t.scan = s.scan) (hp : t.prl = s.prl) (id : LetterId) :
    scanResults id t = scanResults id s := by
  simp only [scanResults, scanOf, hs, hp]

theorem scanEndsBy_congr {l n : Letter} (hr : n.results = l.results) (hl : n.lePos = l.lePos)
    (hlen : n.length = l.length) (p : Profile) (pos : Pos) : scanEndsBy p pos n = scanEndsBy p pos l := by
  simp only [scanEndsBy, completionOf, hr, hl, hlen]

/-- A trailing edge without a LONG point reached: the scan completes with the length, or the letter's verdict is left
(R69, R76, R77, R78). -/
theorem measureLetter_judged {l l' : Letter} {s : State} (h : findLetter l.id s = some l)
    (hd : due s.trk.belt l.longPoint = false) (hl' : l' = l.measured s.trk.belt s.prl.profile.lmin) :
    (∀ pos, s.lch.flashPos = some pos → scanEndsBy s.prl.profile pos l' = true →
      ScanJudged (scanResults l.id s) l' s (measureLetter l s)) ∧
    ((∀ pos, s.lch.flashPos = some pos → scanEndsBy s.prl.profile pos l' = false) →
      ∃ n, measureLetter l s = lengthTaken l l s ∧ findLetter l.id (measureLetter l s) = some n ∧
        n = { l' with owned := n.owned }) := by
  have hlong : longTaken l s = s := by simp [longTaken, hd]
  have he := measureLetter_eq (s := s) (l := l) (m := l) (by rw [hlong]; exact h)
  obtain ⟨n, hn, hx⟩ := lengthTaken_letter h
  obtain ⟨hlch, hscan, -, -, -, hprl⟩ := lengthTaken_frame l l s
  have hsame : ∀ pos, scanEndsBy s.prl.profile pos n = scanEndsBy s.prl.profile pos l' :=
    scanEndsBy_congr (by rw [hx, hl']) (by rw [hx, hl']) (by rw [hx, hl']) _
  rw [hlong, completeIfPassed_eq hn, hlch, hprl] at he
  simp only [hsame] at he
  have hid : n.id = l.id := by rw [hx]; rfl
  rw [he]
  subst hl'
  refine ⟨fun pos hp hs => ?_, fun hnot => ?_⟩
  · rw [if_pos ⟨pos, hp, hs⟩, ← scanResults_congr hscan hprl, ← hid]
    exact (completeScan_judged (by rw [hid]; exact hn)).congr (lengthTaken_alike hx)
  · rw [if_neg (by rintro ⟨pos, hp, hs⟩; simp [hnot pos hp] at hs)]
    exact ⟨n, rfl, hn, hx⟩

/-- What a trailing edge gives the letter it measures, and leaves as its place (R6, R9, R11, R12). -/
theorem measureLetter_letter {l : Letter} {s : State} (h : findLetter l.id s = some l) :
    (∃ m, findLetter l.id (measureLetter l s) = some m ∧
      OnlyScanned { (if due s.trk.belt l.longPoint then l.markedLong else l).measured s.trk.belt s.prl.profile.lmin with
        owned := m.owned } m) ∧
    (measureLetter l s).trk.belt = s.trk.belt ∧ (measureLetter l s).trk.lastTe = some s.trk.belt ∧
    (measureLetter l s).trk.measuring = none := by
  obtain ⟨x, hx, hox, hlong⟩ := longTaken_letter h
  have hprl : (longTaken l s).prl = s.prl := by
    unfold longTaken
    split
    · exact (markLong_frame l.id s).2.2.1
    · rfl
  have hbelt : (longTaken l s).trk.belt = s.trk.belt := by rw [hlong]
  obtain ⟨n, hn, hon⟩ := lengthTaken_letter hx
  obtain ⟨h1, h2, h3⟩ := lengthTaken_tracker l x (longTaken l s)
  rw [hprl, hbelt] at hon
  rw [hbelt] at h1 h2
  rw [measureLetter_eq hx]
  have hr := completeIfPassed_record l.id (lengthTaken l x (longTaken l s))
  obtain ⟨m, hm, hom⟩ := hr.findLetter hn
  refine ⟨⟨m, hm, ?_⟩, ?_, ?_, ?_⟩
  · unfold OnlyScanned at hox hom ⊢
    rw [hom, hon, hox]
    rfl
  · rw [hr.tracker, h1]
  · rw [hr.tracker, h2]
  · rw [hr.tracker, h3]

theorem measured_parts {l m : Letter} {te : Pos} {lmin : Nat} {b : Bool}
    (h : OnlyScanned { (if b then l.markedLong else l).measured te lmin with owned := m.owned } m) :
    m.lePos = l.lePos ∧ m.length = some (posDiff l.lePos te) ∧
    m.flags.short = (l.flags.short || decide (posDiff l.lePos te < lmin)) ∧ m.flags.long = (l.flags.long || b) ∧
    m.longPoint = none ∧ m.blockedPoint = none := by
  rw [h]
  cases b <;> simp [Letter.measured, Letter.markedLong]

/-- Settles O25: the edge is the measured letter's, with a LONG point taken first and its scan completed by a flash that
has passed. -/
theorem trailingEdgeMeasures : Obligations.TrailingEdgeMeasures := by
  unfold Obligations.TrailingEdgeMeasures
  intro s ho he
  refine ⟨fun h => ?_, fun l h1 h2 hl => ?_⟩
  · rw [exec_e0TeEdge ho he, e0TrailingEdge_discarded (by exact h)]
    rfl
  · have hf : findLetter l.id (e0Cleared s) = some l := measuredLetter_found hl
    obtain ⟨⟨m, hm, hom⟩, hbelt, hte, hmeas⟩ := measureLetter_letter hf
    obtain ⟨hpos, hlen, hshort, hlong, hlp, hbp⟩ := measured_parts hom
    refine ⟨_, m, exec_e0TeEdge_measures ho he h1 h2 hl, (measureLetter_frame l _).2.1, hte, hmeas, hbelt, hm, hpos,
      hlen,
      hshort, hlong, hlp, hbp, fun l' hd hl' => ?_⟩
    obtain ⟨hends, hleft⟩ := measureLetter_judged hf hd hl'
    have halike : JudgedAlike l' l' s (e0Cleared s) :=
      ⟨⟨rfl, rfl, rfl, rfl, rfl, fun _ => rfl⟩, rfl, rfl, ⟨rfl, rfl, rfl⟩, rfl, rfl, rfl⟩
    refine ⟨fun pos hp hs => ⟨scanResults l.id s, scanResults_get l.id s, (hends pos hp hs).congr halike⟩,
      fun hnot => ?_⟩
    obtain ⟨n, hx, hn, hon⟩ := hleft hnot
    obtain ⟨-, hscan, hheld, hcnu, hpkm, -⟩ := lengthTaken_frame l l (e0Cleared s)
    rw [hm, Option.some.injEq] at hn
    rw [← hn, hl'] at hon
    rw [hx, hon]
    exact ⟨rfl, rfl, rfl, rfl, rfl, hheld, hscan, hcnu, hpkm⟩

end Sys2Proof.Machine
end

section
/-! A record removed at its pocket eye: its count, its report and the list it leaves (R26, R27, R123, R125, R179, R180). -/

namespace Sys2Proof.Machine

/-! ### The count of a removal (R123, R125, R141) -/

theorem settleDraining_tally (k : PocketNo) (s : State) {x : Tally} (hx : x ≠ .traysClosed) :
    tally x (settleDraining k s) = tally x s := by
  have hc : tally x (closeTray k s) = tally x s := by
    have hp : (closeTray k s).pkm.tallies = (bump .traysClosed s).pkm.tallies := by
      simp only [closeTray, refreshCatchFull_frame]
      rfl
    rw [tally, hp]
    exact (tally_bump ..).trans (if_neg hx)
  simp only [settleDraining]
  split
  · exact hc
  · rfl

theorem refreshCatchFull_tally (s : State) (x : Tally) : tally x (refreshCatchFull s) = tally x s :=
  tally_of_pkm (by simp) x

theorem becomeFull_tally (k : PocketNo) (s : State) {x : Tally} (hx : x ≠ .traysClosed) :
    tally x (becomeFull k s) = tally x s := by
  simp only [becomeFull]
  split
  · rw [beginDraining, settleDraining_tally _ _ hx]
    rfl
  · rfl

theorem countDelivery_tally (l : Letter) (k : PocketNo) (s : State) {x : Tally} (hx : x ≠ .traysClosed) :
    tally x (countDelivery l k s) =
      if x = .delivered k then min (tally (.delivered k) s + 1) 4294967295 else tally x s := by
  simp only [countDelivery]
  rw [refreshCatchFull_tally, settleDraining_tally _ _ hx]
  split
  · rw [becomeFull_tally _ _ hx, tally_bump]
    rfl
  · rw [tally_bump]
    rfl

theorem countLoss_tally (l : Letter) (y : Tally) (s : State) {x : Tally} (hx : x ≠ .traysClosed) :
    tally x (countLoss l y s) = if x = y then min (tally y s + 1) 4294967295 else tally x s := by
  simp only [countLoss]
  split
  · rw [refreshCatchFull_tally, settleDraining_tally _ _ hx]
    exact tally_bump ..
  · exact tally_bump ..

/-! ### The report of a removal (R179, R180) -/

/-- The removal of `l` has been reported where the mode calls for it, its report dropped and counted where the queue
holds 64. -/
structure Reported (l : Letter) (d : Disposition) (s t : State) : Prop where
  queued : reportCalled s.prl.profile.reportMode l d = true → s.lki.reports.length < 64 →
    t.lki.reports = s.lki.reports ++ [reportOf l d] ∧ t.lki.dropped = s.lki.dropped
  dropped : reportCalled s.prl.profile.reportMode l d = true → 64 ≤ s.lki.reports.length →
    t.lki.reports = s.lki.reports ∧ t.lki.dropped = min (s.lki.dropped + 1) 65535 ∧
    EventSet.has t.lki.events .reportsDropped = true
  uncalled : reportCalled s.prl.profile.reportMode l d = false →
    t.lki.reports = s.lki.reports ∧ t.lki.dropped = s.lki.dropped

theorem reportRemoval_reported (l : Letter) (d : Disposition) (s : State) : Reported l d s (reportRemoval l d s) := by
  unfold reportRemoval
  refine ⟨fun hc hr => ?_, fun hc hr => ?_, fun hc => ?_⟩
  · rw [if_pos hc, queueReport, if_pos (by exact hr)]
    exact ⟨rfl, rfl⟩
  · rw [if_pos hc, queueReport, if_neg (by simp only [Config.reportCapacity]; omega)]
    exact ⟨rfl, rfl, by rw [raise_has]; simp⟩
  · rw [if_neg (by simp [hc])]
    exact ⟨rfl, rfl⟩

theorem Reported.congr {l : Letter} {d : Disposition} {s s' t t' : State} (h : Reported l d s' t)
    (hl : linkView s' = linkView s) (hp : s'.prl = s.prl) (ht : linkView t' = linkView t)
    (he : EventSet.has t.lki.events .reportsDropped = true → EventSet.has t'.lki.events .reportsDropped = true) :
    Reported l d s t' := by
  have hparts : ∀ {u v : State}, linkView u = linkView v →
      u.lki.reports = v.lki.reports ∧ u.lki.dropped = v.lki.dropped :=
    fun h => by
      simp only [linkView, Link.mk.injEq] at h
      simp_all
  obtain ⟨hr, hd⟩ := hparts hl
  obtain ⟨hr', hd'⟩ := hparts ht
  obtain ⟨h1, h2, h3⟩ := h
  rw [hp, hr, hd] at h1 h2 h3
  rw [← hr', ← hd'] at h1 h2 h3
  refine ⟨h1, fun hc hn => ?_, h3⟩
  obtain ⟨h4, h5, h6⟩ := h2 hc hn
  exact ⟨h4, h5, he h6⟩

/-! ### The record leaves the list (R16, R26, R27, R158) -/

@[simp] theorem checkDrain_linkView (s : State) : linkView (checkDrain s) = linkView s := by
  unfold checkDrain
  split
  · split
    · simp only [endDrain]
      split <;> simp
    · rfl
  · rfl
  · rfl

theorem releaseUnmeasured_disowned (id : LetterId) (s : State) :
    disowned (releaseUnmeasured id s) = disowned s := by
  refine foldl_keeps _ disowned _ (fun s g => ?_) s
  split
  · split
    · exact releaseGateFuel_disowned ..
    · rfl
  · rfl

/-- The state with the record gone and its gates given up, before its count and report. -/
def recordGone (l : Letter) (s : State) : State :=
  refreshListHigh (releaseUnmeasured l.id (dropScan l (dropRecord l s)))

theorem retire_eq (l : Letter) (d : Disposition) (s : State) :
    retire l d s = checkDrain (reportRemoval l d (countRemoval l d (recordGone l s))) := rfl

theorem ids_of_disowned {s t : State} (h : disowned t = disowned s) :
    t.trk.letters.map (·.id) = s.trk.letters.map (·.id) := by
  have hl := congrArg (fun x => x.letters.map Letter.id) h
  simp only [disowned, List.map_map] at hl
  exact hl

theorem recordGone_ids (l : Letter) (s : State) :
    (recordGone l s).trk.letters.map (·.id) = (s.trk.letters.map (·.id)).filter (· != l.id) := by
  rw [recordGone, (refreshListHigh_frame _).2.2.1, ids_of_disowned (releaseUnmeasured_disowned ..), List.filter_map]
  simp only [dropScan_frame, dropRecord_parts]
  rfl

theorem recordGone_kept (l : Letter) (s : State) : (recordGone l s).pkm = s.pkm ∧ (recordGone l s).prl = s.prl ∧
    linkView (recordGone l s) = linkView s := by
  unfold recordGone
  refine ⟨by simp, by simp, ?_⟩
  rw [refreshListHigh, setHold_linkView]
  simp [linkView]

@[simp] theorem countRemoval_linkView (l : Letter) (d : Disposition) (s : State) :
    linkView (countRemoval l d s) = linkView s := by
  cases d with
  | delivered =>
    simp only [countRemoval]
    split
    · simp only [countDelivery]
      split
      · simp only [refreshCatchFull_linkView, settleDraining_linkView, becomeFull_linkView]
        rfl
      · simp only [refreshCatchFull_linkView, settleDraining_linkView]
        rfl
    · rfl
  | lostNoTray => exact countLoss_linkView ..
  | lostFault => exact countLoss_linkView ..

/-- What a removal in the ordinary course does to the list, the count of its disposition and the reports. -/
theorem retire_removed (l : Letter) (d : Disposition) (s : State) :
    (retire l d s).trk.letters.map (·.id) = (s.trk.letters.map (·.id)).filter (· != l.id) ∧
    (∀ x, tally x (retire l d s) = tally x (countRemoval l d (recordGone l s))) ∧ Reported l d s (retire l d s) := by
  obtain ⟨-, hprl, hlink⟩ := recordGone_kept l s
  rw [retire_eq]
  refine ⟨?_, fun x => tally_of_pkm (by simp) x, ?_⟩
  · rw [← recordGone_ids]
    simp
  · refine (reportRemoval_reported l d _).congr ?_ ?_ (by simp) fun he => checkDrain_pending _ he
    · simp [hlink]
    · simp [hprl]

/-! ### The arrival and the expiry point at the pocket eye (R18, R19, R26, R27) -/

/-- The letter with its arrival at eye `e` marked. -/
def Letter.arrivedAt (e : Eye) (l : Letter) : Letter := { l with arrived := l.arrived ++ [e] }

theorem arrive_undelivered {l : Letter} {e : Eye} {s : State} (hd : deliveryEye l e = true)
    (hu : undeliverable l s = true) : arrive l e s = updateLetter l.id (Letter.arrivedAt e) s := by
  have hu : undeliverable l (updateLetter l.id (Letter.arrivedAt e) s) = true := hu
  simp only [arrive, hd, if_true]
  exact if_pos hu

theorem arrive_delivered {l : Letter} {e : Eye} {s : State} (hf : findLetter l.id s = some l)
    (hd : deliveryEye l e = true) (hu : undeliverable l s = false) :
    arrive l e s = retire (l.arrivedAt e) .delivered (updateLetter l.id (Letter.arrivedAt e) s) := by
  have hu : ¬ undeliverable l (updateLetter l.id (fun x => { x with arrived := x.arrived ++ [e] }) s) = true := by
    change ¬ undeliverable l s = true
    simp [hu]
  have hm := findLetter_updated (f := fun x : Letter => { x with arrived := x.arrived ++ [e] }) (fun _ => rfl) hf
  simp only [arrive, if_pos hd, if_neg hu, hm]
  rfl

/-- An arrival mark is no part of a report. -/
theorem Reported.of_arrivedAt {l : Letter} {e : Eye} {d : Disposition} {s t : State}
    (h : Reported (l.arrivedAt e) d s t) : Reported l d s t := by
  have hc : reportCalled s.prl.profile.reportMode (l.arrivedAt e) d = reportCalled s.prl.profile.reportMode l d := by
    cases d <;> rfl
  obtain ⟨h1, h2, h3⟩ := h
  rw [hc] at h1 h2 h3
  exact ⟨h1, h2, h3⟩

theorem exec_eyeLeEdge_arrives {s : State} {e : Eye} {l : Letter} (ho : s.inReset = false) (he : e ≠ .e0)
    (hb : s.inputs.blocked e = false) (hs : s.lnc.line.sampling = true) (hw : waitingAt e s = some l)
    (hopen : reached s.trk.belt (openPoint s.prl.profile l e) = true)
    (hx : reached s.trk.belt (expiryPointAt s.prl.profile l e) = false) :
    exec (.eyeLeEdge ⟨e, true⟩) s = .next (arrive l e { s with inputs := s.inputs.setEye e true }) := by
  rw [exec_eyeLeEdge_leading ho he hb, eyeLeadingEdge_waiting (by exact hs) (by exact hw) (by exact hx),
    if_pos (by exact hopen)]

/-- What the delivery of letter `l` to pocket `k` leaves of the list, the tallies and the reports (R26, R123, R141). -/
theorem retire_delivered {l : Letter} {d : Destination} (hd : l.dest = some d) (s : State) :
    (retire l .delivered s).trk.letters.map (·.id) = (s.trk.letters.map (·.id)).filter (· != l.id) ∧
    tally (.delivered d.pocket) (retire l .delivered s) = min (tally (.delivered d.pocket) s + 1) 4294967295 ∧
    tally .lostNoTray (retire l .delivered s) = tally .lostNoTray s ∧
    tally .lostFault (retire l .delivered s) = tally .lostFault s ∧
    Reported l .delivered s (retire l .delivered s) := by
  obtain ⟨hids, htally, hrep⟩ := retire_removed l .delivered s
  have hc : ∀ x, x ≠ .traysClosed → tally x (retire l .delivered s) =
      if x = .delivered d.pocket then min (tally (.delivered d.pocket) s + 1) 4294967295 else tally x s := by
    intro x hx
    have hk : ∀ y, tally y (recordGone l s) = tally y s := tally_of_pkm (recordGone_kept l s).1
    rw [htally, countRemoval, hd, ← hk, ← hk x]
    exact countDelivery_tally l d.pocket _ hx
  refine ⟨hids, ?_, ?_, ?_, hrep⟩ <;> simp [hc]

/-- What the loss of letter `l` without a tray leaves of the list, the tallies and the reports (R27, R125, R141). -/
theorem retire_lostNoTray (l : Letter) (s : State) :
    (retire l .lostNoTray s).trk.letters.map (·.id) = (s.trk.letters.map (·.id)).filter (· != l.id) ∧
    tally .lostNoTray (retire l .lostNoTray s) = min (tally .lostNoTray s + 1) 4294967295 ∧
    (∀ k, tally (.delivered k) (retire l .lostNoTray s) = tally (.delivered k) s) ∧
    tally .lostFault (retire l .lostNoTray s) = tally .lostFault s ∧
    Reported l .lostNoTray s (retire l .lostNoTray s) := by
  obtain ⟨hids, htally, hrep⟩ := retire_removed l .lostNoTray s
  have hc : ∀ x, x ≠ .traysClosed → tally x (retire l .lostNoTray s) =
      if x = .lostNoTray then min (tally .lostNoTray s + 1) 4294967295 else tally x s := by
    intro x hx
    have hk : ∀ y, tally y (recordGone l s) = tally y s := tally_of_pkm (recordGone_kept l s).1
    rw [htally, countRemoval, ← hk, ← hk x]
    exact countLoss_tally l .lostNoTray _ hx
  refine ⟨hids, ?_, ?_, ?_, hrep⟩ <;> simp [hc]

theorem expire_lost {l : Letter} {e : Eye} {s : State} (hd : deliveryEye l e = true)
    (h : e ∈ l.arrived ∨ undeliverable l s = true) : expire l e s = retire l .lostNoTray s := by
  rw [expire, if_pos (by simpa [hd] using h)]

/-- Settles O28: a delivery or a loss retires the record, counting and reporting it. -/
theorem lettersLeaveAtPocketEye : Obligations.LettersLeaveAtPocketEye := by
  unfold Obligations.LettersLeaveAtPocketEye
  refine ⟨fun s e l d ho he hb hs hw hf hd hp hopen hx => ?_, fun s id e l ho hf hst hdel hor hx => ?_⟩
  · have hdel : deliveryEye l e = true := by simp [deliveryEye, ownPocketEye, hd, hp]
    rw [exec_eyeLeEdge_arrives ho he hb hs hw hopen hx]
    refine ⟨fun hu => ?_, fun hu => ⟨_, rfl, ?_⟩⟩
    · rw [arrive_undelivered hdel (by exact hu), updateLetter_eq]
      rfl
    · rw [arrive_delivered (by exact hf) hdel (by exact hu)]
      generalize hv : updateLetter l.id (Letter.arrivedAt e) { s with inputs := s.inputs.setEye e true } = v
      obtain ⟨hids, hdelivered, hnone, hfault, hrep⟩ := retire_delivered (l := l.arrivedAt e) (by exact hd) v
      have hvids : v.trk.letters.map (·.id) = s.trk.letters.map (·.id) := by
        rw [← hv]
        exact updateList_ids _ _ (by exact fun _ => rfl) _
      have hrep := hrep.of_arrivedAt.congr (s := s) (t' := retire (l.arrivedAt e) .delivered v) (by rw [← hv]; rfl)
        (by rw [← hv]; rfl) rfl id
      have ht : ∀ x, tally x v = tally x s := fun x => by rw [← hv]; rfl
      rw [hvids] at hids
      rw [ht] at hdelivered hnone hfault
      exact ⟨by rw [(retire_frame _ _ v).2.1, ← hv]; rfl, hids, hdelivered, hnone, hfault, hrep.queued, hrep.dropped,
        hrep.uncalled⟩
  · obtain ⟨hids, hlost, hdelivered, hfault, hrep⟩ := retire_lostNoTray l s
    rw [exec_expiryPoint ho hf hst hx, expire_lost hdel hor]
    rw [findLetter_id hf] at hids
    exact ⟨_, rfl, hids, hlost, hdelivered, hfault, fun hc hr => (hrep.queued hc hr).1, hrep.dropped,
      fun hc => (hrep.uncalled hc).1⟩

end Sys2Proof.Machine
end

section
/-! Gates taken at a setup point and handed on at a release point (R23, R24, R25). -/

namespace Sys2Proof.Machine

/-! ### Taking a gate (R23) -/

/-- The gate as letter `l` takes it. -/
def gateFor (p : Profile) (l : Letter) (g : GateId) : Gate :=
  ⟨some ⟨l.id, requiredSetting l g, releasePointOf p l g⟩, requiredSetting l g⟩

theorem takeGate_eq (l : Letter) (g : GateId) (s : State) : takeGate l g s = { s with trk := { s.trk with
    letters := s.trk.letters.map fun x => if x.id = l.id then { x with owned := x.owned ++ [g] } else x
    gates := s.trk.gates.set (gateIdx g) (gateFor s.prl.profile l g) } } := by
  simp only [takeGate]
  rw [updateLetter_eq]
  rfl

theorem gateOf_takeGate (l : Letter) (g : GateId) (s : State) :
    gateOf g (takeGate l g s) = gateFor s.prl.profile l g := by
  rw [takeGate_eq]
  simp [gateOf]

/-- Releasing a gate that `l` has just taken releases it only where its release point is reached. -/
theorem releaseIfDue_takeGate (l : Letter) (g : GateId) (s : State) : releaseIfDue g (takeGate l g s) =
    if due s.trk.belt (releasePointOf s.prl.profile l g) then releaseGate g (takeGate l g s) else takeGate l g s := by
  rw [releaseIfDue, gateOf_takeGate]
  rfl

theorem reachSetup_owned {l : Letter} {g : GateId} {s : State} (h : (gateOf g s).owner.isSome = true) :
    reachSetup l g s = updateLetter l.id (fun x => { x with setupReached := x.setupReached ++ [g] }) s := by
  obtain ⟨o, ho⟩ := Option.isSome_iff_exists.1 h
  have ho : (gateOf g (updateLetter l.id (fun x => { x with setupReached := x.setupReached ++ [g] }) s)).owner =
      some o :=
    ho
  simp only [reachSetup, ho]

theorem reachSetup_free {l : Letter} {g : GateId} {s : State} (h : (gateOf g s).owner = none) :
    reachSetup l g s = releaseIfDue g
      (takeGate l g (updateLetter l.id (fun x => { x with setupReached := x.setupReached ++ [g] }) s)) := by
  have ho : (gateOf g (updateLetter l.id (fun x => { x with setupReached := x.setupReached ++ [g] }) s)).owner =
      none := h
  simp only [reachSetup, ho]

theorem exec_setupPoint {s : State} {id : LetterId} {g : GateId} {l : Letter} (ho : s.inReset = false)
    (hl : findLetter id s = some l) (hr : g ∈ routeGates l) (hn : g ∉ l.setupReached)
    (hx : reached s.trk.belt (setupPointAt s.prl.profile l g) = true) :
    exec (.setupPoint id g) s = .next (reachSetup l g s) := by
  change live (reachSetupPoint id g) s = _
  rw [live_out ho]
  simp [reachSetupPoint, hl, hr, hn, hx]

/-! ### Handing a gate on (R24) -/

/-- The record has reached the gate's setup point and has not owned the gate (R24). -/
def waits (g : GateId) (l : Letter) : Bool := decide (g ∈ l.setupReached) && !decide (g ∈ l.owned)

theorem nextOwner_eq (g : GateId) (s : State) : nextOwner g s = s.trk.letters.find? (waits g) := rfl

/-- The records that wait for the gate. -/
def waiting (g : GateId) (s : State) : Nat := s.trk.letters.countP (waits g)

theorem countP_lt_of_imp {α : Type} {p q : α → Bool} {a : α} {ls : List α} (h : ∀ x, q x = true → p x = true)
    (ha : a ∈ ls) (hp : p a = true) (hq : q a = false) : ls.countP q < ls.countP p := by
  induction ls with
  | nil => simp at ha
  | cons b ls ih =>
    have hle : ls.countP q ≤ ls.countP p := List.countP_mono_left fun x _ => h x
    rw [List.countP_cons, List.countP_cons]
    rcases List.mem_cons.1 ha with rfl | ha
    · simp only [hp, hq]
      simp
      omega
    · have := ih ha
      have hb := h b
      cases hqb : q b <;> cases hpb : p b <;> simp_all

theorem waiting_takeGate {l : Letter} {g : GateId} {s : State} (h : nextOwner g s = some l) :
    waiting g (takeGate l g s) < waiting g s := by
  rw [takeGate_eq, waiting, waiting, List.countP_map]
  refine countP_lt_of_imp (a := l) (fun x hx => ?_) (List.mem_of_find?_eq_some h) (List.find?_some h) ?_
  · simp only [Function.comp_apply] at hx
    split at hx
    · simp only [waits, List.mem_append, List.mem_singleton] at hx
      simp at hx
    · exact hx
  · simp [waits]

theorem releaseGateFuel_none {g : GateId} {s : State} (h : nextOwner g s = none) (n : Nat) :
    releaseGateFuel n g s = setGate g .atRest s := by
  cases n with
  | zero => rfl
  | succ n => simp only [releaseGateFuel, h]

theorem releaseGateFuel_some {g : GateId} {s : State} {l : Letter} (h : nextOwner g s = some l) (n : Nat) :
    releaseGateFuel (n + 1) g s = if due s.trk.belt (releasePointOf s.prl.profile l g)
      then releaseGateFuel n g (takeGate l g s) else takeGate l g s := by
  simp only [releaseGateFuel, h]
  rfl

/-- Fuel for each record that waits is enough (R24). -/
theorem releaseGateFuel_enough (g : GateId) (n m : Nat) (s : State) (hn : waiting g s ≤ n) (hm : waiting g s ≤ m) :
    releaseGateFuel n g s = releaseGateFuel m g s := by
  induction n generalizing m s with
  | zero =>
    have hnone : nextOwner g s = none := List.find?_eq_none.2 (List.countP_eq_zero.1 (Nat.le_zero.1 hn))
    rw [releaseGateFuel_none hnone, releaseGateFuel_none hnone]
  | succ n ih =>
    cases hl : nextOwner g s with
    | none => rw [releaseGateFuel_none hl, releaseGateFuel_none hl]
    | some l =>
      have hlt := waiting_takeGate hl
      obtain ⟨m, rfl⟩ : ∃ k, m = k + 1 := Nat.exists_eq_succ_of_ne_zero (by omega)
      rw [releaseGateFuel_some hl, releaseGateFuel_some hl, ih m _ (by omega) (by omega)]

theorem releaseGate_none {g : GateId} {s : State} (h : nextOwner g s = none) :
    releaseGate g s = setGate g .atRest s := releaseGateFuel_none h _

/-- The gate released goes to the oldest waiting letter, which hands it on where its own release point is reached. -/
theorem releaseGate_some {g : GateId} {s : State} {l : Letter} (h : nextOwner g s = some l) :
    releaseGate g s = releaseIfDue g (takeGate l g s) := by
  have hlt := waiting_takeGate h
  have hle : waiting g s ≤ s.trk.letters.length := List.countP_le_length
  have hlen : (takeGate l g s).trk.letters.length = s.trk.letters.length := by simp [takeGate_eq]
  rw [releaseIfDue_takeGate, releaseGate, releaseGateFuel_some h, releaseGate,
    releaseGateFuel_enough g _ ((takeGate l g s).trk.letters.length + 1) _ (by omega) (by omega)]

theorem releaseIfDue_of {g : GateId} {s : State} {o : GateOwner} (h : (gateOf g s).owner = some o) :
    releaseIfDue g s = if due s.trk.belt o.release then releaseGate g s else s := by
  simp only [releaseIfDue, h]

theorem exec_releasePoint {s : State} (g : GateId) (ho : s.inReset = false) :
    exec (.releasePoint g) s = .next (releaseIfDue g s) := by
  change live (releaseIfDue g) s = _
  exact live_out ho _

/-- The letter marked at its setup point and then the owner of the gate, in one update. -/
theorem takeGate_setup {id : LetterId} {g : GateId} {l : Letter} (s : State) (h : l.id = id) :
    takeGate l g (updateLetter l.id (fun x => { x with setupReached := x.setupReached ++ [g] }) s) =
      { s with trk := { s.trk with
        letters := s.trk.letters.map fun x =>
          if x.id = id then { x with setupReached := x.setupReached ++ [g], owned := x.owned ++ [g] } else x
        gates := s.trk.gates.set (gateIdx g)
          ⟨some ⟨id, requiredSetting l g, releasePointOf s.prl.profile l g⟩, requiredSetting l g⟩ } } := by
  subst h
  have hmap : ((s.trk.letters.map fun x =>
        if x.id = l.id then { x with setupReached := x.setupReached ++ [g] } else x).map fun x =>
        if x.id = l.id then { x with owned := x.owned ++ [g] } else x) = s.trk.letters.map fun x =>
        if x.id = l.id then { x with setupReached := x.setupReached ++ [g], owned := x.owned ++ [g] } else x := by
    rw [List.map_map]
    refine List.map_congr_left fun x _ => ?_
    by_cases hx : x.id = l.id <;> simp [hx]
  rw [← hmap, takeGate_eq, updateLetter_eq]
  rfl

theorem releaseIfDue_takeGate_early {l : Letter} {g : GateId} {s : State}
    (h : due s.trk.belt (releasePointOf s.prl.profile l g) = false) :
    releaseIfDue g (takeGate l g s) = takeGate l g s := by
  rw [releaseIfDue_takeGate, if_neg (by simp [h])]

/-! ### The settings and release points (R23, R25) -/

theorem requiredSetting_g0 (l : Letter) : requiredSetting l .g0 = true ↔ l.route = some .cull := by
  unfold requiredSetting
  split <;> simp_all

theorem requiredSetting_g1 (l : Letter) :
    requiredSetting l .g1 = true ↔ ∃ cls, l.route = some (.main true cls) := by
  unfold requiredSetting
  split <;> simp_all

theorem requiredSetting_bank (l : Letter) (k : Fin 8) :
    requiredSetting l (.bg k) = true ↔ ∃ d, l.dest = some d ∧ d.pocket.val = k.val + 1 := by
  unfold requiredSetting
  cases l.dest <;> simp

theorem releasePointOf_length {l : Letter} {len : Int} (h : l.length = some len) (p : Profile) (g : GateId) :
    releasePointOf p l g = some (l.lePos + BitVec.ofNat 32 (p.gateOffset g) + BitVec.ofInt 32 len) := by
  rw [releasePointOf, h]
  rfl

end Sys2Proof.Machine
end

section
/-! Gates given up: at the removal of a letter without a length, and at a release point set with its length (R23, R24). -/

namespace Sys2Proof.Machine

/-! ### What one gate sees of a state -/

/-- A record as gate `g` sees it: of the gates it has owned, `g` alone. -/
def Letter.seenAt (g : GateId) (l : Letter) : Letter := { l with owned := l.owned.filter (· = g) }

/-- What the release of gate `g` reads. -/
def waitView (g : GateId) (s : State) : Pos × Loader × List Letter :=
  (s.trk.belt, s.prl, s.trk.letters.map (Letter.seenAt g))

/-- Gate `g` and what its release reads. -/
def gateView (g : GateId) (s : State) : Gate × Pos × Loader × List Letter := (gateOf g s, waitView g s)

theorem setGate_gateView {g k : GateId} (h : k ≠ g) (x : Gate) (s : State) :
    gateView g (setGate k x s) = gateView g s := by
  rw [gateView, setGate_other h.symm]
  rfl

theorem updateOwner_gateView {g k : GateId} (h : k ≠ g) (f : GateOwner → GateOwner) (s : State) :
    gateView g (updateOwner f k s) = gateView g s := setGate_gateView h _ s

theorem takeGate_gateView {g k : GateId} (h : k ≠ g) (l : Letter) (s : State) :
    gateView g (takeGate l k s) = gateView g s := by
  have hl : (takeGate l k s).trk.letters.map (Letter.seenAt g) = s.trk.letters.map (Letter.seenAt g) := by
    rw [takeGate_eq, List.map_map]
    refine List.map_congr_left fun x _ => ?_
    simp only [Function.comp_apply]
    split
    · simp [Letter.seenAt, h]
    · rfl
  rw [gateView, waitView, hl]
  exact setGate_gateView h (gateFor s.prl.profile l k) s

theorem releaseGateFuel_gateView {g k : GateId} (h : k ≠ g) (n : Nat) (s : State) :
    gateView g (releaseGateFuel n k s) = gateView g s := by
  induction n generalizing s with
  | zero => exact setGate_gateView h _ s
  | succ n ih =>
    cases hl : nextOwner k s with
    | none => rw [releaseGateFuel_none hl, setGate_gateView h]
    | some l =>
      rw [releaseGateFuel_some hl]
      split
      · rw [ih, takeGate_gateView h]
      · exact takeGate_gateView h l s

theorem releaseIfDue_gateView {g k : GateId} (h : k ≠ g) (s : State) :
    gateView g (releaseIfDue k s) = gateView g s := by
  unfold releaseIfDue
  split
  · split
    · exact releaseGateFuel_gateView h _ s
    · rfl
  · rfl

/-- A pass over the gates comes to gate `g` once, with the gate as it stood. -/
theorem foldl_at_gate {f : State → GateId → State} {g : GateId} {gs : List GateId}
    (hf : ∀ s k, k ≠ g → gateView g (f s k) = gateView g s) (hgs : gs.Nodup) (hg : g ∈ gs) (s : State) :
    ∃ w, gateView g w = gateView g s ∧ gateOf g (gs.foldl f s) = gateOf g (f w g) := by
  have hkeep : ∀ (l : List GateId) (s : State), g ∉ l → gateView g (l.foldl f s) = gateView g s := by
    intro l
    induction l with
    | nil => exact fun _ _ => rfl
    | cons k l ih =>
      intro s hl
      rw [List.mem_cons, not_or] at hl
      obtain ⟨hk, hl⟩ := hl
      rw [List.foldl_cons, ih _ hl, hf s k (Ne.symm hk)]
  obtain ⟨a, b, rfl⟩ := List.append_of_mem hg
  have hab := List.nodup_append.1 hgs
  refine ⟨a.foldl f s, hkeep a s ?_, ?_⟩
  · exact fun h => hab.2.2 g h g (by simp) rfl
  · rw [List.foldl_append, List.foldl_cons]
    exact congrArg Prod.fst (hkeep b _ (List.nodup_cons.1 hab.2.1).1)

/-! ### The gate handed on (R24) -/

theorem waits_seenAt (g : GateId) (l : Letter) : waits g (l.seenAt g) = waits g l := by
  have hm : g ∈ (l.seenAt g).owned ↔ g ∈ l.owned := by simp [Letter.seenAt]
  rw [waits, decide_eq_decide.2 hm]
  rfl

theorem nextOwner_seenAt (g : GateId) (s : State) :
    (nextOwner g s).map (Letter.seenAt g) = (s.trk.letters.map (Letter.seenAt g)).find? (waits g) := by
  rw [List.find?_map, nextOwner_eq]
  congr 2
  exact funext fun l => (waits_seenAt g l).symm

/-- The records of a state but those of letter `id`. -/
def others (id : LetterId) (s : State) : List Letter := s.trk.letters.filter (·.id != id)

/-- A gate released where only the other letters of `s` can wait for it has been given up by letter `id`. -/
theorem releaseGate_givenUp {g : GateId} {id : LetterId} {s u w t : State} (hv : waitView g w = waitView g u)
    (hn : nextOwner g u = (others id s).find? (waits g)) (hb : u.trk.belt = s.trk.belt) (hp : u.prl = s.prl)
    (ht : gateOf g t = gateOf g (releaseGate g w)) : GateGivenUp g id s t := by
  simp only [waitView, Prod.mk.injEq] at hv
  obtain ⟨hbelt, hprl, hletters⟩ := hv
  have hseen : (nextOwner g w).map (Letter.seenAt g) = ((others id s).find? (waits g)).map (Letter.seenAt g) := by
    rw [nextOwner_seenAt, hletters, ← nextOwner_seenAt, hn]
  refine ⟨fun hall => ?_, fun n hfind hdue => ?_⟩
  · have hnone : (others id s).find? (waits g) = none := by
      rw [List.find?_eq_none]
      intro x hx
      obtain ⟨hx, hid⟩ := List.mem_filter.1 hx
      have := hall x hx (by simpa using hid)
      simp only [waits]
      by_cases h : g ∈ x.setupReached <;> simp_all
    rw [hnone] at hseen
    rw [ht, releaseGate_none (by simpa using hseen), setGate_self]
    rfl
  · have hsome : (others id s).find? (waits g) = some n := by
      rw [others, List.find?_filter, ← hfind]
      refine List.find?_congr fun x _ => ?_
      cases x.id != id <;> simp [waits]
    rw [hsome, Option.map_some, Option.map_eq_some_iff] at hseen
    obtain ⟨m, hm, hmn⟩ := hseen
    have hgate := congrArg (gateFor w.prl.profile · g) hmn
    have hpoint := congrArg (releasePointOf w.prl.profile · g) hmn
    change gateFor w.prl.profile m g = gateFor w.prl.profile n g at hgate
    change releasePointOf w.prl.profile m g = releasePointOf w.prl.profile n g at hpoint
    rw [ht, releaseGate_some hm, releaseIfDue_takeGate_early, gateOf_takeGate, hgate, hprl, hp]
    · rfl
    · rw [hpoint, hbelt, hprl, hb, hp]
      exact hdue

/-! ### A letter removed (R24) -/

/-- A gate of a letter without a length, as the letter's removal passes it. -/
def giveUpUnmeasured (s : State) (g : GateId) : State :=
  match (gateOf g s).owner with
  | some o => if o.release.isNone then releaseGate g s else s
  | none => s

theorem giveUpUnmeasured_gateView {g : GateId} (s : State) (k : GateId) (h : k ≠ g) :
    gateView g (giveUpUnmeasured s k) = gateView g s := by
  unfold giveUpUnmeasured
  split
  · split
    · exact releaseGateFuel_gateView h _ s
    · rfl
  · rfl

theorem releaseUnmeasured_gatesLeft {l : Letter} {s u t : State} (hl : u.trk.letters = others l.id s)
    (hg : ∀ g, gateOf g u = gateOf g s) (hb : u.trk.belt = s.trk.belt) (hp : u.prl = s.prl)
    (ht : ∀ g, gateOf g t = gateOf g (releaseUnmeasured l.id u)) : GatesLeft l s t := by
  intro g o ho hid
  obtain ⟨w, hw, hgate⟩ := foldl_at_gate (f := giveUpUnmeasured) (fun s k h => giveUpUnmeasured_gateView s k h)
    (gatesOwnedBy_nodup l.id u) (mem_gatesOwnedBy.2 ⟨o, by rw [hg, ho], hid⟩) u
  obtain ⟨hwg, hwv⟩ := Prod.mk.inj hw
  have ht : gateOf g t = gateOf g (giveUpUnmeasured w g) := (ht g).trans hgate
  rw [giveUpUnmeasured, hwg, hg, ho] at ht
  refine ⟨fun hr => ?_, fun hr => ?_⟩
  · have hn : ¬ o.release.isNone = true := by simpa using hr
    simp only [if_neg hn] at ht
    rw [ht, hwg, hg]
  · simp only [hr, Option.isNone_none, if_true] at ht
    exact releaseGate_givenUp hwv (by rw [nextOwner_eq, hl]) hb hp ht

theorem retire_gatesLeft {l : Letter} {d : Disposition} {s s' : State} (hl : others l.id s' = others l.id s)
    (hg : s'.trk.gates = s.trk.gates) (hb : s'.trk.belt = s.trk.belt) (hp : s'.prl = s.prl) :
    GatesLeft l s (retire l d s') := by
  refine releaseUnmeasured_gatesLeft (u := dropScan l (dropRecord l s')) ?_ (fun g => ?_) ?_ ?_ fun g => ?_
  · rw [(dropScan_frame l _).2.2.1]
    exact hl
  · simp [gateOf, hg]
  · simp [hb]
  · simp [hp]
  · rw [retire_eq, gateOf, gateOf]
    simp [recordGone]

/-! ### A letter measured (R23) -/

/-- Letters that own the gate do not wait for it, whatever else of them changes. -/
theorem find_waits_updated {g : GateId} {id : LetterId} {f : Letter → Letter} {ls : List Letter}
    (h : ∀ x ∈ ls, x.id = id → g ∈ (f x).owned) :
    (updateList id f ls).find? (waits g) = (ls.filter (·.id != id)).find? (waits g) := by
  induction ls with
  | nil => rfl
  | cons x ls ih =>
    have ih := ih fun y hy => h y (List.mem_cons_of_mem _ hy)
    rw [updateList] at ih ⊢
    by_cases hx : x.id = id
    · have hw : waits g (f x) = false := by simp [waits, h x (by simp) hx]
      rw [List.map_cons, if_pos (by simpa using hx), List.find?_cons_of_neg (by simp [hw]), ih,
        List.filter_cons_of_neg (by simp [hx])]
    · rw [List.map_cons, if_neg (by simpa using hx), List.filter_cons_of_pos (by simpa using hx), List.find?_cons,
        List.find?_cons, ih]

/-- A gate of letter `l` as the letter's length passes it. -/
def setReleasePoint (l : Letter) (s : State) (g : GateId) : State :=
  releaseIfDue g (updateOwner (fun o => { o with release := releasePointOf s.prl.profile l g }) g s)

theorem setReleasePoint_gateView (l : Letter) {g : GateId} (s : State) (k : GateId) (h : k ≠ g) :
    gateView g (setReleasePoint l s k) = gateView g s := by
  rw [setReleasePoint, releaseIfDue_gateView h, updateOwner_gateView h]

/-- Each gate that letter `m` owns has its release point set, and is given up where it is reached. -/
theorem setReleasePoints_measured {m : Letter} {g : GateId} {o : GateOwner} {point : Pos} {s u : State}
    (ho : (gateOf g u).owner = some o) (hid : o.id = m.id) (hp : u.prl = s.prl) (hb : u.trk.belt = s.trk.belt)
    (hpoint : releasePointOf s.prl.profile m g = some point)
    (hn : nextOwner g u = (others m.id s).find? (waits g)) :
    (reached s.trk.belt point = false → gateOf g (setReleasePoints m u) =
      { gateOf g u with owner := some { o with release := some point } }) ∧
    (reached s.trk.belt point = true → GateGivenUp g m.id s (setReleasePoints m u)) := by
  obtain ⟨w, hw, hgate⟩ := foldl_at_gate (f := setReleasePoint m) (fun s k h => setReleasePoint_gateView m s k h)
    (gatesOwnedBy_nodup m.id u) (mem_gatesOwnedBy.2 ⟨o, ho, hid⟩) u
  obtain ⟨hwg, hwv⟩ := Prod.mk.inj hw
  have hwb : w.trk.belt = u.trk.belt := congrArg Prod.fst hwv
  have hwp : w.prl = u.prl := congrArg (fun v => v.2.1) hwv
  generalize hx : updateOwner (fun o => { o with release := releasePointOf w.prl.profile m g }) g w = x
  have hxg : gateOf g x = { gateOf g u with owner := some { o with release := some point } } := by
    rw [← hx, gateOf_updateOwner, if_pos rfl, hwg, ho, hwp, hp, hpoint]
    rfl
  have hxv : waitView g x = waitView g u := by
    rw [← hx, ← hwv]
    rfl
  have hxb : x.trk.belt = s.trk.belt := (congrArg Prod.fst hxv).trans hb
  have ht : gateOf g (setReleasePoints m u) = gateOf g (releaseIfDue g x) := by
    rw [← hx]
    exact hgate
  rw [releaseIfDue_of (o := { o with release := some point }) (by rw [hxg]), hxb] at ht
  refine ⟨fun hr => ?_, fun hr => ?_⟩
  · rw [ht, if_neg (by simp [due, hr]), hxg]
  · rw [if_pos (by simp [due, hr])] at ht
    exact releaseGate_givenUp hxv hn hb hp ht

/-- A LONG point taken at the trailing edge changes the letter's records alone, and not what they have owned. -/
theorem longTaken_updated (l : Letter) (s : State) : ∃ f : Letter → Letter,
    (∀ x, (f x).id = x.id ∧ (f x).owned = x.owned) ∧ (longTaken l s).trk = (updateLetter l.id f s).trk ∧
    (longTaken l s).prl = s.prl := by
  unfold longTaken
  split
  · obtain ⟨f, hf, ht⟩ := completeScan_record l.id (updateLetter l.id Letter.markedLong s)
    refine ⟨fun x => f x.markedLong, fun x => ?_, ?_, (markLong_frame l.id s).2.2.1⟩
    · change (f x.markedLong).id = x.id ∧ (f x.markedLong).owned = x.owned
      rw [hf x.markedLong]
      exact ⟨rfl, rfl⟩
    · rw [markLong_eq, ht, updateLetter_updateLetter (by exact fun _ => rfl)]
  · refine ⟨id, fun _ => ⟨rfl, rfl⟩, ?_, rfl⟩
    rw [updateLetter_eq]
    simp

theorem measureLetter_gates {l : Letter} {s : State} (h : findLetter l.id s = some l) :
    GatesMeasured l (posDiff l.lePos s.trk.belt) s (measureLetter l s) := by
  intro g o point ho hid howned hpoint
  obtain ⟨x, hx, hox, -⟩ := longTaken_letter h
  obtain ⟨f, hf, htrk, hprl⟩ := longTaken_updated l s
  have hbelt : (longTaken l s).trk.belt = s.trk.belt := by rw [htrk]; rfl
  have hxpos : x.lePos = l.lePos ∧ x.id = l.id := by
    rw [hox]
    split <;> exact ⟨rfl, rfl⟩
  generalize hm : x.measured s.trk.belt s.prl.profile.lmin = m
  have hmid : m.id = l.id := by rw [← hm]; exact hxpos.2
  have hmlen : m.length = some (posDiff l.lePos s.trk.belt) := by rw [← hm, ← hxpos.1]; rfl
  have hmpos : m.lePos = l.lePos := by rw [← hm]; exact hxpos.1
  have ht : gateOf g (measureLetter l s) = gateOf g (setReleasePoints m (setLength l.id (longTaken l s))) := by
    rw [measureLetter_eq hx, gateOf, (completeIfPassed_record l.id _).tracker, lengthTaken, hbelt, hprl, hm]
    rfl
  have hn : nextOwner g (setLength l.id (longTaken l s)) = (others l.id s).find? (waits g) := by
    have hl : (setLength l.id (longTaken l s)).trk.letters =
        updateList l.id (fun y => (f y).measured s.trk.belt s.prl.profile.lmin) s.trk.letters := by
      rw [setLength_trk, hbelt, hprl]
      change updateList l.id (Letter.measured s.trk.belt s.prl.profile.lmin) (longTaken l s).trk.letters = _
      rw [htrk]
      exact congrArg (fun u => u.trk.letters) (updateLetter_updateLetter fun y => (hf y).1)
    rw [nextOwner_eq, hl]
    exact find_waits_updated fun y hy hid => by
      change g ∈ (f y).owned
      rw [(hf y).2]
      exact howned y hy hid
  have hg : gateOf g (setLength l.id (longTaken l s)) = gateOf g s := by
    change (longTaken l s).trk.gates[gateIdx g] = _
    rw [htrk]
    rfl
  obtain ⟨h1, h2⟩ := setReleasePoints_measured (m := m) (s := s) (point := point) (by rw [hg, ho]) (by rw [hid, hmid])
    (by simp [hprl]) (by rw [setLength_trk]; exact hbelt) (by rw [releasePointOf_length hmlen, hmpos, hpoint])
    (by rw [hmid]; exact hn)
  rw [hmid] at h2
  refine ⟨fun hr => by rw [ht, h1 hr, hg], fun hr => ?_⟩
  obtain ⟨hrest, htaken⟩ := h2 hr
  exact ⟨fun hall => ht.trans (hrest hall), fun n hn hd => ht.trans (htaken n hn hd)⟩

end Sys2Proof.Machine
end

section
/-! The pocket decision point and its gate, and the gate rules together (R23, R24, R25, R121). -/

namespace Sys2Proof.Machine

/-! ### The pocket decision point (R25, R121) -/

/-- The gates of a state and the ids of its records. -/
def gatesAndIds (s : State) : Vector Gate 10 × List LetterId := (s.trk.gates, s.trk.letters.map (·.id))

theorem writeOutcome_gatesAndIds (id : LetterId) (o : CancelOutcome) (m : Option MissedReason) (s : State) :
    gatesAndIds (writeOutcome id o m s) = gatesAndIds s := by
  have hl : gatesAndIds (updateLetter id (fun l =>
      { l with cancel := l.cancel.map fun c => { c with outcome := o, missed := m } }) s) = gatesAndIds s :=
    congrArg (s.trk.gates, ·) (updateList_ids _ _ (by exact fun _ => rfl) _)
  simp only [writeOutcome]
  split
  · exact hl
  · exact hl

theorem reachFireEnd_gatesAndIds (h : Head) (s : State) : gatesAndIds (reachFireEnd h s) = gatesAndIds s := by
  simp only [reachFireEnd]
  split
  · simp only [endPrint]
    split
    · exact writeOutcome_gatesAndIds ..
    · rfl
  · rfl

theorem settlePrint_gatesAndIds (id : LetterId) (s : State) : gatesAndIds (settlePrint id s) = gatesAndIds s := by
  have hf : ∀ (h : Head) (u : State), gatesAndIds
      (if (u.cnu.heads.get h).printing = some id then reachFireEnd h u else u) = gatesAndIds u := by
    intro h u
    split
    · exact reachFireEnd_gatesAndIds h u
    · rfl
  simp only [settlePrint, hf]

theorem findLetter_of_ids {id : LetterId} {s t : State} {l : Letter}
    (h : t.trk.letters.map (·.id) = s.trk.letters.map (·.id)) (hl : findLetter id s = some l) :
    ∃ m, findLetter id t = some m := by
  have hmem : id ∈ t.trk.letters.map (·.id) := by
    rw [h, ← findLetter_id hl]
    exact List.mem_map_of_mem (List.mem_of_find?_eq_some hl)
  obtain ⟨x, hx, hid⟩ := List.mem_map.1 hmem
  exact Option.isSome_iff_exists.1 (List.find?_isSome.2 ⟨x, hx, by simp [hid]⟩)

theorem exec_pocketDecisionPoint {s : State} {id : LetterId} {l m : Letter} (ho : s.inReset = false)
    (hl : findLetter id s = some l) (hd : due s.trk.belt l.pdecPoint = true)
    (hm : findLetter id (settlePrint id s) = some m) :
    exec (.pocketDecisionPoint id) s = .next (decidePocket m (settlePrint id s)) := by
  change live (reachDecision id) s = _
  rw [live_out ho]
  simp only [reachDecision, hl, hd, if_true, hm]

/-- The letter with its destination written (R121). -/
def Letter.sentTo (d : Destination) (l : Letter) : Letter := { l with dest := some d, pdecPoint := none }

theorem decidePocket_eq {l : Letter} {s : State} (h : findLetter l.id s = some l) :
    ∃ d, decidePocket l s =
        driveOwnedBank (l.sentTo d) (updateLetter l.id (Letter.sentTo d) (assignPocket d.pocket s)) ∧
      findLetter l.id (updateLetter l.id (Letter.sentTo d) (assignPocket d.pocket s)) = some (l.sentTo d) := by
  have hf : findLetter l.id (updateLetter l.id (Letter.sentTo ⟨choosePocket (destClassOf l) s, some (destClassOf l)⟩)
      (assignPocket (choosePocket (destClassOf l) s) s)) =
      some (l.sentTo ⟨choosePocket (destClassOf l) s, some (destClassOf l)⟩) :=
    findLetter_updated (fun _ => rfl) ((findLetter_of_letters (by simp) _).trans h)
  refine ⟨⟨choosePocket (destClassOf l) s, some (destClassOf l)⟩, ?_, hf⟩
  generalize hc : destClassOf l = c at hf ⊢
  generalize hk : choosePocket c s = k at hf ⊢
  have hf : findLetter l.id (updateLetter l.id (fun x => { x with dest := some ⟨k, some c⟩, pdecPoint := none })
      (assignPocket k s)) = some (l.sentTo ⟨k, some c⟩) := hf
  simp only [decidePocket, hc, hk, hf]
  rfl

theorem driveOwnedBank_letters (l : Letter) (s : State) : (driveOwnedBank l s).trk.letters = s.trk.letters := by
  unfold driveOwnedBank
  split
  · simp only
    split <;> rfl
  · rfl

theorem driveOwnedBank_other {g : GateId} (h : g ≠ .bg 0) (l : Letter) (s : State) :
    gateOf g (driveOwnedBank l s) = gateOf g s := by
  unfold driveOwnedBank
  split
  · simp only
    split
    · exact setGate_other h _ s
    · rfl
  · rfl

theorem driveOwnedBank_owned {l : Letter} {s : State} {o : GateOwner} (ho : (gateOf (.bg 0) s).owner = some o)
    (hid : o.id = l.id) : gateOf (.bg 0) (driveOwnedBank l s) =
      ⟨some { o with setting := requiredSetting l (.bg 0) }, requiredSetting l (.bg 0)⟩ := by
  simp only [driveOwnedBank, ho, hid, beq_self_eq_true, if_true]
  exact setGate_self ..

theorem driveOwnedBank_foreign {l : Letter} {s : State} (h : ∀ o, (gateOf (.bg 0) s).owner = some o → o.id ≠ l.id) :
    driveOwnedBank l s = s := by
  unfold driveOwnedBank
  split
  · next o ho => exact if_neg (by simpa using h o ho)
  · rfl

theorem requiredSetting_sentTo (d : Destination) (l : Letter) :
    requiredSetting (l.sentTo d) (.bg 0) = decide (d.pocket = 1) := by
  have h : requiredSetting (l.sentTo d) (.bg 0) = true ↔ d.pocket = 1 := by
    rw [requiredSetting_bank, Fin.ext_iff]
    simp [Letter.sentTo]
  simp only [← h, Bool.decide_eq_true]

/-- The decision drives a BG1 that the letter owns, and no other gate. -/
theorem decidePocket_gates {l : Letter} {s : State} (h : findLetter l.id s = some l) :
    ∃ m d, findLetter l.id (decidePocket l s) = some m ∧ m.dest = some d ∧
      (∀ g, g ≠ .bg 0 → gateOf g (decidePocket l s) = gateOf g s) ∧
      (∀ o, (gateOf (.bg 0) s).owner = some o → o.id = l.id → gateOf (.bg 0) (decidePocket l s) =
        ⟨some { o with setting := decide (d.pocket = 1) }, decide (d.pocket = 1)⟩) ∧
      ((∀ o, (gateOf (.bg 0) s).owner = some o → o.id ≠ l.id) →
        gateOf (.bg 0) (decidePocket l s) = gateOf (.bg 0) s) := by
  obtain ⟨d, he, hf⟩ := decidePocket_eq h
  have hg : ∀ g, gateOf g (updateLetter l.id (Letter.sentTo d) (assignPocket d.pocket s)) = gateOf g s := by
    intro g
    change (assignPocket d.pocket s).trk.gates[gateIdx g] = _
    rw [(assignPocket_kept d.pocket s).1]
    rfl
  rw [he]
  refine ⟨l.sentTo d, d, ?_, rfl, fun g hgb => ?_, fun o ho hid => ?_, fun hno => ?_⟩
  · rw [findLetter_of_letters (driveOwnedBank_letters ..), hf]
  · rw [driveOwnedBank_other hgb, hg]
  · rw [driveOwnedBank_owned (l := l.sentTo d) (by rw [hg, ho]) hid, requiredSetting_sentTo]
  · rw [driveOwnedBank_foreign (l := l.sentTo d) (by rw [hg]; exact hno), hg]

/-! ### The gate rules together -/

theorem others_updateLetter {id : LetterId} {f : Letter → Letter} (hf : ∀ x, (f x).id = x.id) (s : State) :
    others id (updateLetter id f s) = others id s := by
  simp only [others, updateLetter, updateList]
  induction s.trk.letters with
  | nil => rfl
  | cons x ls ih =>
    rw [List.map_cons, List.filter_cons, List.filter_cons, ih]
    by_cases hx : x.id = id
    · simp [hx, hf]
    · simp [hx]

/-- A delivery gives up the gates of the letter as it stood before its arrival was marked. -/
theorem arrive_gatesLeft {l : Letter} {e : Eye} {s u : State} (hf : findLetter l.id u = some l)
    (hd : deliveryEye l e = true) (hu : undeliverable l u = false) (ht : u.trk = s.trk) (hp : u.prl = s.prl) :
    GatesLeft l s (arrive l e u) := by
  rw [arrive_delivered hf hd hu]
  have hg : GatesLeft (l.arrivedAt e) s
      (retire (l.arrivedAt e) .delivered (updateLetter l.id (Letter.arrivedAt e) u)) := by
    have hl : others l.id (updateLetter l.id (Letter.arrivedAt e) u) = others l.id s := by
      rw [others_updateLetter (by exact fun _ => rfl), others, ht]
      rfl
    have hgates : u.trk.gates = s.trk.gates := congrArg Tracker.gates ht
    have hbelt : u.trk.belt = s.trk.belt := congrArg Tracker.belt ht
    exact retire_gatesLeft hl hgates hbelt hp
  exact hg

/-- Settles O30: a gate is taken, handed on and given up by the rules above, each release at a gate leaving the others. -/
theorem gatesTakenAndReleased : Obligations.GatesTakenAndReleased := by
  unfold Obligations.GatesTakenAndReleased
  refine ⟨fun s id g l s₁ ho hl hr hn hx h₁ => ?_, fun s g o ho hg => ?_,
    fun s e l ho he hb hs hw hf hd hu hopen hx => ?_,
    fun s id e l ho hf hst hdel hor hx => ?_, fun s l ho he h1 h2 hl => ?_, fun s id l ho hl hd => ?_, fun l len => ?_⟩
  · have hid := findLetter_id hl
    rw [exec_setupPoint ho hl hr hn hx]
    refine ⟨fun hown => ?_, fun hfree hearly => ?_, fun hfree _ => ?_⟩
    · rw [reachSetup_owned hown, updateLetter_eq, hid]
    · rw [reachSetup_free hfree, releaseIfDue_takeGate_early (by exact hearly), takeGate_setup s hid, h₁]
    · rw [reachSetup_free hfree, takeGate_setup s hid, ← h₁, exec_releasePoint g (by rw [h₁]; exact ho)]
  · rw [exec_releasePoint g ho, releaseIfDue_of hg]
    refine ⟨fun hd => ?_, fun hd hn => ?_, fun l s₁ hd hn h₁ => ?_⟩
    · rw [if_neg (by simp [hd])]
    · rw [if_pos hd, releaseGate_none hn]
      rfl
    · have h₁ : s₁ = takeGate l g s := by rw [h₁, takeGate_eq]; rfl
      rw [if_pos hd, releaseGate_some hn, h₁]
      refine ⟨fun hearly => ?_, fun _ => ?_⟩
      · rw [releaseIfDue_takeGate_early hearly]
      · rw [exec_releasePoint g (by simp [ho])]
  · rw [exec_eyeLeEdge_arrives ho he hb hs hw hopen hx]
    exact ⟨_, rfl, arrive_gatesLeft (by exact hf) hd (by exact hu) rfl rfl⟩
  · rw [exec_expiryPoint ho hf hst hx, expire_lost hdel hor]
    exact ⟨_, rfl, retire_gatesLeft rfl rfl rfl rfl⟩
  · have hgates := measureLetter_gates (s := e0Cleared s) (measuredLetter_found (by exact hl))
    refine ⟨_, exec_e0TeEdge_measures ho he h1 h2 hl, ?_⟩
    generalize measureLetter l (e0Cleared s) = t at hgates ⊢
    exact hgates
  · have hkept := settlePrint_gatesAndIds id s
    obtain ⟨m, hm⟩ := findLetter_of_ids (congrArg Prod.snd hkept) hl
    have hg : ∀ g, gateOf g (settlePrint id s) = gateOf g s := fun g => by
      have := congrArg (fun v => v.1[gateIdx g]) hkept
      exact this
    have hid := findLetter_id hm
    obtain ⟨n, d, hn, hdest, hother, howned, hforeign⟩ := decidePocket_gates (l := m) (by rw [hid]; exact hm)
    simp only [hg, hid] at hn hother howned hforeign
    exact ⟨_, n, d, exec_pocketDecisionPoint ho hl hd hm, hn, hdest, hother, howned, hforeign⟩
  · exact ⟨requiredSetting_g0 l, requiredSetting_g1 l, requiredSetting_bank l,
      fun hlen p g => releasePointOf_length hlen p g⟩

end Sys2Proof.Machine
end

section
/-! The PHOS and FLUO tests: what each says of a scaled pair, and why no pair passes both (R61). -/

namespace Sys2Proof.Machine

/-! ### The tests (R61) -/

theorem phosAt_iff {p : Profile} {t : Nat} {x : Scaled} : phosAt p t x = true ↔ t ≤ x.l ∧ p.rp * x.e ≤ 16 * x.l := by
  simp [phosAt]

theorem fluoAt_iff {p : Profile} {t : Nat} {x : Scaled} : fluoAt p t x = true ↔ t ≤ x.e ∧ 16 * x.l < p.rf * x.e := by
  simp [fluoAt]

theorem phosAt_anti {p : Profile} {t u : Nat} {x : Scaled} (htu : t ≤ u) (h : phosAt p u x = true) :
    phosAt p t x = true := by
  obtain ⟨hl, hr⟩ := phosAt_iff.1 h
  exact phosAt_iff.2 ⟨htu.trans hl, hr⟩

theorem fluoAt_anti {p : Profile} {t u : Nat} {x : Scaled} (htu : t ≤ u) (h : fluoAt p u x = true) :
    fluoAt p t x = true := by
  obtain ⟨he, hr⟩ := fluoAt_iff.1 h
  exact fluoAt_iff.2 ⟨htu.trans he, hr⟩

/-- With RF at most RP the two ratios exclude each other, whatever the thresholds. -/
theorem phosAt_of_fluoAt {p : Profile} {t : Nat} {x : Scaled} (hr : p.rf ≤ p.rp) (h : fluoAt p t x = true) (u : Nat) :
    phosAt p u x = false := by
  have hf : 16 * x.l < p.rp * x.e := (fluoAt_iff.1 h).2.trans_le (Nat.mul_le_mul_right _ hr)
  refine Bool.eq_false_iff.2 fun hp => ?_
  exact absurd (phosAt_iff.1 hp).2 (by omega)

theorem phosAt_dark {p : Profile} {t : Nat} {x : Scaled} (he : x.e = 0) : phosAt p t x = true ↔ t ≤ x.l := by
  simp [phosAt_iff, he]

theorem fluoAt_dark {p : Profile} {t : Nat} {x : Scaled} (he : x.e = 0) : fluoAt p t x = false := by
  simp [fluoAt, he]

/-! ### Where the tests are applied (R62, R63) -/

theorem sampleNoRun_class (p : Profile) (offset : Nat) (x : Scaled) (c : RunContext) :
    (sampleNoRun p offset false x c).2 =
      if phosAt p p.tpOn x then .phos else if fluoAt p p.tfOn x then .fluo else .none := by
  simp only [sampleNoRun, Bool.false_eq_true, if_false]
  split
  · rfl
  · split <;> rfl

theorem qualifies_phos (p : Profile) (x : Scaled) : qualifies p .phos false x = phosAt p p.tpOff x := rfl

theorem qualifies_fluo (p : Profile) (x : Scaled) : qualifies p .fluo false x = fluoAt p p.tfOff x := rfl

/-! ### The cross-field checks (R193) -/

theorem firstFailing_eq_none_iff {p : Profile} : p.firstFailing = none ↔ ∀ c ∈ p.checks, c.2 = true := by
  simp [Profile.firstFailing, List.find?_eq_none]

/-- Checks 10, 11 and 12. -/
theorem thresholds_of_checks {p : Profile} (h : p.firstFailing = none) :
    p.tpOff ≤ p.tpOn ∧ p.tfOff ≤ p.tfOn ∧ p.rf ≤ p.rp := by
  have holds {n : Nat} {q : Prop} [Decidable q] (hm : (n, decide q) ∈ p.checks) : q :=
    of_decide_eq_true (firstFailing_eq_none_iff.1 h _ hm)
  exact ⟨holds (n := 10) (by simp [Profile.checks]), holds (n := 11) (by simp [Profile.checks]),
    holds (n := 12) (by simp [Profile.checks])⟩

/-- Settles O38: each test by its definition, the thresholds by the cross-field checks, the exclusion by the ratios. -/
theorem tagTests : Obligations.TagTests := by
  unfold Obligations.TagTests
  intro p x
  refine ⟨thresholds_of_checks, fun t => phosAt_iff, fun t => fluoAt_iff, fun offset c => ?_,
    ⟨qualifies_phos p x, qualifies_fluo p x⟩, fun ht hp => ?_, fun ht hf => ?_,
    fun hr t u hf => phosAt_of_fluoAt hr hf u, fun he t => ⟨phosAt_dark he, fluoAt_dark he⟩⟩
  · rw [sampleNoRun_class]
    cases hp : phosAt p p.tpOn x <;> cases hf : fluoAt p p.tfOn x <;> simp
  · rw [qualifies_phos]
    exact phosAt_anti ht hp
  · rw [qualifies_fluo]
    exact fluoAt_anti ht hf

end Sys2Proof.Machine
end

section
/-! The run state machine: what a sample or a missed step does to a letter's context, and what the close of a run does to
its list (R62, R63, R65, R66, R67). -/

namespace Sys2Proof.Machine

variable {p : Profile} {c : RunContext} {o : OpenRun}

/-! ### The close of a run (R65, R66, R67) -/

/-- The record of an open run that is kept (R66). -/
def OpenRun.kept (p : Profile) (o : OpenRun) : Run := ⟨o.cls, o.first, runSamples p o * p.pitch, o.peak, o.sat⟩

theorem closeRun_noRun (h : c.openRun = none) : closeRun p c = (c, []) := by
  simp [closeRun, h]

/-- Where a run is open, its close does not look at the misses counted. -/
theorem closeRun_miss (h : c.openRun = some o) (m : Nat) : closeRun p { c with miss := m } = closeRun p c := by
  simp only [closeRun, h]

theorem closeRun_short (h : c.openRun = some o) (hn : runSamples p o < p.minRun) :
    closeRun p c = ({ c with openRun := none, miss := 0 }, [.runsShort]) := by
  simp [closeRun, h, hn]

theorem closeRun_overlong (h : c.openRun = some o) (hmin : p.minRun ≤ runSamples p o)
    (hmax : p.maxRun < runSamples p o) :
    closeRun p c = (if o.cls = .phos then { c with openRun := none, miss := 0, coated := true }
      else { c with openRun := none, miss := 0, bright := true }, [.runsOverlong]) := by
  simp only [closeRun, h, if_neg hmin.not_gt, if_pos hmax]
  cases o.cls <;> rfl

theorem closeRun_kept (h : c.openRun = some o) (hmin : p.minRun ≤ runSamples p o) (hmax : runSamples p o ≤ p.maxRun)
    (hroom : c.runs.length < Config.runListCapacity) :
    closeRun p c = ({ c with openRun := none, miss := 0, runs := c.runs ++ [o.kept p] }, [.runsKept]) := by
  simp only [closeRun, h, if_neg hmin.not_gt, if_neg hmax.not_gt, if_pos hroom]
  rfl

theorem closeRun_overflow (h : c.openRun = some o) (hmin : p.minRun ≤ runSamples p o)
    (hmax : runSamples p o ≤ p.maxRun) (hfull : Config.runListCapacity ≤ c.runs.length) :
    closeRun p c = ({ c with openRun := none, miss := 0, overflow := true }, [.runOverflow]) := by
  simp only [closeRun, h, if_neg hmin.not_gt, if_neg hmax.not_gt, if_neg hfull.not_gt]

/-- What the close of a run can do to the run list: nothing, or append the open run where its length is in order. -/
theorem closeRun_runs (p : Profile) (c : RunContext) :
    (closeRun p c).1.runs = c.runs ∨
      ∃ o, c.openRun = some o ∧ p.minRun ≤ runSamples p o ∧ runSamples p o ≤ p.maxRun ∧
        (closeRun p c).1.runs = c.runs ++ [o.kept p] := by
  cases h : c.openRun with
  | none => exact .inl (by rw [closeRun_noRun h])
  | some o =>
    rcases Nat.lt_or_ge (runSamples p o) p.minRun with hshort | hmin
    · exact .inl (by rw [closeRun_short h hshort])
    rcases Nat.lt_or_ge p.maxRun (runSamples p o) with hlong | hmax
    · refine .inl ?_
      rw [closeRun_overlong h hmin hlong]
      split <;> rfl
    rcases Nat.lt_or_ge c.runs.length Config.runListCapacity with hroom | hfull
    · exact .inr ⟨o, rfl, hmin, hmax, by rw [closeRun_kept h hmin hmax hroom]⟩
    · exact .inl (by rw [closeRun_overflow h hmin hmax hfull])

theorem closeRun_openRun (p : Profile) (c : RunContext) : (closeRun p c).1.openRun = none := by
  cases h : c.openRun with
  | none => rw [closeRun_noRun h, h]
  | some o =>
    simp only [closeRun, h]
    (repeat' split) <;> rfl

/-! ### A missed step (R63) -/

theorem missStep_noRun (h : c.openRun = none) : missStep p c = (c, [], false) := by
  simp [missStep, h]

theorem missStep_bridged (h : c.openRun = some o) (hm : c.miss + 1 ≤ p.gapLimit) :
    missStep p c = ({ c with miss := c.miss + 1 }, [], false) := by
  simp [missStep, h, hm.not_gt]

theorem missStep_closes (h : c.openRun = some o) (hm : p.gapLimit < c.miss + 1) :
    missStep p c = ((closeRun p { c with miss := c.miss + 1 }).1, (closeRun p { c with miss := c.miss + 1 }).2, true) := by
  simp [missStep, h, hm]

theorem emptyStep_noRun (h : c.openRun = none) : emptyStep p c = (c, []) := by
  simp [emptyStep, missStep_noRun h]

theorem emptyStep_bridged (h : c.openRun = some o) (hm : c.miss + 1 ≤ p.gapLimit) :
    emptyStep p c = ({ c with miss := c.miss + 1 }, []) := by
  simp [emptyStep, missStep_bridged h hm]

theorem emptyStep_closes (h : c.openRun = some o) (hm : p.gapLimit < c.miss + 1) :
    emptyStep p c = closeRun p { c with miss := c.miss + 1 } := by
  simp [emptyStep, missStep_closes h hm]

/-! ### A step's sample (R62, R63) -/

theorem sampleStep_noRun (h : c.openRun = none) (offset : Nat) (sat : Bool) (x : Scaled) :
    sampleStep p offset sat x c = ((sampleNoRun p offset sat x c).1, (sampleNoRun p offset sat x c).2, []) := by
  simp [sampleStep, h]

theorem sampleStep_extends {offset : Nat} {sat : Bool} {x : Scaled} (h : c.openRun = some o)
    (hq : qualifies p o.cls sat x = true) :
    sampleStep p offset sat x c =
      ({ c with
          openRun := some
            { o with last := offset, peak := max o.peak (peakValue o.cls sat x), sat := o.sat + boolCode sat }
          miss := 0 }, o.cls.sample, []) := by
  simp [sampleStep, h, hq]

theorem sampleStep_bridged {offset : Nat} {sat : Bool} {x : Scaled} (h : c.openRun = some o)
    (hq : qualifies p o.cls sat x = false) (hm : c.miss + 1 ≤ p.gapLimit) :
    sampleStep p offset sat x c = ({ c with miss := c.miss + 1 }, .none, []) := by
  simp [sampleStep, h, hq, missStep_bridged h hm]

/-- The sample that closes a run is taken again in NO_RUN. -/
theorem sampleStep_closes {offset : Nat} {sat : Bool} {x : Scaled} (h : c.openRun = some o)
    (hq : qualifies p o.cls sat x = false) (hm : p.gapLimit < c.miss + 1) :
    sampleStep p offset sat x c =
      ((sampleNoRun p offset sat x (closeRun p { c with miss := c.miss + 1 }).1).1,
        (sampleNoRun p offset sat x (closeRun p { c with miss := c.miss + 1 }).1).2,
        (closeRun p { c with miss := c.miss + 1 }).2) := by
  simp [sampleStep, h, hq, missStep_closes h hm]

/-- What a sample in NO_RUN can do to a context: nothing, or open a run of the one sample. -/
theorem sampleNoRun_cases (p : Profile) (offset : Nat) (sat : Bool) (x : Scaled) (c : RunContext) :
    (sampleNoRun p offset sat x c).1 = c ∨
      ∃ cls peak, (sampleNoRun p offset sat x c).1 =
        { c with openRun := some ⟨cls, offset, offset, peak, 0⟩, miss := 0 } := by
  unfold sampleNoRun
  split
  · exact .inl rfl
  split
  · exact .inr ⟨_, _, rfl⟩
  split
  · exact .inr ⟨_, _, rfl⟩
  · exact .inl rfl

/-! ### What one step can do -/

/-- What a step, with its sample's offset or without sample, can do to the open run and the list of the context `c`. The
list that a closed or opened run leaves is that of `closeRun`, which is the same list where no run was open. -/
inductive StepEffect (p : Profile) (c : RunContext) : Option Nat → RunContext → Prop
  | keeps {a : Option Nat} {k : RunContext} (ho : k.openRun = c.openRun) (hr : k.runs = c.runs) : StepEffect p c a k
  | closes {a : Option Nat} {k : RunContext} (ho : k.openRun = none) (hr : k.runs = (closeRun p c).1.runs) :
      StepEffect p c a k
  | lengthens {a : Nat} {k : RunContext} {o r : OpenRun} (hc : c.openRun = some o) (ho : k.openRun = some r)
      (hf : r.first = o.first) (hl : r.last = a) (hr : k.runs = c.runs) : StepEffect p c (some a) k
  | opens {a : Nat} {k : RunContext} {r : OpenRun} (ho : k.openRun = some r) (hf : r.first = a) (hl : r.last = a)
      (hr : k.runs = (closeRun p c).1.runs) : StepEffect p c (some a) k

theorem emptyStep_effect (p : Profile) (c : RunContext) : StepEffect p c none (emptyStep p c).1 := by
  cases h : c.openRun with
  | none => exact .keeps (by rw [emptyStep_noRun h]) (by rw [emptyStep_noRun h])
  | some o =>
    rcases Nat.lt_or_ge p.gapLimit (c.miss + 1) with hm | hm
    · rw [emptyStep_closes h hm, closeRun_miss h]
      exact .closes (closeRun_openRun p c) rfl
    · rw [emptyStep_bridged h hm]
      exact .keeps rfl rfl

/-- A sample taken in NO_RUN once the run of `c`, where one was open, is closed. -/
theorem sampleNoRun_effect (p : Profile) (offset : Nat) (sat : Bool) (x : Scaled) (c : RunContext) :
    StepEffect p c (some offset) (sampleNoRun p offset sat x (closeRun p c).1).1 := by
  obtain h | ⟨cls, peak, h⟩ := sampleNoRun_cases p offset sat x (closeRun p c).1 <;> rw [h]
  · exact .closes (closeRun_openRun p c) rfl
  · exact .opens rfl rfl rfl rfl

theorem sampleStep_effect (p : Profile) (offset : Nat) (sat : Bool) (x : Scaled) (c : RunContext) :
    StepEffect p c (some offset) (sampleStep p offset sat x c).1 := by
  have hno := sampleNoRun_effect p offset sat x c
  cases h : c.openRun with
  | none =>
    rw [closeRun_noRun h] at hno
    rwa [sampleStep_noRun h]
  | some o =>
    cases hq : qualifies p o.cls sat x with
    | true =>
      rw [sampleStep_extends h hq]
      exact .lengthens h rfl rfl rfl rfl
    | false =>
      rcases Nat.lt_or_ge p.gapLimit (c.miss + 1) with hm | hm
      · rwa [sampleStep_closes h hq hm, closeRun_miss h]
      · rw [sampleStep_bridged h hq hm]
        exact .keeps rfl rfl

end Sys2Proof.Machine
end

section
/-! A letter's run list over all the steps of its context: in room, in length, and in order (R66, R67). -/

namespace Sys2Proof.Machine

section
variable {p : Profile} {c k : RunContext} {o : OpenRun} {d : Nat}

/-! ### The steps of a context -/

/-- A step of a letter on one channel: its sample with the offset, the two baseline values and the gain it is scaled with,
or none for a step without sample (R58, R59). -/
abbrev ContextStep := Option (Nat × SamplePair × Nat × Nat × Nat)

/-- A letter's context after one step. -/
def contextStep (p : Profile) (c : RunContext) : ContextStep → RunContext
  | some (offset, x, baseE, baseL, gain) => (sampleStep p offset (isSat x) (scaleSample x baseE baseL gain) c).1
  | none => (emptyStep p c).1

theorem contextStep_effect (p : Profile) (c : RunContext) (step : ContextStep) :
    StepEffect p c (step.map fun x => x.1) (contextStep p c step) := by
  cases step with
  | none => exact emptyStep_effect p c
  | some y => exact sampleStep_effect p y.1 _ _ c

/-- The offsets of the samples among the steps. -/
def sampleOffsets (steps : List ContextStep) : List Nat := steps.filterMap fun step => step.map fun x => x.1

theorem sampleOffsets_none (steps : List ContextStep) : sampleOffsets (none :: steps) = sampleOffsets steps := rfl

theorem sampleOffsets_some (y : Nat × SamplePair × Nat × Nat × Nat) (steps : List ContextStep) :
    sampleOffsets (some y :: steps) = y.1 :: sampleOffsets steps := rfl

/-! ### Room and length (R67) -/

/-- The list of a context has at most 4 runs, each of a length in order. -/
structure RunsValid (p : Profile) (c : RunContext) : Prop where
  fits : ContextFits c
  lengths : ∀ r ∈ c.runs, r.inOrder p

theorem RunsValid.fresh (p : Profile) : RunsValid p .fresh :=
  ⟨Nat.zero_le _, fun _ hr => absurd hr List.not_mem_nil⟩

theorem RunsValid.of_runs (h : RunsValid p c) (hr : k.runs = c.runs) : RunsValid p k :=
  ⟨by rw [ContextFits, hr]; exact h.fits, by rw [hr]; exact h.lengths⟩

theorem kept_inOrder (hmin : p.minRun ≤ runSamples p o) (hmax : runSamples p o ≤ p.maxRun) : (o.kept p).inOrder p :=
  ⟨Nat.mul_le_mul_right _ hmin, Nat.mul_le_mul_right _ hmax⟩

theorem RunsValid.closeRun (h : RunsValid p c) : RunsValid p (Machine.closeRun p c).1 := by
  refine ⟨h.fits.closeRun p, fun r hr => ?_⟩
  obtain hk | ⟨o, -, hmin, hmax, hk⟩ := closeRun_runs p c
  · exact h.lengths r (hk ▸ hr)
  · rw [hk, List.mem_append, List.mem_singleton] at hr
    rcases hr with hr | rfl
    · exact h.lengths r hr
    · exact kept_inOrder hmin hmax

theorem RunsValid.effect {a : Option Nat} (h : RunsValid p c) (he : StepEffect p c a k) : RunsValid p k := by
  cases he with
  | keeps _ hr => exact h.of_runs hr
  | closes _ hr => exact h.closeRun.of_runs hr
  | lengthens _ _ _ _ hr => exact h.of_runs hr
  | opens _ _ _ hr => exact h.closeRun.of_runs hr

theorem RunsValid.steps (h : RunsValid p c) (steps : List ContextStep) :
    RunsValid p (steps.foldl (contextStep p) c) := by
  induction steps generalizing c with
  | nil => exact h
  | cons step steps ih => exact ih (h.effect (contextStep_effect p c step))

/-! ### Order (R67) -/

/-- A run starts and ends before the offset `d`. -/
def Run.endsBy (r : Run) (d : Nat) : Prop := r.start < d ∧ r.start + r.length ≤ d

theorem Run.endsBy.mono {r : Run} {e : Nat} (h : r.endsBy d) (hde : d ≤ e) : r.endsBy e :=
  ⟨h.1.trans_le hde, h.2.trans hde⟩

/-- The runs of a context stand in the order of their starts and do not overlap, and the open run follows them; `d` is
the least offset that the next sample may have, PITCH beyond the last one. -/
structure RunsOrdered (p : Profile) (d : Nat) (c : RunContext) : Prop where
  ordered : c.runs.Pairwise fun a b => a.endsBy b.start
  ended : ∀ r ∈ c.runs, r.endsBy d
  opened : ∀ o, c.openRun = some o → o.first ≤ o.last ∧ o.last + p.pitch ≤ d ∧ ∀ r ∈ c.runs, r.endsBy o.first

theorem RunsOrdered.fresh (p : Profile) : RunsOrdered p 0 .fresh :=
  ⟨.nil, fun _ hr => absurd hr List.not_mem_nil, fun _ ho => absurd ho (Option.some_ne_none _).symm⟩

/-- A kept run ends where the next sample may come: its length is that from its first to its last offset and one PITCH
(R65). -/
theorem kept_endsBy (hp : 1 ≤ p.pitch) (hfl : o.first ≤ o.last) (hd : o.last + p.pitch ≤ d) : (o.kept p).endsBy d := by
  have hn : runSamples p o * p.pitch ≤ o.last - o.first + p.pitch := by
    rw [runSamples, Nat.succ_mul]
    exact Nat.add_le_add_right (Nat.div_mul_le_self _ _) _
  constructor <;> simp only [OpenRun.kept] <;> omega

theorem RunsOrdered.closeRun (hp : 1 ≤ p.pitch) (h : RunsOrdered p d c) :
    RunsOrdered p d (Machine.closeRun p c).1 := by
  have hnone : ∀ o, (Machine.closeRun p c).1.openRun ≠ some o := fun o ho => by simp [closeRun_openRun] at ho
  obtain hk | ⟨o, ho, -, -, hk⟩ := closeRun_runs p c
  · exact ⟨hk ▸ h.ordered, hk ▸ h.ended, fun o ho => absurd ho (hnone o)⟩
  · obtain ⟨hfl, hd, hbefore⟩ := h.opened o ho
    refine ⟨?_, fun r hr => ?_, fun o ho => absurd ho (hnone o)⟩
    · rw [hk, List.pairwise_append]
      refine ⟨h.ordered, List.pairwise_singleton _ _, fun r hr s hs => ?_⟩
      rw [List.mem_singleton.1 hs]
      exact hbefore r hr
    · rw [hk, List.mem_append, List.mem_singleton] at hr
      rcases hr with hr | rfl
      · exact h.ended r hr
      · exact kept_endsBy hp hfl hd

/-- A step without sample leaves the bound; one with a sample at an offset from the bound on moves it PITCH beyond. -/
theorem RunsOrdered.effect {a : Option Nat} {e : Nat} (hp : 1 ≤ p.pitch) (h : RunsOrdered p d c)
    (he : StepEffect p c a k) (hde : d ≤ e) (ha : ∀ x ∈ a, d ≤ x ∧ x + p.pitch ≤ e) : RunsOrdered p e k := by
  have hclosed := h.closeRun hp
  cases he with
  | keeps ho hr =>
    refine ⟨hr ▸ h.ordered, fun r hm => (h.ended r (hr ▸ hm)).mono hde, fun o hk => ?_⟩
    obtain ⟨hfl, hd, hbefore⟩ := h.opened o (ho ▸ hk)
    exact ⟨hfl, hd.trans hde, hr ▸ hbefore⟩
  | closes ho hr =>
    exact ⟨hr ▸ hclosed.ordered, fun r hm => (hclosed.ended r (hr ▸ hm)).mono hde, fun o hk => by simp [ho] at hk⟩
  | @lengthens x _ o r hc ho hf hl hr =>
    obtain ⟨hdx, hxe⟩ := ha x rfl
    obtain ⟨hfl, hd, hbefore⟩ := h.opened o hc
    refine ⟨hr ▸ h.ordered, fun r hm => (h.ended r (hr ▸ hm)).mono hde, fun q hq => ?_⟩
    obtain rfl : r = q := Option.some.inj (ho.symm.trans hq)
    exact ⟨by omega, by omega, by rw [hr, hf]; exact hbefore⟩
  | @opens x _ r ho hf hl hr =>
    obtain ⟨hdx, hxe⟩ := ha x rfl
    refine ⟨hr ▸ hclosed.ordered, fun r hm => (hclosed.ended r (hr ▸ hm)).mono hde, fun q hq => ?_⟩
    obtain rfl : r = q := Option.some.inj (ho.symm.trans hq)
    exact ⟨by omega, by omega, fun s hs => (hclosed.ended s (hr ▸ hs)).mono (by omega)⟩

theorem RunsOrdered.steps (hp : 1 ≤ p.pitch) (h : RunsOrdered p d c)
    (steps : List ContextStep) (hasc : (sampleOffsets steps).Pairwise fun a b => a + p.pitch ≤ b)
    (hfrom : ∀ x ∈ sampleOffsets steps, d ≤ x) :
    ∃ e, RunsOrdered p e (steps.foldl (contextStep p) c) := by
  induction steps generalizing c d with
  | nil => exact ⟨d, h⟩
  | cons step steps ih =>
    have heff := contextStep_effect p c step
    cases step with
    | none =>
      rw [sampleOffsets_none] at hasc hfrom
      exact ih (h.effect hp heff le_rfl fun _ hx => by cases hx) hasc hfrom
    | some y =>
      rw [sampleOffsets_some] at hasc hfrom
      have hy : d ≤ y.1 := hfrom y.1 List.mem_cons_self
      obtain ⟨hnext, hrest⟩ := List.pairwise_cons.1 hasc
      refine ih (h.effect (e := y.1 + p.pitch) hp heff (by omega) fun x hx => ?_) hrest hnext
      obtain rfl : y.1 = x := Option.some.inj hx
      exact ⟨hy, le_rfl⟩

end

/-- Settles O39: the steps and the fates by the equations above; the list by the invariants, each kept by every step. -/
theorem runsKeptInOrder : Obligations.RunsKeptInOrder := by
  unfold Obligations.RunsKeptInOrder
  refine ⟨fun p offset sat x c h => ⟨emptyStep_noRun h, ?_⟩,
    fun p offset sat x c o h => ⟨fun hq => ?_, fun hm => ⟨emptyStep_bridged h hm, fun hq => sampleStep_bridged h hq hm⟩,
      fun hm => ⟨emptyStep_closes h hm, fun hq => ?_⟩⟩,
    fun p c o n h hn => ?_, fun p steps c hc => ?_⟩
  · rw [sampleStep_noRun h, sampleNoRun]
    (repeat' split) <;> rfl
  · rw [sampleStep_extends h hq]
    cases hcls : o.cls <;> cases sat <;> rfl
  · rw [sampleStep_closes h hq hm, sampleStep_noRun (closeRun_openRun p _)]
  · change n = runSamples p o at hn
    subst hn
    exact ⟨closeRun_short h, closeRun_overlong h, closeRun_kept h, closeRun_overflow h⟩
  · have hsteps : c = steps.foldl (contextStep p) .fresh := hc
    subst hsteps
    obtain ⟨hfits, hlengths⟩ := ((RunsValid.fresh p).steps steps).closeRun
    refine ⟨hfits, hlengths, fun hp hasc => ?_⟩
    obtain ⟨e, he⟩ := (RunsOrdered.fresh p).steps hp steps hasc fun _ _ => Nat.zero_le _
    exact (he.closeRun hp).ordered

end Sys2Proof.Machine
end

section
/-! Support: when a run supports an orientation, the best run of each orientation, and which orientation dominates the
others (R79 to R82). -/

namespace Sys2Proof.Machine

variable {cls : TagClass} {p : Profile} {results : PerChan ChanResult} {len : Int} {o : Orientation} {x y : Run}

/-! ### When a run supports an orientation (R74, R79) -/

theorem Orientation.leading_iff (o : Orientation) : o.leading = true ↔ o = .o1 ∨ o = .o4 := by
  cases o <;> simp [Orientation.leading]

/-- A run lies in the orientation's half; one centred at the middle is trailing. -/
theorem Run.leading_eq_iff (x : Run) (len : Int) (o : Orientation) : x.leading len = o.leading ↔
    (2 * ((x.start : Int) + (x.length / 2 : Nat)) < len ↔ o = .o1 ∨ o = .o4) := by
  rw [Bool.eq_iff_iff, Orientation.leading_iff, Run.leading, decide_eq_true_iff]

theorem mem_supporting_iff : x ∈ supporting cls results len o ↔
    x ∈ (results.get o.chan).runs ∧ x.cls = cls ∧ (results.get o.chan).blind = false ∧
    x.leading len = o.leading := by
  simp only [supporting]
  split
  · next hb => simp [hb]
  · next hb => simp [hb]

/-- Settles O40: the definition of support, with the half of each orientation spelled out. -/
theorem runSupportsOrientation : Obligations.RunSupportsOrientation := by
  unfold Obligations.RunSupportsOrientation
  intro cls results len o x
  refine ⟨?_, by cases o <;> rfl⟩
  rw [mem_supporting_iff, Run.leading_eq_iff]

/-! ### The best of an orientation's runs (R80) -/

/-- Run `x` is at least as good as `y`: by its larger peak, or by a start no later among equal peaks. -/
def Run.asGoodAs (x y : Run) : Prop := y.peak < x.peak ∨ (y.peak = x.peak ∧ x.start ≤ y.start)

theorem Run.asGoodAs.trans {x y z : Run} (h : x.asGoodAs y) (h' : y.asGoodAs z) : x.asGoodAs z := by
  unfold Run.asGoodAs at *
  omega

theorem Run.asGoodAs.peak_le (h : x.asGoodAs y) : y.peak ≤ x.peak := by
  unfold Run.asGoodAs at h
  omega

theorem betterRun_mem (x y : Run) : betterRun x y = x ∨ betterRun x y = y := by
  unfold betterRun
  split
  · exact .inr rfl
  · exact .inl rfl

theorem betterRun_asGood (x y : Run) : (betterRun x y).asGoodAs x ∧ (betterRun x y).asGoodAs y := by
  unfold betterRun Run.asGoodAs
  split <;> omega

theorem bestRun_eq_none_iff {rs : List Run} : bestRun rs = none ↔ rs = [] := by
  cases rs with
  | nil => simp [bestRun]
  | cons r rs =>
    simp only [bestRun]
    split <;> simp

/-- The best run is one of the list, and as good as each of them. -/
theorem bestRun_spec {rs : List Run} (h : bestRun rs = some x) : x ∈ rs ∧ ∀ y ∈ rs, x.asGoodAs y := by
  induction rs generalizing x with
  | nil => cases h
  | cons r rs ih =>
    simp only [bestRun] at h
    split at h
    · next hrest =>
      obtain rfl := Option.some.inj h
      obtain rfl := bestRun_eq_none_iff.1 hrest
      simp [Run.asGoodAs]
    · next z hrest =>
      obtain rfl := Option.some.inj h
      obtain ⟨hz, hbest⟩ := ih hrest
      obtain ⟨hr, hbetter⟩ := betterRun_asGood r z
      refine ⟨?_, List.forall_mem_cons.2 ⟨hr, fun y hy => hbetter.trans (hbest y hy)⟩⟩
      rcases betterRun_mem r z with he | he <;> simp [he, hz]

/-- A run that is strictly better than every other run of the list is the best one. -/
theorem bestRun_eq_some {rs : List Run} (hx : x ∈ rs)
    (h : ∀ y ∈ rs, y = x ∨ y.peak < x.peak ∨ (y.peak = x.peak ∧ x.start < y.start)) : bestRun rs = some x := by
  obtain ⟨z, hz⟩ := Option.ne_none_iff_exists'.1 fun hn => List.ne_nil_of_mem hx (bestRun_eq_none_iff.1 hn)
  obtain ⟨hmem, hbest⟩ := bestRun_spec hz
  have hzx := hbest x hx
  unfold Run.asGoodAs at hzx
  rcases h z hmem with rfl | hlt | heq
  · exact hz
  all_goals omega

/-! ### The supported orientations and their largest peak (R80, R81) -/

theorem mem_supported_iff : (o, x) ∈ supported cls results len ↔ bestRun (supporting cls results len o) = some x := by
  simp only [supported, List.mem_filterMap, Option.map_eq_some_iff, Prod.mk.injEq]
  constructor
  · rintro ⟨q, -, y, hy, rfl, rfl⟩
    exact hy
  · exact fun h => ⟨o, by cases o <;> decide, x, h, rfl, rfl⟩

/-- Each orientation stands at most once among the supported ones. -/
theorem supported_distinct : ((supported cls results len).map Prod.fst).Nodup := by
  refine List.pairwise_map.2 (List.Pairwise.filterMap _ ?_ (by decide : allOrientations.Nodup))
  intro a b hab a' ha b' hb
  simp only [Option.map_eq_some_iff] at ha hb
  obtain ⟨-, -, rfl⟩ := ha
  obtain ⟨-, -, rfl⟩ := hb
  exact hab

theorem supported_eq_nil_iff : supported cls results len = [] ↔ ∀ o, supporting cls results len o = [] := by
  rw [List.eq_nil_iff_forall_not_mem]
  constructor
  · intro h o
    rw [← bestRun_eq_none_iff, Option.eq_none_iff_forall_ne_some]
    exact fun x hx => h (o, x) (mem_supported_iff.2 hx)
  · rintro h ⟨o, x⟩ hx
    rw [mem_supported_iff, h o] at hx
    cases hx

/-- A multiple of the largest peak stays within a bound exactly when that multiple of each peak does. -/
theorem mul_topPeak_le_iff {d b : Nat} {xs : List (Orientation × Run)} :
    d * topPeak xs ≤ b ↔ ∀ y ∈ xs, d * y.2.peak ≤ b := by
  have hfold : ∀ (ys : List (Orientation × Run)) (m : Nat),
      d * ys.foldl (fun m y => max m y.2.peak) m ≤ b ↔ d * m ≤ b ∧ ∀ y ∈ ys, d * y.2.peak ≤ b := by
    intro ys
    induction ys with
    | nil => simp
    | cons y ys ih =>
      intro m
      rw [List.foldl_cons, ih, ← Nat.mul_max_mul_left, Nat.max_le, List.forall_mem_cons, and_assoc]
  simp [topPeak, hfold]

theorem topPeak_le_iff {b : Nat} {xs : List (Orientation × Run)} : topPeak xs ≤ b ↔ ∀ y ∈ xs, y.2.peak ≤ b := by
  simpa using mul_topPeak_le_iff (d := 1) (b := b) (xs := xs)

/-! ### The dominance test (R81) -/

/-- The supported orientations with the largest peak. -/
def leaders (xs : List (Orientation × Run)) : List (Orientation × Run) := xs.filter fun x => x.2.peak == topPeak xs

theorem mem_leaders_iff {xs : List (Orientation × Run)} {a : Orientation × Run} :
    a ∈ leaders xs ↔ a ∈ xs ∧ a.2.peak = topPeak xs := by simp [leaders]

theorem dominant_eq_nothing_iff {d : Nat} {xs : List (Orientation × Run)} : dominant d xs = .nothing ↔ xs = [] := by
  match xs with
  | [] => simp [dominant]
  | [a] => simp [dominant]
  | a :: b :: xs =>
    simp only [dominant]
    split
    · split <;> simp
    · simp

/-- The test finds an orientation exactly when it is the only leader and outweighs the rest by DOMINANCE / 8; a single
supported orientation is that without a rest. -/
theorem dominant_eq_found_iff {d : Nat} {xs : List (Orientation × Run)} : dominant d xs = .found o x ↔
    leaders xs = [(o, x)] ∧ d * topPeak (xs.filter fun y => y.1 != o) ≤ 8 * x.peak := by
  match xs with
  | [] => simp [dominant, leaders]
  | [(q, y)] =>
    simp only [dominant, leaders, topPeak, Support.found.injEq]
    constructor
    · rintro ⟨rfl, rfl⟩
      simp
    · intro h
      simpa using h.1
  | a :: b :: xs =>
    simp only [dominant]
    split
    · next c hc =>
      change leaders (a :: b :: xs) = [c] at hc
      rw [hc, List.cons.injEq, and_iff_left rfl]
      split
      · next hle =>
        rw [Support.found.injEq]
        exact ⟨fun h => ⟨Prod.ext h.1 h.2, h.1 ▸ h.2 ▸ hle⟩, fun h => ⟨congrArg Prod.fst h.1, congrArg Prod.snd h.1⟩⟩
      · next hgt =>
        refine ⟨nofun, ?_⟩
        rintro ⟨rfl, hle⟩
        exact absurd hle hgt
    · next hne =>
      exact ⟨nofun, fun h => absurd h.1 (hne _)⟩

/-- One orientation leads alone exactly when every other supported one has a smaller peak. -/
theorem leaders_eq_singleton_iff {xs : List (Orientation × Run)} (hd : (xs.map Prod.fst).Nodup) :
    leaders xs = [(o, x)] ↔ (o, x) ∈ xs ∧ ∀ y ∈ xs, y.1 ≠ o → y.2.peak < x.peak := by
  constructor
  · intro h
    obtain ⟨hx, htop⟩ := mem_leaders_iff.1 (h ▸ List.mem_singleton_self _ : (o, x) ∈ leaders xs)
    refine ⟨hx, fun y hy hne => lt_of_le_of_ne (htop ▸ topPeak_le_iff.1 le_rfl y hy) fun he => hne ?_⟩
    have hl : y ∈ leaders xs := mem_leaders_iff.2 ⟨hy, he.trans htop⟩
    rw [h, List.mem_singleton] at hl
    rw [hl]
  · rintro ⟨hx, hrest⟩
    have hsame : ∀ y ∈ xs, y.1 = o → y = (o, x) := fun y hy he => List.inj_on_of_nodup_map hd hy hx he
    have htop : topPeak xs = x.peak := by
      refine le_antisymm (topPeak_le_iff.2 fun y hy => ?_) (topPeak_le_iff.1 le_rfl _ hx)
      by_cases he : y.1 = o
      · rw [hsame y hy he]
      · exact (hrest y hy he).le
    have hfilter : leaders xs = xs.filter (· == (o, x)) := by
      refine List.filter_congr fun y hy => ?_
      rw [htop, Bool.eq_iff_iff, beq_iff_eq, beq_iff_eq]
      refine ⟨fun he => hsame y hy ?_, fun he => he ▸ rfl⟩
      by_contra hne
      exact (hrest y hy hne).ne he
    rw [hfilter, List.filter_beq, List.count_eq_one_of_mem hd.of_map hx]
    rfl

/-! ### The stamp and the meter test (R80 to R82) -/

theorem supportTest_eq_nothing_iff :
    supportTest cls p results len = .nothing ↔ ∀ o, supporting cls results len o = [] := by
  rw [supportTest, dominant_eq_nothing_iff, supported_eq_nil_iff]

/-- A test finds the orientation whose best run outweighs every run that supports another orientation. -/
theorem supportTest_eq_found_iff : supportTest cls p results len = .found o x ↔
    bestRun (supporting cls results len o) = some x ∧
    ∀ q ≠ o, ∀ y ∈ supporting cls results len q, y.peak < x.peak ∧ p.dominance * y.peak ≤ 8 * x.peak := by
  rw [supportTest, dominant_eq_found_iff, leaders_eq_singleton_iff supported_distinct, mem_supported_iff,
    mul_topPeak_le_iff, and_assoc]
  refine and_congr_right fun _ => ⟨?_, fun h => ⟨?_, ?_⟩⟩
  · rintro ⟨hpeak, hdom⟩ q hq y hy
    obtain ⟨z, hz⟩ := Option.ne_none_iff_exists'.1 fun hn => List.ne_nil_of_mem hy (bestRun_eq_none_iff.1 hn)
    have hle : y.peak ≤ z.peak := ((bestRun_spec hz).2 y hy).peak_le
    have hmem := mem_supported_iff.2 hz
    have hother : (q, z) ∈ (supported cls results len).filter fun y => y.1 != o :=
      List.mem_filter.2 ⟨hmem, by simpa using hq⟩
    exact ⟨hle.trans_lt (hpeak _ hmem hq), (Nat.mul_le_mul_left _ hle).trans (hdom _ hother)⟩
  · rintro ⟨q, y⟩ hy hq
    exact (h q hq y (bestRun_spec (mem_supported_iff.1 hy)).1).1
  · rintro ⟨q, y⟩ hy
    obtain ⟨hmem, hq⟩ := List.mem_filter.1 hy
    exact (h q (by simpa using hq) y (bestRun_spec (mem_supported_iff.1 hmem)).1).2

/-- A test is ambiguous where there is support and each supporting run has a run of another orientation that is as strong
or within DOMINANCE / 8. -/
theorem supportTest_eq_ambiguous (hs : ∃ o, supporting cls results len o ≠ [])
    (h : ∀ o, ∀ x ∈ supporting cls results len o, ∃ q, q ≠ o ∧ ∃ y ∈ supporting cls results len q,
      x.peak ≤ y.peak ∨ 8 * x.peak < p.dominance * y.peak) : supportTest cls p results len = .ambiguous := by
  cases ht : supportTest cls p results len with
  | nothing =>
    obtain ⟨o, ho⟩ := hs
    exact absurd (supportTest_eq_nothing_iff.1 ht o) ho
  | ambiguous => rfl
  | found o x =>
    obtain ⟨hbest, hrest⟩ := supportTest_eq_found_iff.1 ht
    obtain ⟨q, hq, y, hy, hstrong⟩ := h o x (bestRun_spec hbest).1
    have := hrest q hq y hy
    omega

end Sys2Proof.Machine
end

section
/-! The verdict by a letter's runs: the stamp test, the meter test, the blind policy, and a letter with no support (R75,
R76, R80 to R84). -/

namespace Sys2Proof.Machine

variable {cls : TagClass} {p : Profile} {results : PerChan ChanResult} {len : Int} {o : Orientation} {x : Run}

/-- The class `cls` decides the verdict where it is supported: PHOS comes first, and FLUO is tested where no PHOS run
supports anything (R76, R82). -/
def Decides (cls : TagClass) (results : PerChan ChanResult) (len : Int) : Prop :=
  cls = .fluo → ∀ q, supporting .phos results len q = []

/-- The verdict kind that support of a class gives (R80, R82). -/
def TagClass.kind (cls : TagClass) : VerdictKind := if cls = .phos then .stamp else .meter

theorem TagClass.kind_inj {c d : TagClass} : c.kind = d.kind ↔ c = d := by
  cases c <;> cases d <;> simp [TagClass.kind]

theorem TagClass.kind_ne (c : TagClass) : c.kind ≠ .reject ∧ c.kind ≠ .noTag ∧ c.kind ≠ .ambiguous := by
  cases c <;> simp [TagClass.kind]

theorem judgeRuns_found (hc : Decides cls results len) (h : supportTest cls p results len = .found o x) :
    judgeRuns p results len = underBlindPolicy p.blindPolicy (anyBlind results) cls.kind o x := by
  cases cls with
  | phos => simp [judgeRuns, h, TagClass.kind]
  | fluo => simp [judgeRuns, supportTest_eq_nothing_iff.2 (hc rfl), h, TagClass.kind]

theorem judgeRuns_ambiguous (hc : Decides cls results len) (h : supportTest cls p results len = .ambiguous) :
    judgeRuns p results len = culledVerdict .ambiguous .empty := by
  cases cls with
  | phos => simp [judgeRuns, h]
  | fluo => simp [judgeRuns, supportTest_eq_nothing_iff.2 (hc rfl), h]

theorem judgeRuns_nothing (h : ∀ cls o, supporting cls results len o = []) :
    judgeRuns p results len = nothingFound results := by
  simp [judgeRuns, supportTest_eq_nothing_iff.2 (h _)]

/-- Under the blind policy a verdict is REJECT, or that of the support with BLIND_PARTIAL under ACCEPT (R83). -/
theorem underBlindPolicy_cases (policy : BlindPolicy) (blind : Bool) (k : VerdictKind) (o : Orientation) (x : Run) :
    (underBlindPolicy policy blind k o x).kind = .reject ∨
    (underBlindPolicy policy blind k o x = ⟨k, some o, { Reasons.empty with blindPartial := blind },
      some ⟨x.start, x.length, x.peak⟩⟩ ∧ (blind = true → policy = .accept)) := by
  cases blind with
  | false => exact .inr ⟨rfl, nofun⟩
  | true =>
    cases policy with
    | reject => exact .inl rfl
    | accept => exact .inr ⟨rfl, fun _ => rfl⟩

theorem nothingFound_kind (results : PerChan ChanResult) :
    (nothingFound results).kind = .reject ∨ (nothingFound results).kind = .noTag := by
  unfold nothingFound
  split
  · exact .inl rfl
  · exact .inr rfl

/-- A STAMP or METER verdict is that of an orientation which the test of its class finds (R80, R82, R83). -/
theorem judgeRuns_supported (h : (judgeRuns p results len).kind = cls.kind) : Decides cls results len ∧
    ∃ o x, supportTest cls p results len = .found o x ∧
      judgeRuns p results len = ⟨cls.kind, some o, { Reasons.empty with blindPartial := anyBlind results },
        some ⟨x.start, x.length, x.peak⟩⟩ ∧ (anyBlind results = true → p.blindPolicy = .accept) := by
  have found : ∀ c o x, Decides c results len → supportTest c p results len = .found o x → c = cls ∧
      judgeRuns p results len = ⟨cls.kind, some o, { Reasons.empty with blindPartial := anyBlind results },
        some ⟨x.start, x.length, x.peak⟩⟩ ∧ (anyBlind results = true → p.blindPolicy = .accept) := by
    intro c o x hc ht
    have hv := judgeRuns_found hc ht
    rcases underBlindPolicy_cases p.blindPolicy (anyBlind results) c.kind o x with hr | ⟨he, hp⟩
    · exact absurd (h.symm.trans (hv ▸ hr)) cls.kind_ne.1
    · rw [hv, he] at h
      obtain rfl := TagClass.kind_inj.1 h
      exact ⟨rfl, hv.trans he, hp⟩
  have notAmbiguous : ∀ c, Decides c results len → supportTest c p results len ≠ .ambiguous := by
    intro c hc ht
    rw [judgeRuns_ambiguous hc ht] at h
    exact cls.kind_ne.2.2 h.symm
  have hphos : Decides .phos results len := nofun
  cases ht : supportTest .phos p results len with
  | found o x =>
    obtain ⟨rfl, hv⟩ := found _ o x hphos ht
    exact ⟨hphos, o, x, ht, hv⟩
  | ambiguous => exact absurd ht (notAmbiguous _ hphos)
  | nothing =>
    have hfluo : Decides .fluo results len := fun _ => supportTest_eq_nothing_iff.1 ht
    cases ht' : supportTest .fluo p results len with
    | found o x =>
      obtain ⟨rfl, hv⟩ := found _ o x hfluo ht'
      exact ⟨hfluo, o, x, ht', hv⟩
    | ambiguous => exact absurd ht' (notAmbiguous _ hfluo)
    | nothing =>
      have hnone : ∀ c o, supporting c results len o = [] := fun c => by
        cases c with
        | phos => exact supportTest_eq_nothing_iff.1 ht
        | fluo => exact supportTest_eq_nothing_iff.1 ht'
      rw [judgeRuns_nothing hnone] at h
      rcases nothingFound_kind results with hk | hk
      · exact absurd (h.symm.trans hk) cls.kind_ne.1
      · exact absurd (h.symm.trans hk) cls.kind_ne.2.1

theorem any_allChans_iff {f : Chan → Bool} : allChans.any f = true ↔ ∃ c, f c = true := by
  rw [List.any_eq_true]
  exact ⟨fun ⟨c, _, h⟩ => ⟨c, h⟩, fun ⟨c, h⟩ => ⟨c, by cases c <;> decide, h⟩⟩

/-- Settles O41: both directions by what the tests find and the blind policy; without support by the channels' flags. -/
theorem facedVerdictIsSupported : Obligations.FacedVerdictIsSupported := by
  unfold Obligations.FacedVerdictIsSupported
  refine ⟨fun p results len v cls hv hkind => ?_, fun p results len cls hc => ⟨?_, fun hs hrivals => ?_⟩,
    fun p results len => ⟨any_allChans_iff, fun hnone => ⟨fun hb => ?_, fun hb => ?_⟩⟩⟩
  · subst hv
    have hk : (judgeRuns p results len).kind = cls.kind := by
      rcases hkind with ⟨hk, rfl⟩ | ⟨hk, rfl⟩ <;> exact hk
    obtain ⟨hdecides, o, x, ht, he, hpolicy⟩ := judgeRuns_supported hk
    obtain ⟨hbest, hrest⟩ := supportTest_eq_found_iff.1 ht
    obtain ⟨hmem, hgood⟩ := bestRun_spec hbest
    rw [he]
    exact ⟨o, x, rfl, rfl, hmem, hgood, hrest, hdecides, rfl, hpolicy⟩
  · rintro o x _ _ rfl rfl hx hbest hrest
    have hv := judgeRuns_found hc (supportTest_eq_found_iff.2 ⟨bestRun_eq_some hx hbest, hrest⟩)
    refine ⟨fun hb => ?_, fun hb hp => ?_, fun hb hp => ?_⟩
    · rw [hv, hb]
      rfl
    · rw [hv, hb, hp]
      rfl
    · rw [hv, hb, hp]
      rfl
  · exact judgeRuns_ambiguous hc (supportTest_eq_ambiguous hs hrivals)
  · rw [judgeRuns_nothing hnone, nothingFound, if_pos hb]
    rfl
  · rw [judgeRuns_nothing hnone, nothingFound, if_neg (ne_true_of_eq_false hb)]
    refine ⟨_, rfl, rfl, ?_, any_allChans_iff (f := fun c => (results.get c).coated)⟩
    refine (any_allChans_iff (f := fun c => (results.get c).runs.any fun x => x.cls == .phos)).trans ?_
    simp only [List.any_eq_true, beq_iff_eq]

end Sys2Proof.Machine
end

section
/-! A held verdict: how it ends, at its points and with the induction of a successor, and the print of a STAMP letter (R78,
R85 to R88, R97 to R101, R120 to R122). -/

namespace Sys2Proof.Machine

/-! ### The end of a hold (R78) -/

theorem heldLetter_eq {l : Letter} {s : State} (hh : s.held = some l.id) (hf : findLetter l.id s = some l) :
    heldLetter s = some l := by simp [heldLetter, hh, hf]

theorem exec_pairPoint {l : Letter} {s : State} (ho : s.inReset = false) (hh : s.held = some l.id)
    (hf : findLetter l.id s = some l) : exec .pairPoint s =
      .next (if due s.trk.belt (pairPointOf s.prl.profile l) then judgeLetter l s else s) := by
  change live reachPairPoint s = _
  rw [live_out ho]
  simp only [reachPairPoint, heldLetter_eq hh hf]

theorem exec_verdictLimit {l : Letter} {s : State} (ho : s.inReset = false) (hh : s.held = some l.id)
    (hf : findLetter l.id s = some l) : exec .verdictLimit s =
      .next (if reached s.trk.belt (verdictLimitOf s.prl.profile l) then writeVerdict l closePairReject s else s) := by
  change live reachVerdictLimit s = _
  rw [live_out ho]
  simp only [reachVerdictLimit, heldLetter_eq hh hf]
  rfl

theorem endHold_eq {l : Letter} {s : State} (hh : s.held = some l.id) (hf : findLetter l.id s = some l) (close : Bool) :
    endHold close s = if close then writeVerdict l closePairReject s else judgeLetter l s := by
  simp only [endHold, heldLetter_eq hh hf]
  rfl

theorem writeVerdict_unheld {l : Letter} {v : Verdict} {s : State} (h : s.held = some l.id) :
    (writeVerdict l v s).held = none := by
  simp [writeVerdict_eq, verdictCounted, h]

/-! ### What a verdict leaves as it was -/

theorem ChangesOnly.without {b : Block} {bs : List Block} {s t : State} (h : ChangesOnly bs s t) (hb : Same b s t) :
    ChangesOnly (bs.erase b) s t := by
  intro c hc
  by_cases he : c = b
  · exact he ▸ hb
  · exact h c fun hm => hc ((List.mem_erase_of_ne he).2 hm)

theorem writeVerdict_changesOnly (l : Letter) (v : Verdict) (s : State) :
    ChangesOnly [.trk, .held, .cnu, .pkm, .lnc, .lki] s (writeVerdict l v s) := by
  intro b hb
  cases b <;> simp at hb <;> simp [Same]

/-- A STAMP is handed to its head and to no pocket. -/
theorem writeVerdict_stamp {l : Letter} {v : Verdict} {o : Orientation} {run : ChosenRun} (hk : v.kind = .stamp)
    (ho : v.orientation = some o) (hr : v.chosen = some run) (s : State) :
    writeVerdict l v s = schedulePrint l o run (verdictCounted l v s) := by
  rw [writeVerdict_eq, routeOf_main hk ho, handToCancel_stamp hk ho hr]
  rfl

/-! ### The induction of the successor (R9, R78) -/

theorem newLetter_close_iff (s : State) : (newLetter s).flags.close = true ↔
    ∃ te, s.trk.lastTe = some te ∧ posDiff te s.trk.belt < s.prl.profile.gmin := by
  cases h : s.trk.lastTe <;> simp [newLetter, h]

theorem inducted_trk (s : State) : (inducted s).trk = (addRecord (newLetter s) s).trk := by simp [inducted]

/-- The new record stands last, so that an older record of the same id is found before it. -/
theorem findLetter_inducted (id : LetterId) (s : State) : findLetter id (inducted s) =
    (findLetter id s).or (if s.trk.nextId == id then some (newLetter s) else none) := by
  rw [findLetter, inducted_trk]
  change (s.trk.letters ++ [newLetter s]).find? _ = _
  rw [List.find?_append, findLetter, List.find?_singleton]
  rfl

/-- The new record has no print, and ends no head's queue. -/
theorem previousEnd_inducted (u : HeadUnit) (s : State) : previousEnd u (inducted s) = previousEnd u s := by
  have hp : (inducted s).prl = s.prl := by simp [inducted]
  have hn : (newLetter s).print = none := rfl
  unfold previousEnd
  rw [hp]
  split
  · next id _ =>
    rw [findLetter_inducted]
    cases findLetter id s with
    | some l => rfl
    | none =>
      rw [Option.none_or]
      split
      · simp [hn]
      · rfl
  · rfl

theorem inducted_alike (l : Letter) (s : State) : SeenAlike l l s (inducted s) where
  id := rfl
  length := rfl
  lePos := rfl
  cnu := by simp [inducted]
  prl := by simp [inducted]
  previous u := previousEnd_inducted u s

theorem inducted_pkm (s : State) : (inducted s).pkm = (bump .inducted s).pkm := by simp [inducted, bump, addRecord]

theorem inducted_tally {x : Tally} (h : x ≠ .inducted) (s : State) : tally x (inducted s) = tally x s := by
  rw [tally_of_pkm (inducted_pkm s), tally_bump, if_neg h]

theorem Verdict.tally_ne_inducted (v : Verdict) : v.tally ≠ .inducted := by
  unfold Verdict.tally
  split <;> simp

/-- A verdict written right after an induction is written of the state before it. -/
theorem VerdictWritten.of_inducted {v : Verdict} {l m : Letter} {s t : State} (h : VerdictWritten v l m (inducted s) t) :
    VerdictWritten v l m s t where
  verdict := h.verdict
  held := h.held
  counted := by rw [h.counted, inducted_tally v.tally_ne_inducted]
  print o run d hk ho hr hdate := (h.print o run d hk ho hr ((inducted_alike l s).cnu ▸ hdate)).congr (inducted_alike l s)
    (inducted_tally (x := .missed) nofun s) (inducted_tally (x := .headDown) nofun s)
  notRequired hk := (inducted_alike l s).cnu ▸ h.notRequired hk
  culled hr := by
    have hc := h.culled hr
    rwa [inducted_pkm] at hc
  main hr := by
    have hm := h.main hr
    rwa [inducted_pkm, (inducted_alike l s).prl] at hm

/-- The line controller takes no part in a verdict. -/
theorem VerdictWritten.withLine {v : Verdict} {l m : Letter} {s t : State} (h : VerdictWritten v l m s t)
    (c : LineController) : VerdictWritten v l m s { t with lnc := c } :=
  ⟨h.verdict, h.held, h.counted, h.print, h.notRequired, h.culled, h.main⟩

theorem resumeDrain_eq (s : State) : resumeDrain s = { s with lnc := (resumeDrain s).lnc } := by
  unfold resumeDrain
  split
  · split <;> rfl
  all_goals rfl

/-- The hold of a letter ends with the induction of its successor, by whether that carries CLOSE. -/
theorem induct_endsHold {l : Letter} {s : State} {v : Verdict} (hh : s.held = some l.id) (hf : findLetter l.id s = some l)
    (hv : v = if (newLetter s).flags.close then closePairReject else
      judgeRuns s.prl.profile (l.results.getD (.all ⟨false, [], false, false, false⟩)) (l.length.getD 0)) :
    ∃ m, findLetter l.id (induct s) = some m ∧ (induct s).held = none ∧ VerdictWritten v l m s (induct s) := by
  have hh' : (inducted s).held = some l.id := by simp [inducted, hh]
  have hf' : findLetter l.id (inducted s) = some l := by rw [findLetter_inducted, hf, Option.some_or]
  have he : induct s = resumeDrain (writeVerdict l v (inducted s)) := by
    change resumeDrain (endHold (newLetter s).flags.close (inducted s)) = _
    rw [endHold_eq hh' hf', hv]
    split
    · rfl
    · rw [judgeLetter, (inducted_alike l s).prl]
      rfl
  obtain ⟨m, hm, -, hw⟩ := writeVerdict_written (v := v) hf'
  rw [he, resumeDrain_eq]
  exact ⟨m, hm, writeVerdict_unheld hh', hw.of_inducted.withLine _⟩

/-- Settles O42: each end of the hold by its own equation, and what it writes by `writeVerdict_written`. -/
theorem heldVerdictEnds : Obligations.HeldVerdictEnds := by
  unfold Obligations.HeldVerdictEnds
  refine ⟨fun s l judged ho hh hf hj => ?_, fun ⟨kind, orientation, reasons, chosen⟩ => ?_, rfl⟩
  case refine_2 =>
    rcases orientation with _ | o
    · cases kind <;> rfl
    · cases kind <;> cases o <;> rfl
  have ends : ∀ v, ∃ m, findLetter l.id (writeVerdict l v s) = some m ∧ VerdictWritten v l m s (writeVerdict l v s) ∧
      (writeVerdict l v s).held = none := fun v => by
    obtain ⟨m, hm, -, hw⟩ := writeVerdict_written (v := v) hf
    exact ⟨m, hm, hw, writeVerdict_unheld hh⟩
  have hjudge : judgeLetter l s = writeVerdict l judged s := by rw [hj]; rfl
  refine ⟨fun hd => ?_, fun hd => ?_, fun hr => ?_, fun hr => ?_, fun he hl hroom => ?_⟩
  · rw [exec_pairPoint ho hh hf, if_neg (ne_true_of_eq_false hd)]
  · obtain ⟨m, hm, hw, hu⟩ := ends judged
    exact ⟨_, m, by rw [exec_pairPoint ho hh hf, if_pos hd, hjudge], hm, hw, hu, writeVerdict_changesOnly l judged s⟩
  · rw [exec_verdictLimit ho hh hf, if_neg (ne_true_of_eq_false hr)]
  · obtain ⟨m, hm, hw, hu⟩ := ends closePairReject
    refine ⟨_, m, by rw [exec_verdictLimit ho hh hf, if_pos hr], hm, hw, hu, ?_⟩
    exact (writeVerdict_changesOnly l closePairReject s).without (b := .cnu) (hw.notRequired nofun).2
  · generalize hu : ({ s with inputs := { s.inputs with e0 := true } } : State) = u
    have hnew : newLetter u = newLetter s := by rw [← hu]; rfl
    have hseen : SeenAlike l l s u := by rw [← hu]; exact ⟨rfl, rfl, rfl, rfl, rfl, fun _ => rfl⟩
    obtain ⟨m, hm, hnone, hw⟩ := induct_endsHold (l := l) (s := u) (by rw [← hu]; exact hh) (by rw [← hu]; exact hf) rfl
    have hw := hw.congr hseen rfl (by rw [← hu])
    refine ⟨induct u, m, ?_, hm, hnone, fun hc => ?_, fun hc => ?_, newLetter_close_iff s⟩
    · rw [exec_e0LeEdge ho he, hu, e0LeadingEdge_inducts (by rw [← hu]; exact hl) (by rw [← hu]; exact hroom)]
    · rwa [hnew, hc] at hw
    · rw [hnew, hc, hseen.prl] at hw
      rw [hj]
      exact hw

/-! ### The print of a STAMP letter (R87, R97 to R101, R120) -/

/-- Settles O44: the STAMP judged at its pair point is placed as its verdict is written; the previous end by its cases. -/
theorem printsAreScheduled : Obligations.PrintsAreScheduled := by
  unfold Obligations.PrintsAreScheduled
  refine ⟨fun s l v o run d ho hh hf hdue hv hk hor hrun hd => ?_,
    fun s u => ⟨fun q id l c x hq hf hc hx => ?_, fun hq => ⟨fun hs => ?_, fun e hs he => ?_, ?_⟩⟩⟩
  · obtain ⟨m, hm, -, hw⟩ := writeVerdict_written (v := v) hf
    have he : exec .pairPoint s = .next (writeVerdict l v s) := by
      rw [exec_pairPoint ho hh hf, if_pos hdue, hv]
      rfl
    have hline : Same .lnc s (writeVerdict l v s) ∧ Same .lki s (writeVerdict l v s) := by
      rw [writeVerdict_stamp hk hor hrun]
      simp [Same, verdictCounted]
    refine ⟨_, m, he, hm, ?_, hw.print o run d hk hor hrun hd⟩
    exact ((writeVerdict_changesOnly l v s).without hline.1).without hline.2
  · simp [previousEnd, hq, hf, Letter.print, hc, hx, fireEndAt, fireStartAt, beyond]
  · simp [previousEnd, hq, hs]
  · simp [previousEnd, hq, hs, he]
  · rintro (hs | hs | hs)
    all_goals simp [previousEnd, hq, hs]

end Sys2Proof.Machine
end

section
/-! The print span (R98), and what SET_POSTMARK sets (R94 to R96). -/

namespace Sys2Proof.Machine

/-! ### The print span (R98) -/

theorem printSpan_lead (p : Profile) (len start width : Nat) :
    printSpan p .lead len start width = (start - p.margin, min p.k (len - (start - p.margin))) := rfl

theorem printSpan_trail (p : Profile) (len start width : Nat) : printSpan p .trail len start width =
    (min len (start + width + p.margin) - p.k,
      min len (start + width + p.margin) - (min len (start + width + p.margin) - p.k)) := rfl

/-- Settles O43: the two spans are the definition's, and each bound is linear arithmetic on the class's span. -/
theorem printSpanWithinLetter : Obligations.PrintSpanWithinLetter := by
  unfold Obligations.PrintSpanWithinLetter
  refine fun p len start width => ⟨rfl, rfl, fun hs hk hw cls => ?_⟩
  cases cls with
  | lead => rw [printSpan_lead]; dsimp only; omega
  | trail => rw [printSpan_trail]; dsimp only; omega

/-! ### Requests that their owners decide (R173) -/

/-- A served request is decided by its owner, whose answer stands last in the reply queue. -/
theorem live_served {k : ReqKind} {r : Request} {rest : List Request} {s : State} (h : Served k r rest s) (o : Owner) :
    live (dispatch k o) s = .next (pushAnswer r.kind r.tag (o r (taken rest s)).2 (o r (taken rest s)).1) := by
  rw [live_out h.out, dispatch_ready h.toReady, serve_served h]
  rfl

/-- A served request that its owner refuses. -/
theorem live_refused {k : ReqKind} {r : Request} {rest : List Request} {s : State} (h : Served k r rest s) {o : Owner}
    {e : ErrorCode} (he : o r (taken rest s) = refuse e (taken rest s)) :
    live (dispatch k o) s = .next (refused r rest e s) := by
  rw [live_served h, he]
  rfl

/-- A served request that its owner answers, leaving the state `u`: the answer stands last in the reply queue. -/
theorem live_answered {k : ReqKind} {r : Request} {rest : List Request} {s u : State} (h : Served k r rest s) {o : Owner}
    {a : Answer} (he : o r (taken rest s) = (u, a)) :
    live (dispatch k o) s = .next { u with lki := { u.lki with replies := u.lki.replies ++ [placeOf r a] } } := by
  rw [live_served h, he, pushAnswer_eq]

/-! ### SET_POSTMARK (R94, R95, R96) -/

theorem startNumberRefused_iff (d : Date) (n : Nat) (c : CancelUnit) :
    startNumberRefused d n c = true ↔ ∃ f, c.lastFire = some f ∧ f.date = d ∧ n ≤ f.seq := by
  unfold startNumberRefused lastNumberFor
  cases c.lastFire with
  | none => simp
  | some f => by_cases hd : f.date = d <;> simp [hd]

/-- SET_POSTMARK's start number, clamped into its range (R95). -/
def clampedStart (r : Request) : Option Nat := (startNumberOf r.payload).map (clampTo 1 Config.seqCeiling)

theorem postmarkRefused_iff (d : Date) (office : Nat) (n : Option Nat) (s : State) :
    postmarkRefused d office (n.map (clampTo 1 Config.seqCeiling)) s = true ↔
      d.real = false ∨ (∃ d₀, s.cnu.date = some d₀ ∧ d.before d₀ = true) ∨ 8 ≤ office ∨
      s.prl.profile.office office = [] ∨
      ∃ v f, n = some v ∧ s.cnu.lastFire = some f ∧ f.date = d ∧ max 1 (min 9999999 v) ≤ f.seq := by
  unfold postmarkRefused
  cases s.cnu.date with
  | none => cases n <;> simp [startNumberRefused_iff, clampTo, Config.seqCeiling, or_assoc]
  | some d₀ => cases n <;> simp [startNumberRefused_iff, clampTo, Config.seqCeiling, or_assoc]

/-- The settings a SET_POSTMARK that is not refused makes; `n` is its clamped start number (R94, R95). -/
def postmarkSet (d : Date) (time office : Nat) (n : Option Nat) (s : State) : State :=
  { s with cnu := { s.cnu with
    date := some d, timeMark := min time 1439, office := office
    waiting := match n with
      | some v => some ⟨v, d⟩
      | none => s.cnu.waiting } }

/-- The state with the settings of SET_POSTMARK's payload (R94, R95). -/
def postmarkTaken (r : Request) (s : State) : State :=
  postmarkSet (postmarkDate r.payload) (ofBe16 (byteAt r.payload 4) (byteAt r.payload 5)) (byteAt r.payload 6).toNat
    (clampedStart r) s

theorem ownSetPostmark_eq (r : Request) (s : State) : ownSetPostmark r s =
    if postmarkRefused (postmarkDate r.payload) (byteAt r.payload 6).toNat (clampedStart r) s then refuse .badValue s
    else (postmarkTaken r s, .ok
      (decide (1439 < ofBe16 (byteAt r.payload 4) (byteAt r.payload 5)) || clampedStart r != startNumberOf r.payload)
      (postmarkFields (postmarkTaken r s))) := rfl

/-- A number is clamped exactly where it lies outside its range. -/
theorem map_clampTo_ne_iff {lo hi : Nat} (h : lo ≤ hi) (n : Option Nat) :
    n.map (clampTo lo hi) ≠ n ↔ ∃ v, n = some v ∧ (v < lo ∨ hi < v) := by
  cases n with
  | none => simp
  | some v =>
    have hc : clampTo lo hi v ≠ v ↔ v < lo ∨ hi < v := by unfold clampTo; omega
    simpa using hc

/-- SET_POSTMARK says that it has clamped where a number of its payload lies outside its range (R94, R95). -/
theorem postmark_clamped (time : Nat) (r : Request) :
    (decide (1439 < time) || clampedStart r != startNumberOf r.payload) =
      decide (1439 < time ∨ ∃ v, startNumberOf r.payload = some v ∧ (v < 1 ∨ 9999999 < v)) := by
  have hn : clampedStart r ≠ startNumberOf r.payload ↔ _ := map_clampTo_ne_iff (by decide) _
  rw [Bool.eq_iff_iff, Bool.or_eq_true, bne_iff_ne, hn, decide_eq_true_eq, decide_eq_true_eq]
  rfl

/-- Settles O48: the refusals by `postmarkRefused_iff`, and otherwise what SET_POSTMARK sets and answers. -/
theorem setPostmarkSetsSettings : Obligations.SetPostmarkSetsSettings := by
  unfold Obligations.SetPostmarkSetsSettings
  intro r rest s d time office n h hd ht ho hn
  have hd : d = postmarkDate r.payload := hd
  have ht : time = ofBe16 (byteAt r.payload 4) (byteAt r.payload 5) := ht
  have hn : n = startNumberOf r.payload := hn
  subst hd ht ho hn
  have hiff := postmarkRefused_iff (postmarkDate r.payload) (byteAt r.payload 6).toNat (startNumberOf r.payload) s
  refine ⟨fun hbad => ?_, fun hreal hdate hoffice htext hnum => ?_⟩
  · exact live_refused h (by rw [ownSetPostmark_eq, if_pos]; exact hiff.2 hbad)
  · have hok : ¬ postmarkRefused (postmarkDate r.payload) (byteAt r.payload 6).toNat (clampedStart r) s = true := by
      rw [clampedStart, hiff]
      rintro (hf | ⟨d₀, h₀, hb⟩ | ho | ht | ⟨v, f, hv, hf, hfd, hle⟩)
      · simp [hreal] at hf
      · simp [hdate d₀ h₀] at hb
      · omega
      · exact htext ht
      · have := hnum v f hv hf hfd
        omega
    refine ⟨_, live_answered h (by rw [ownSetPostmark_eq, if_neg]; exact hok), ?_, ?_, ?_⟩
    · simp only [postmarkTaken, postmarkSet, clampedStart]
      cases startNumberOf r.payload <;> rfl
    · rw [postmark_clamped]
      rfl
    · intro b hb
      cases b <;> simp at hb <;> rfl

end Sys2Proof.Machine
end

section
/-! The cancel unit's rules: an outcome written, a queue emptied, the test of HEAD_DOWN (R97, R110, R114, R120). -/

namespace Sys2Proof.Machine

/-! ### An outcome written (R97, R120) -/

/-- The record with the outcome and the missed reason written, where it has a cancel part (R97). -/
def Letter.withOutcome (o : CancelOutcome) (m : Option MissedReason) (l : Letter) : Letter :=
  { l with cancel := l.cancel.map fun c => { c with outcome := o, missed := m } }

theorem findLetter_writeOutcome (id k : LetterId) (o : CancelOutcome) (m : Option MissedReason) (s : State) :
    findLetter k (writeOutcome id o m s) =
      (findLetter k s).map fun l => if l.id = id then l.withOutcome o m else l := by
  rw [← findLetter_updateLetter id k (Letter.withOutcome o m) (fun _ => rfl) s]
  simp only [writeOutcome]
  split <;> rfl

theorem findLetter_writeOutcome_self {id : LetterId} {s : State} {l : Letter} (h : findLetter id s = some l)
    (o : CancelOutcome) (m : Option MissedReason) :
    findLetter id (writeOutcome id o m s) = some (l.withOutcome o m) := by
  simp [findLetter_writeOutcome, h, findLetter_id h]

theorem findLetter_writeOutcome_other {id k : LetterId} (h : k ≠ id) (o : CancelOutcome) (m : Option MissedReason)
    (s : State) : findLetter k (writeOutcome id o m s) = findLetter k s := by
  rw [findLetter_writeOutcome]
  cases hl : findLetter k s with
  | none => rfl
  | some l => simp [findLetter_id hl, h]

theorem writeOutcome_pockets (id : LetterId) (o : CancelOutcome) (m : Option MissedReason) (s : State) :
    (writeOutcome id o m s).pkm.pockets = s.pkm.pockets := by
  simp only [writeOutcome]
  split <;> rfl

theorem writeOutcome_belt (id : LetterId) (o : CancelOutcome) (m : Option MissedReason) (s : State) :
    (writeOutcome id o m s).trk.belt = s.trk.belt := by
  simp only [writeOutcome]
  split <;> rfl

/-- A written outcome counts under its tally (R120). -/
theorem writeOutcome_tally {o : CancelOutcome} {x : Tally} (h : o.tally = some x) (id : LetterId)
    (m : Option MissedReason) (s : State) :
    tally x (writeOutcome id o m s) = min (tally x s + 1) 4294967295 := by
  simp only [writeOutcome, h]
  rw [tally_bump, if_pos rfl]
  rfl

/-- A letter whose record, where it stands in the list with a cancel part, bears the outcome and the missed reason. -/
def Bears (o : CancelOutcome) (m : Option MissedReason) (id : LetterId) (s : State) : Prop :=
  ∀ l c, findLetter id s = some l → l.cancel = some c → c.outcome = o ∧ c.missed = m

theorem writeOutcome_bears (id : LetterId) (o : CancelOutcome) (m : Option MissedReason) (s : State) :
    Bears o m id (writeOutcome id o m s) := by
  intro l c hl hc
  rw [findLetter_writeOutcome] at hl
  obtain ⟨l', hl', rfl⟩ := Option.map_eq_some_iff.1 hl
  rw [if_pos (findLetter_id hl')] at hc
  obtain ⟨c', -, rfl⟩ := Option.map_eq_some_iff.1 hc
  exact ⟨rfl, rfl⟩

theorem Bears.writeOutcome {o : CancelOutcome} {m : Option MissedReason} {id : LetterId} {s : State}
    (h : Bears o m id s) (k : LetterId) : Bears o m id (writeOutcome k o m s) := by
  by_cases hk : id = k
  · exact hk ▸ writeOutcome_bears id o m s
  · intro l c hl
    rw [findLetter_writeOutcome_other hk] at hl
    exact h l c hl

theorem findLetter_of_trk {s t : State} (h : t.trk = s.trk) (id : LetterId) : findLetter id t = findLetter id s :=
  findLetter_of_letters (by rw [h]) id

theorem Bears.congr {o : CancelOutcome} {m : Option MissedReason} {id : LetterId} {s t : State}
    (h : Bears o m id s) (ht : t.trk = s.trk) : Bears o m id t := by
  intro l c hl
  exact h l c ((findLetter_of_trk ht id).symm.trans hl)

/-- The outcome of the head's print in progress, written to its letter. -/
def writePrinting (h : Head) (o : CancelOutcome) (s : State) : State :=
  match (s.cnu.heads.get h).printing with
  | some id => writeOutcome id o none s
  | none => s

@[simp] theorem writePrinting_frame (h : Head) (o : CancelOutcome) (s : State) :
    (writePrinting h o s).inReset = s.inReset ∧ (writePrinting h o s).trk.belt = s.trk.belt ∧
    (writePrinting h o s).cnu = s.cnu ∧ (writePrinting h o s).pkm.pockets = s.pkm.pockets ∧
    (writePrinting h o s).lnc = s.lnc ∧ (writePrinting h o s).lki = s.lki ∧ (writePrinting h o s).prl = s.prl := by
  unfold writePrinting
  split
  · simp [writeOutcome_belt, writeOutcome_pockets]
  · simp

theorem writePrinting_of {h : Head} {s : State} {id : LetterId} (hp : (s.cnu.heads.get h).printing = some id)
    (o : CancelOutcome) : writePrinting h o s = writeOutcome id o none s := by
  rw [writePrinting, hp]

/-! ### A queue emptied (R110) -/

/-- The same outcome written to each letter of a list. -/
theorem writeOutcomes_bears {o : CancelOutcome} {m : Option MissedReason} {id : LetterId} (q : List LetterId)
    {s : State} (h : id ∈ q ∨ Bears o m id s) : Bears o m id (q.foldl (fun s k => writeOutcome k o m s) s) := by
  induction q generalizing s with
  | nil => simpa using h
  | cons k q ih =>
    refine ih ?_
    rcases h with h | h
    · rcases List.mem_cons.1 h with rfl | h
      · exact .inr (writeOutcome_bears _ o m s)
      · exact .inl h
    · exact .inr (h.writeOutcome k)

theorem writeOutcomes_other {o : CancelOutcome} {m : Option MissedReason} {id : LetterId} {q : List LetterId}
    (h : id ∉ q) (s : State) :
    findLetter id (q.foldl (fun s k => writeOutcome k o m s) s) = findLetter id s := by
  induction q generalizing s with
  | nil => rfl
  | cons k q ih =>
    rw [List.mem_cons, not_or] at h
    rw [List.foldl_cons, ih h.2, findLetter_writeOutcome_other h.1]

/-- The head's entries bear HEAD_DOWN once its queue is emptied (R110). -/
theorem emptyQueue_bears {h : Head} {s : State} {id : LetterId} (hq : id ∈ (s.cnu.heads.get h).queue) :
    Bears .headDown none id (emptyQueue h s) := writeOutcomes_bears _ (.inl hq)

/-- Emptying a queue leaves the record of a letter that does not wait in it. -/
theorem emptyQueue_other {h : Head} {s : State} {id : LetterId} (hq : id ∉ (s.cnu.heads.get h).queue) :
    findLetter id (emptyQueue h s) = findLetter id s := writeOutcomes_other hq _

theorem emptyQueue_cnu (h : Head) (s : State) :
    (emptyQueue h s).cnu = (updateHead h (fun u => { u with queue := [] }) s).cnu :=
  foldl_keeps (fun s k => writeOutcome k .headDown none s) State.cnu _ (fun _ _ => (writeOutcome_frame ..).2.2.2.2.2.1) _

/-! ### HEAD_DOWN tested (R114) -/

theorem headDownHeld_congr {s t : State} (hc : t.cnu = s.cnu) (hp : t.prl = s.prl) :
    headDownHeld t = headDownHeld s := by rw [headDownHeld, headDownHeld, hc, hp]

theorem refreshHeadDown_lnc {s : State} (h : s.lnc.line ≠ .loading) :
    (refreshHeadDown s).lnc = { s.lnc with hold := { s.lnc.hold with headDown := headDownHeld s } } := by
  rw [refreshHeadDown, if_neg h, applyHeadDown, setHold_lnc]

theorem refreshHeadDown_hold {s : State} (h : s.lnc.line ≠ .loading) :
    (refreshHeadDown s).lnc.hold = { s.lnc.hold with headDown := headDownHeld (refreshHeadDown s) } := by
  rw [refreshHeadDown_lnc h, headDownHeld_congr (t := refreshHeadDown s) (s := s) (by simp) (by simp)]

end Sys2Proof.Machine
end

section
/-! A head's fault input (R109, R110), and the requests HEAD_RESET, HEAD_DISABLE and HEAD_ENABLE (R111 to R114). -/

namespace Sys2Proof.Machine

/-! ### The fault input (R109, R110) -/

theorem exec_headFault {s : State} (h : Head) (active : Bool) (ho : s.inReset = false) :
    exec (.headFault h active) s =
      .next (if active && !s.inputs.headFault.get h then
          faultHead h { s with inputs := { s.inputs with headFault := s.inputs.headFault.set h active } }
        else { s with inputs := { s.inputs with headFault := s.inputs.headFault.set h active } }) := by
  simp [exec, execHeadFault, onPin, ho]

/-- The head in FAULT with a print in progress broken off, before its queue is emptied (R109). -/
def brokenOff (h : Head) (s : State) : State :=
  updateHead h (fun u => { u with state := .fault, offPending := false })
    (if (s.cnu.heads.get h).state = .printing then
      let s := writePrinting h .faulted s
      updateHead h (HeadUnit.leavePrint (some (beyond s.trk.belt s.prl.profile.h))) s
    else s)

theorem faultHead_eq {h : Head} {s : State} (hf : (s.cnu.heads.get h).state ≠ .fault) :
    faultHead h s = refreshHeadDown (raise .headFault (emptyQueue h (brokenOff h s))) := by
  rw [faultHead, if_neg hf]
  rfl

theorem brokenOff_frame (h : Head) (s : State) :
    (brokenOff h s).inReset = s.inReset ∧ (brokenOff h s).lnc = s.lnc ∧ (brokenOff h s).lki = s.lki ∧
    (brokenOff h s).prl = s.prl := by
  unfold brokenOff
  split <;> simp

theorem brokenOff_printing {h : Head} {s : State} (hp : (s.cnu.heads.get h).state = .printing) :
    (brokenOff h s).cnu = { s.cnu with heads := s.cnu.heads.set h { s.cnu.heads.get h with
      state := .fault, offPending := false, printing := none, fireEnd := none
      recoveryEnd := some (s.trk.belt + BitVec.ofNat 32 s.prl.profile.h)
      recoveringFrom := (s.cnu.heads.get h).printing } } := by
  rw [brokenOff, if_pos hp]
  simp [updateHead, HeadUnit.leavePrint, beyond]

theorem brokenOff_idle {h : Head} {s : State} (hp : (s.cnu.heads.get h).state ≠ .printing) :
    (brokenOff h s).cnu = { s.cnu with
      heads := s.cnu.heads.set h { s.cnu.heads.get h with state := .fault, offPending := false } } := by
  rw [brokenOff, if_neg hp]
  rfl

theorem brokenOff_queue (h : Head) (s : State) :
    ((brokenOff h s).cnu.heads.get h).queue = (s.cnu.heads.get h).queue := by
  by_cases hp : (s.cnu.heads.get h).state = .printing
  · simp [brokenOff_printing hp]
  · simp [brokenOff_idle hp]

/-- The letter of the print broken off is FAULTED (R109). -/
theorem brokenOff_bears {h : Head} {s : State} {id : LetterId} (hp : (s.cnu.heads.get h).state = .printing)
    (hid : (s.cnu.heads.get h).printing = some id) : Bears .faulted none id (brokenOff h s) := by
  rw [brokenOff, if_pos hp, writePrinting_of hid]
  exact (writeOutcome_bears id .faulted none s).congr rfl

theorem faultHead_trk {h : Head} {s : State} (hf : (s.cnu.heads.get h).state ≠ .fault) :
    (faultHead h s).trk = (emptyQueue h (brokenOff h s)).trk := by simp [faultHead_eq hf]

theorem faultHead_cnu {h : Head} {s : State} (hf : (s.cnu.heads.get h).state ≠ .fault) :
    (faultHead h s).cnu = { s.cnu with heads := s.cnu.heads.set h (
      if (s.cnu.heads.get h).state = .printing then { s.cnu.heads.get h with
        state := .fault, queue := [], offPending := false, printing := none, fireEnd := none
        recoveryEnd := some (s.trk.belt + BitVec.ofNat 32 s.prl.profile.h)
        recoveringFrom := (s.cnu.heads.get h).printing }
      else { s.cnu.heads.get h with state := .fault, queue := [], offPending := false }) } := by
  have hc : (faultHead h s).cnu = (updateHead h (fun u => { u with queue := [] }) (brokenOff h s)).cnu := by
    simp [faultHead_eq hf, emptyQueue_cnu]
  rw [hc]
  split
  · next hp => simp [updateHead, brokenOff_printing hp]
  · next hp => simp [updateHead, brokenOff_idle hp]

/-- Settles O46: the input by its equation; FAULT by the print broken off and the queue emptied, with HEAD_DOWN tested. -/
theorem headFaultTakesHeadDown : Obligations.HeadFaultTakesHeadDown := by
  unfold Obligations.HeadFaultTakesHeadDown
  refine fun s h ho => ⟨by rw [exec_headFault h false ho]; rfl, fun hs => ?_, fun hi hf => ?_⟩
  · rw [exec_headFault h true ho]
    rcases hs with hi | hf
    · simp [hi]
    · simp [faultHead, hf]
  · generalize hu : ({ s with inputs := { s.inputs with headFault := s.inputs.headFault.set h true } } : State) = u
    have hcnu : u.cnu = s.cnu := by rw [← hu]
    have hul : u.lnc = s.lnc := by rw [← hu]
    have he : exec (.headFault h true) s = .next (faultHead h u) := by
      rw [exec_headFault h true ho, hi, hu]
      rfl
    have hfu : (u.cnu.heads.get h).state ≠ .fault := by rwa [hcnu]
    obtain ⟨-, hlnc, -, -⟩ := brokenOff_frame h u
    have hc := faultHead_cnu hfu
    refine ⟨faultHead h u, he, ?_, ?_, ?_, fun id hq m c hm hcm => ?_, fun id m c hp hid hq hm hcm => ?_, fun hl => ?_,
      fun b hb => ?_⟩
    · rw [hc, ← hu]
    · rw [faultHead_eq hfu]
      exact refreshHeadDown_pending _ (by rw [raise_has]; simp)
    · rw [firePin, hc]
      simp only [PerHead.get_set, if_true]
      split <;> simp
    · refine ((emptyQueue_bears (s := brokenOff h u) ?_).congr (faultHead_trk hfu)) m c hm hcm
      rwa [brokenOff_queue, hcnu]
    · rw [← hcnu] at hp hid hq
      rw [findLetter_of_trk (faultHead_trk hfu), emptyQueue_other (by rwa [brokenOff_queue])] at hm
      exact (brokenOff_bears hp hid m c hm hcm).1
    · have hlu : (raise .headFault (emptyQueue h (brokenOff h u))).lnc = s.lnc := by simp [hlnc, hul]
      rw [faultHead_eq hfu, refreshHeadDown_hold (by rwa [hlu]), hlu]
    · rw [← hu]
      cases b <;> simp at hb <;> simp [Same]

end Sys2Proof.Machine
end

section
/-! The requests HEAD_RESET, HEAD_DISABLE and HEAD_ENABLE (R111 to R114). -/

namespace Sys2Proof.Machine

/-! ### What a command leaves as it was -/

theorem ChangesOnly.mono {bs ds : List Block} {s t : State} (h : ChangesOnly bs s t) (hb : bs ⊆ ds) :
    ChangesOnly ds s t := fun b hd => h b fun hm => hd (hb hm)

theorem ChangesOnly.trans {bs cs ds : List Block} {s t u : State} (h : ChangesOnly bs s t) (h' : ChangesOnly cs t u)
    (hb : bs ⊆ ds) (hc : cs ⊆ ds) : ChangesOnly ds s u := by
  intro b hd
  have h1 := h b fun hm => hd (hb hm)
  have h2 := h' b fun hm => hd (hc hm)
  cases b <;> exact Eq.trans h2 h1

/-! ### A head request answered (R111 to R114) -/

/-- A request whose owner changes its head, leaving `x`, tests HEAD_DOWN and answers with the head as it then is. -/
theorem headRequest_answered {k : ReqKind} {r : Request} {rest : List Request} {s x : State} {o : Owner} {h : Head}
    (hs : Served k r rest s) (hk : k.inLoading = false) (ho : o r (taken rest s) = headReply h (refreshHeadDown x))
    (hx : ChangesOnly [.trk, .cnu, .pkm] (taken rest s) x) :
    ∃ t, live (dispatch k o) s = .next t ∧ t.cnu = x.cnu ∧
      t.lki.replies = s.lki.replies ++ [placeOf r (.ok false (headFields h t))] ∧
      t.lnc.hold = { s.lnc.hold with headDown := headDownHeld t } ∧ ChangesOnly [.lnc, .lki] x t := by
  have hl : x.lnc = s.lnc := hx .lnc (by simp)
  have hr : (refreshHeadDown x).lki.replies = s.lki.replies := by
    rw [(linkView_reports (refreshHeadDown_linkView x)).2.2, hx .lki (by simp)]
    rfl
  refine ⟨_, live_answered hs ho, by simp, ?_, ?_, fun b hb => ?_⟩
  · rw [hr]
    rfl
  · rw [← hl]
    exact refreshHeadDown_hold (by rw [hl]; exact hs.notLoading hk)
  · cases b <;> simp at hb <;> simp [Same]

theorem taken_changesOnly (rest : List Request) (s : State) : ChangesOnly [.lki] s (taken rest s) := by
  intro b hb
  cases b <;> simp at hb <;> rfl

theorem updateHead_changesOnly (h : Head) (f : HeadUnit → HeadUnit) (s : State) :
    ChangesOnly [.cnu] s (updateHead h f s) := by
  intro b hb
  cases b <;> simp at hb <;> rfl

theorem emptyQueue_changesOnly (h : Head) (s : State) : ChangesOnly [.trk, .cnu, .pkm] s (emptyQueue h s) := by
  intro b hb
  cases b <;> simp at hb <;> simp [Same]

section
variable {k : ReqKind} {r : Request} {rest : List Request} {s : State} {o : Owner} {h : Head} {f : HeadUnit → HeadUnit}

/-- A request that changes its head and nothing else. -/
theorem headRequest_changes (hs : Served k r rest s) (hk : k.inLoading = false)
    (ho : o r (taken rest s) = headReply h (refreshHeadDown (updateHead h f (taken rest s)))) :
    ∃ t, live (dispatch k o) s = .next t ∧
      t.cnu = { s.cnu with heads := s.cnu.heads.set h (f (s.cnu.heads.get h)) } ∧
      t.lki.replies = s.lki.replies ++ [placeOf r (.ok false (headFields h t))] ∧
      t.lnc.hold = { s.lnc.hold with headDown := headDownHeld t } ∧ ChangesOnly [.cnu, .lnc, .lki] s t := by
  have hx := updateHead_changesOnly h f (taken rest s)
  obtain ⟨t, he, hc, hr, hl, hkept⟩ := headRequest_answered hs hk ho
    (hx.mono (by simp))
  exact ⟨t, he, hc, hr, hl, ((taken_changesOnly rest s).trans hx (by simp) (by simp)).trans hkept
    (bs := [.lki, .cnu]) (by simp) (by simp)⟩

/-- A request that changes its head and empties its queue. -/
theorem headRequest_empties (hs : Served k r rest s) (hk : k.inLoading = false)
    (ho : o r (taken rest s) = headReply h (refreshHeadDown (emptyQueue h (updateHead h f (taken rest s)))))
    (hf : ∀ u, (f u).queue = u.queue) :
    ∃ t, live (dispatch k o) s = .next t ∧
      t.cnu = { s.cnu with heads := s.cnu.heads.set h { f (s.cnu.heads.get h) with queue := [] } } ∧
      t.lki.replies = s.lki.replies ++ [placeOf r (.ok false (headFields h t))] ∧
      (∀ id ∈ (s.cnu.heads.get h).queue, Bears .headDown none id t) ∧
      t.lnc.hold = { s.lnc.hold with headDown := headDownHeld t } ∧
      ChangesOnly [.trk, .cnu, .pkm, .lnc, .lki] s t := by
  have hx := (updateHead_changesOnly h f (taken rest s)).trans (emptyQueue_changesOnly h _)
    (ds := [.trk, .cnu, .pkm]) (by simp) (by simp)
  obtain ⟨t, he, hc, hr, hl, hkept⟩ := headRequest_answered hs hk ho hx
  refine ⟨t, he, ?_, hr, fun id hq => ?_, hl, ((taken_changesOnly rest s).trans hx
    (ds := [.lki, .trk, .cnu, .pkm]) (by simp) (by simp)).trans hkept (by simp) (by simp)⟩
  · rw [hc, emptyQueue_cnu]
    simp [updateHead, taken, updateLink]
  · refine Bears.congr (emptyQueue_bears ?_) (hkept .trk (by simp))
    rw [updateHead_get, if_pos rfl, hf]
    exact hq

end

/-! ### Each request on one head -/

section
variable {h : Head} {s : State}

theorem resetHead_wrongState (hf : (s.cnu.heads.get h).state ≠ .fault) : resetHead h s = refuse .wrongState s :=
  if_pos hf

theorem resetHead_active (hf : (s.cnu.heads.get h).state = .fault) (hi : s.inputs.headFault.get h = true) :
    resetHead h s = refuse .conditionActive s := by simp [resetHead, hf, hi]

theorem resetHead_back (hf : (s.cnu.heads.get h).state = .fault) (hi : s.inputs.headFault.get h = false) :
    resetHead h s = headReply h (refreshHeadDown (updateHead h (fun u => { u with state := u.backState }) s)) := by
  simp [resetHead, hf, hi]

theorem disableHead_wrongState (hf : (s.cnu.heads.get h).state = .fault) :
    disableHead h s = refuse .wrongState s := by simp [disableHead, hf]

/-- A head that is OFF, or that will be after its print or recovery, is left as it is (R112). -/
theorem disableHead_stays (hst : (s.cnu.heads.get h).state = .off ∨ (s.cnu.heads.get h).offPending = true ∧
    ((s.cnu.heads.get h).state = .printing ∨ (s.cnu.heads.get h).state = .recovering)) :
    disableHead h s = headReply h s := by
  rcases hst with hst | ⟨hp, hst | hst⟩
  · simp [disableHead, hst]
  · simp [disableHead, hst, hp]
  · simp [disableHead, hst, hp]

theorem disableHead_off (hst : (s.cnu.heads.get h).state = .ready ∨
    (s.cnu.heads.get h).offPending = false ∧ (s.cnu.heads.get h).state = .recovering) :
    disableHead h s =
      headReply h (refreshHeadDown (emptyQueue h (updateHead h (fun u => { u with state := .off }) s))) := by
  rcases hst with hst | ⟨hp, hst⟩
  · simp [disableHead, hst]
  · simp [disableHead, hst, hp]

theorem disableHead_pends (hp : (s.cnu.heads.get h).offPending = false)
    (hst : (s.cnu.heads.get h).state = .printing) : disableHead h s =
      headReply h (refreshHeadDown (emptyQueue h (updateHead h (fun u => { u with offPending := true }) s))) := by
  simp [disableHead, hst, hp]

theorem enableHead_wrongState (hf : (s.cnu.heads.get h).state = .fault) :
    enableHead h s = refuse .wrongState s := by simp [enableHead, hf]

theorem enableHead_back (hst : (s.cnu.heads.get h).state = .off) : enableHead h s =
    headReply h (refreshHeadDown (updateHead h (fun u => { u with state := u.backState }) s)) := by
  simp [enableHead, hst]

theorem enableHead_stays (hf : (s.cnu.heads.get h).state ≠ .fault) (ho : (s.cnu.heads.get h).state ≠ .off) :
    enableHead h s = headReply h (refreshHeadDown (updateHead h (fun u => { u with offPending := false }) s)) := by
  unfold enableHead
  split
  · next h => exact absurd h hf
  · next h => exact absurd h ho
  all_goals rfl

end

/-- Settles O47: each request by what its owner does in each state of the head, with HEAD_DOWN tested. -/
theorem headRequests : Obligations.HeadRequests := by
  unfold Obligations.HeadRequests
  constructor
  · intro k hk r rest s x hs hp hx
    simp only [List.mem_cons, List.not_mem_nil, or_false] at hk
    rcases hk with rfl | rfl | rfl
    · exact live_refused hs (by simp [ownHeadReset, hp, byteAt, hx])
    · exact live_refused hs (by simp [ownHeadDisable, hp, byteAt, hx])
    · exact live_refused hs (by simp [ownHeadEnable, hp, byteAt, hx])
  · rintro r rest s x h u hp hx rfl
    have hreset : ∀ t, ownHeadReset r t = resetHead h t := by simp [ownHeadReset, hp, byteAt, hx]
    have hdisable : ∀ t, ownHeadDisable r t = disableHead h t := by simp [ownHeadDisable, hp, byteAt, hx]
    have henable : ∀ t, ownHeadEnable r t = enableHead h t := by simp [ownHeadEnable, hp, byteAt, hx]
    refine ⟨fun hs => ⟨fun hf => ?_, fun hf hi => ?_, fun hf hi => ?_⟩,
      fun hs => ⟨fun hf => ?_, fun hst => ?_, fun hst => ?_⟩, fun hs => ⟨fun hf => ?_, fun hf => ?_⟩⟩
    · exact live_refused hs ((hreset _).trans (resetHead_wrongState hf))
    · exact live_refused hs ((hreset _).trans (resetHead_active hf hi))
    · exact headRequest_changes hs rfl ((hreset _).trans (resetHead_back hf hi))
    · exact live_refused hs ((hdisable _).trans (disableHead_wrongState hf))
    · exact live_answered hs ((hdisable _).trans (disableHead_stays hst))
    · have hbears : ∀ {t}, (∀ id ∈ (s.cnu.heads.get h).queue, Bears .headDown none id t) →
          ∀ id ∈ (s.cnu.heads.get h).queue, ∀ m c, findLetter id t = some m → m.cancel = some c →
            c.outcome = .headDown := fun hb id hid m c hm hc => (hb id hid m c hm hc).1
      by_cases hp : (s.cnu.heads.get h).state = .printing
      · have hoff : (s.cnu.heads.get h).offPending = false := by simpa [hp] using hst
        obtain ⟨t, he, hc, hr, hb, hl, hkept⟩ := headRequest_empties hs rfl
          ((hdisable _).trans (disableHead_pends hoff hp)) (fun _ => rfl)
        exact ⟨t, he, by rw [hc, if_pos hp], hr, hbears hb, hl, hkept⟩
      · have hst : (s.cnu.heads.get h).state = .ready ∨
            (s.cnu.heads.get h).offPending = false ∧ (s.cnu.heads.get h).state = .recovering := by
          simpa [hp] using hst
        obtain ⟨t, he, hc, hr, hb, hl, hkept⟩ := headRequest_empties hs rfl
          ((hdisable _).trans (disableHead_off hst)) (fun _ => rfl)
        exact ⟨t, he, by rw [hc, if_neg hp], hr, hbears hb, hl, hkept⟩
    · exact live_refused hs ((henable _).trans (enableHead_wrongState hf))
    · by_cases ho : (s.cnu.heads.get h).state = .off
      · simp only [if_pos ho]
        exact headRequest_changes hs rfl ((henable _).trans (enableHead_back ho))
      · simp only [if_neg ho]
        exact headRequest_changes hs rfl ((henable _).trans (enableHead_stays hf ho))

end Sys2Proof.Machine
end

section
/-! The points of a print: its start with the sequence number, its end, and its head's recovery (R99 to R107). -/

namespace Sys2Proof.Machine

/-! ### The sequence number (R104) -/

theorem nextNumber_waiting {d : Date} {c : CancelUnit} {w : StartNumber} (hw : c.waiting = some w)
    (hd : w.date = d) : nextNumber d c = (w.num, false) := by simp [nextNumber, hw, hd]

theorem nextNumber_unawaited {d : Date} {c : CancelUnit} (h : ∀ w, c.waiting = some w → w.date ≠ d) :
    nextNumber d c = nextNumber.afterLast d c := by
  unfold nextNumber
  split
  · next w hw => exact if_neg (h w hw)
  · rfl

theorem afterLast_sameDate {d : Date} {c : CancelUnit} {f : LastFire} (hf : c.lastFire = some f) (hd : f.date = d) :
    nextNumber.afterLast d c = if f.seq = 9999999 then (1, true) else (f.seq + 1, false) := by
  rw [nextNumber.afterLast, hf]
  exact if_pos hd

theorem afterLast_otherDate {d : Date} {c : CancelUnit} (h : ∀ f, c.lastFire = some f → f.date ≠ d) :
    nextNumber.afterLast d c = (1, false) := by
  unfold nextNumber.afterLast
  split
  · next f hf => exact if_neg (h f hf)
  · rfl

/-- The number wraps exactly where it goes on from the largest one (R104). -/
theorem nextNumber_wraps_iff (d : Date) (c : CancelUnit) : (nextNumber d c).2 = true ↔
    (∀ w, c.waiting = some w → w.date ≠ d) ∧ c.lastFire = some ⟨d, 9999999⟩ := by
  by_cases hw : ∀ w, c.waiting = some w → w.date ≠ d
  · rw [nextNumber_unawaited hw]
    by_cases hf : ∀ f, c.lastFire = some f → f.date ≠ d
    · rw [afterLast_otherDate hf]
      exact ⟨nofun, fun h => absurd rfl (hf _ h.2)⟩
    · push Not at hf
      obtain ⟨⟨d', q⟩, hf, rfl⟩ := hf
      rw [afterLast_sameDate hf rfl, hf]
      split <;> simp_all
  · push Not at hw
    obtain ⟨w, hw, hd⟩ := hw
    rw [nextNumber_waiting hw hd]
    exact ⟨nofun, fun h => absurd hd (h.1 w hw)⟩

/-! ### A fire start (R102 to R105) -/

/-- The front entry has left the head's queue (R102). -/
def popFront (h : Head) (s : State) : State := updateHead h (fun u => { u with queue := u.queue.tail }) s

theorem takeFireStart_ready {h : Head} {s : State} (hr : (s.cnu.heads.get h).state = .ready) (l : Letter)
    (x : PrintPart) : takeFireStart h l x s = startPrint h l x (popFront h s) := by
  simp [takeFireStart, popFront, hr]

theorem takeFireStart_late {h : Head} {s : State}
    (hr : (s.cnu.heads.get h).state = .printing ∨ (s.cnu.heads.get h).state = .recovering) (l : Letter)
    (x : PrintPart) : takeFireStart h l x s = writeOutcome l.id .missed (some .late) (popFront h s) := by
  rcases hr with hr | hr <;> simp [takeFireStart, popFront, hr]

theorem exec_fireStart {s : State} {h : Head} {l : Letter} {c : CancelPart} {x : PrintPart} {q : List LetterId}
    (ho : s.inReset = false) (hq : (s.cnu.heads.get h).queue = l.id :: q) (hl : findLetter l.id s = some l)
    (hc : l.cancel = some c) (hx : c.print = some x) :
    exec (.fireStart h) s =
      .next (if reached s.trk.belt (fireStartAt s.prl.profile l x) then takeFireStart h l x s else s) := by
  have hf : frontPrint h s = some (l, x) := by simp [frontPrint, hq, hl, Letter.print, hc, hx]
  change live (reachFireStart h) s = _
  rw [live_out ho, reachFireStart, hf]

/-- The state with SEQ_WRAP pending where the number wraps (R104). -/
def wrapped (d : Date) (s : State) : State := if (nextNumber d s.cnu).2 then raise .seqWrap s else s

theorem wrapped_frame (d : Date) (s : State) :
    (wrapped d s).cnu = s.cnu ∧ (wrapped d s).trk = s.trk ∧ (wrapped d s).prl = s.prl := by
  unfold wrapped
  split <;> simp

/-- The impression record sent to the head of a print with the number `n` (R105). -/
def recordOf (p : Profile) (x : PrintPart) (n : Nat) : ImpressionRecord :=
  ⟨x.impression.date, x.impression.timeMark, p.office x.impression.office, p.machineNo, n⟩

theorem startPrint_cnu (h : Head) (l : Letter) (x : PrintPart) (s : State) :
    (startPrint h l x s).cnu = { s.cnu with
      waiting := waitingAfter x.impression.date s.cnu
      lastFire := some ⟨x.impression.date, (nextNumber x.impression.date s.cnu).1⟩
      heads := s.cnu.heads.set h { s.cnu.heads.get h with
        state := .printing, printing := some l.id, fireEnd := some (fireEndAt s.prl.profile l x)
        hdata := some (recordOf s.prl.profile x (nextNumber x.impression.date s.cnu).1) } } := by
  obtain ⟨hc, -, hp⟩ := wrapped_frame x.impression.date s
  have he : (startPrint h l x s).cnu = { (wrapped x.impression.date s).cnu with
      waiting := waitingAfter x.impression.date (wrapped x.impression.date s).cnu
      lastFire := some ⟨x.impression.date, (nextNumber x.impression.date s.cnu).1⟩
      heads := (wrapped x.impression.date s).cnu.heads.set h { (wrapped x.impression.date s).cnu.heads.get h with
        state := .printing, printing := some l.id
        fireEnd := some (fireEndAt (wrapped x.impression.date s).prl.profile l x)
        hdata := some (recordOf s.prl.profile x (nextNumber x.impression.date s.cnu).1) } } := rfl
  rw [he, hc, hp]

theorem startPrint_letter {h : Head} {l : Letter} {x : PrintPart} {s : State} (hl : findLetter l.id s = some l) :
    findLetter l.id (startPrint h l x s) = some { l with cancel := l.cancel.map fun c =>
      { c with seq := some (nextNumber x.impression.date s.cnu).1 } } := by
  have hw : findLetter l.id (wrapped x.impression.date s) = some l :=
    (findLetter_of_trk (wrapped_frame x.impression.date s).2.1 l.id).trans hl
  exact findLetter_updated (f := fun l => { l with cancel := l.cancel.map fun c =>
    { c with seq := some (nextNumber x.impression.date s.cnu).1 } }) (fun _ => rfl) hw

theorem startPrint_lki (h : Head) (l : Letter) (x : PrintPart) (s : State) :
    (startPrint h l x s).lki = (wrapped x.impression.date s).lki := rfl

theorem wrapped_wraps {d : Date} {s : State} (h : (nextNumber d s.cnu).2 = true) : wrapped d s = raise .seqWrap s :=
  if_pos h

theorem wrapped_stays {d : Date} {s : State} (h : ¬ (nextNumber d s.cnu).2 = true) : wrapped d s = s := if_neg h

theorem wrapped_onlyEvents (d : Date) (s : State) : OnlyEvents s (wrapped d s) := by
  unfold wrapped
  split <;> rfl

theorem popFront_cnu {h : Head} {s : State} {id : LetterId} {q : List LetterId}
    (hq : (s.cnu.heads.get h).queue = id :: q) : (popFront h s).cnu =
      { s.cnu with heads := s.cnu.heads.set h { s.cnu.heads.get h with queue := q } } := by
  simp [popFront, updateHead, hq]

/-- What a fire start does to the cancel unit, from the state in which the entry is still queued (R102, R104, R105). -/
theorem startPrint_popped_cnu {h : Head} {l : Letter} {x : PrintPart} {s : State} {id : LetterId} {q : List LetterId}
    (hq : (s.cnu.heads.get h).queue = id :: q) : (startPrint h l x (popFront h s)).cnu = { s.cnu with
      waiting := waitingAfter x.impression.date s.cnu
      lastFire := some ⟨x.impression.date, (nextNumber x.impression.date s.cnu).1⟩
      heads := s.cnu.heads.set h { s.cnu.heads.get h with
        queue := q, state := .printing, printing := some l.id, fireEnd := some (fireEndAt s.prl.profile l x)
        hdata := some (recordOf s.prl.profile x (nextNumber x.impression.date s.cnu).1) } } := by
  rw [startPrint_cnu, popFront_cnu hq]
  simp only [PerHead.set_set, PerHead.get_set, if_true]
  rfl

/-! ### A fire end (R106) -/

theorem exec_fireEnd {s : State} (h : Head) (ho : s.inReset = false) :
    exec (.fireEnd h) s = .next (reachFireEnd h s) := live_out ho _

theorem reachFireEnd_idle {h : Head} {s : State} (hp : (s.cnu.heads.get h).state ≠ .printing) :
    reachFireEnd h s = s := if_neg fun hc => hp hc.1

theorem reachFireEnd_before {h : Head} {s : State} {e : Pos} (he : (s.cnu.heads.get h).fireEnd = some e)
    (hr : reached s.trk.belt e = false) : reachFireEnd h s = s :=
  if_neg fun hc => by simp [he, due, hr] at hc

theorem reachFireEnd_ends {h : Head} {s : State} {e : Pos} (hp : (s.cnu.heads.get h).state = .printing)
    (he : (s.cnu.heads.get h).fireEnd = some e) (hr : reached s.trk.belt e = true) :
    reachFireEnd h s = endPrint h s := if_pos ⟨hp, by rw [he]; exact hr⟩

theorem endPrint_trk (h : Head) (s : State) : (endPrint h s).trk = (writePrinting h .printed s).trk := rfl

theorem endPrint_pkm (h : Head) (s : State) : (endPrint h s).pkm = (writePrinting h .printed s).pkm := rfl

theorem endPrint_cnu {h : Head} {s : State} {e : Pos} (he : (s.cnu.heads.get h).fireEnd = some e) :
    (endPrint h s).cnu = { s.cnu with heads := s.cnu.heads.set h { s.cnu.heads.get h with
      state := .recovering, printing := none, fireEnd := none
      recoveryEnd := some (e + BitVec.ofNat 32 s.prl.profile.h)
      recoveringFrom := (s.cnu.heads.get h).printing } } := by
  have hu : endPrint h s = updateHead h (fun u =>
      { u.leavePrint (u.fireEnd.map fun e => beyond e (writePrinting h .printed s).prl.profile.h) with
        state := .recovering }) (writePrinting h .printed s) := rfl
  rw [hu]
  simp [updateHead, HeadUnit.leavePrint, he, beyond]

/-! ### A recovery end (R107, R110) -/

theorem exec_recoveryEnd {s : State} (h : Head) (ho : s.inReset = false) :
    exec (.recoveryEnd h) s = .next (reachRecoveryEnd h s) := live_out ho _

/-- The head is OFF, its recovery over, before its queue is emptied (R107, R110). -/
def wentOff (h : Head) (s : State) : State :=
  updateHead h (fun u => { u.recovered with state := .off, offPending := false }) s

section
variable {h : Head} {s : State} {e : Pos} (he : (s.cnu.heads.get h).recoveryEnd = some e)
include he

theorem reachRecoveryEnd_before (hr : reached s.trk.belt e = false) : reachRecoveryEnd h s = s :=
  if_neg (by rw [he]; exact ne_true_of_eq_false hr)

theorem reachRecoveryEnd_ready (hr : reached s.trk.belt e = true) (hs : (s.cnu.heads.get h).state = .recovering)
    (hp : (s.cnu.heads.get h).offPending = false) : reachRecoveryEnd h s = { s with cnu := { s.cnu with
      heads := s.cnu.heads.set h { s.cnu.heads.get h with
        state := .ready, recoveryEnd := none, recoveringFrom := none } } } := by
  simp [reachRecoveryEnd, he, due, hr, hs, hp, updateHead, HeadUnit.recovered]

theorem reachRecoveryEnd_other (hr : reached s.trk.belt e = true) (hs : (s.cnu.heads.get h).state ≠ .recovering) :
    reachRecoveryEnd h s = { s with cnu := { s.cnu with
      heads := s.cnu.heads.set h { s.cnu.heads.get h with recoveryEnd := none, recoveringFrom := none } } } := by
  simp [reachRecoveryEnd, he, due, hr, hs, updateHead, HeadUnit.recovered]

theorem reachRecoveryEnd_off (hr : reached s.trk.belt e = true) (hs : (s.cnu.heads.get h).state = .recovering)
    (hp : (s.cnu.heads.get h).offPending = true) : reachRecoveryEnd h s =
      refreshHeadDown (emptyQueue h (wentOff h s)) := by
  simp [reachRecoveryEnd, he, due, hr, hs, hp, updateHead, wentOff]

end

/-- Settles O45: a fire start by the READY and the late case, the two ends by what each does to the head. -/
theorem printsRunAndHeadsRecover : Obligations.PrintsRunAndHeadsRecover := by
  unfold Obligations.PrintsRunAndHeadsRecover
  constructor
  · intro s h l c x q ho hq hl hc hx
    have hexec := exec_fireStart ho hq hl hc hx
    refine ⟨fun hr => ?_, fun hr hst => ?_, fun hr hst => ?_⟩
    · rw [hexec, if_neg (by exact ne_true_of_eq_false hr)]
    · rw [if_pos (by exact hr), takeFireStart_ready hst] at hexec
      have hwraps := nextNumber_wraps_iff x.impression.date s.cnu
      have ht := startPrint_popped_cnu (l := l) (x := x) hq
      have hlink := startPrint_lki h l x (popFront h s)
      refine ⟨_, (nextNumber x.impression.date s.cnu).1, hexec, fun w hw hd => ?_, fun hw => ⟨fun f hf hd => ?_,
        fun hf => ?_⟩, fun hwf => ?_, fun hno => ?_, ?_, ?_, ?_, fun g hg => ?_, ?_, ?_, ?_, ?_, fun b hb => ?_⟩
      · rw [nextNumber_waiting hw hd]
      · rw [nextNumber_unawaited hw, afterLast_sameDate hf hd]
        split <;> rfl
      · rw [nextNumber_unawaited hw, afterLast_otherDate hf]
      · refine ⟨?_, ?_⟩
        · rw [nextNumber_unawaited hwf.1, afterLast_sameDate hwf.2 rfl]
          rfl
        · rw [Raised, OnlyEvents, hlink, wrapped_wraps (by exact hwraps.2 hwf)]
          exact ⟨rfl, rfl⟩
      · rw [hlink, wrapped_stays]
        · rfl
        · refine fun hw => ?_
          obtain ⟨hnone, hlast⟩ := hwraps.1 hw
          rcases hno with ⟨w, hw, hd⟩ | hno
          · exact hnone w hw hd
          · exact hno hlast
      · rw [ht]
      · rw [ht]
        rfl
      · rw [ht, PerHead.get_set, if_pos rfl]
        rfl
      · rw [ht, PerHead.get_set, if_neg hg]
      · rw [startPrint_letter (by exact hl), hc]
        rfl
      · have hout : (popFront h s).inReset = false := ho
        simp [firePin, ht, hout]
      · rw [ht]
      · rw [OnlyEvents, hlink]
        exact wrapped_onlyEvents x.impression.date (popFront h s)
      · cases b <;> simp at hb <;> simp [Same, popFront]
    · rw [if_pos (by exact hr), takeFireStart_late hst] at hexec
      refine ⟨_, hexec, ?_, ?_, writeOutcome_tally rfl .., fun b hb => ?_⟩
      · simp [popFront_cnu hq]
      · rw [findLetter_writeOutcome_self (by exact hl), Letter.withOutcome, hc]
        rfl
      · cases b <;> simp at hb <;> simp [Same, popFront]
  · intro s h e ho
    rw [exec_fireEnd h ho, exec_recoveryEnd h ho]
    refine ⟨fun hp => by rw [reachFireEnd_idle hp], fun he hr => by rw [reachFireEnd_before he hr],
      fun id l c hp he hr hid hl hc => ?_, fun he hr => by rw [reachRecoveryEnd_before he hr], fun he hr =>
      ⟨fun hs hp => by rw [reachRecoveryEnd_ready he hr hs hp], fun hs hp => ?_,
        fun hs => by rw [reachRecoveryEnd_other he hr hs]⟩⟩
    · rw [reachFireEnd_ends hp he hr]
      have hw := writePrinting_of hid .printed
      have hcnu := endPrint_cnu he
      refine ⟨_, rfl, ?_, ?_, ?_, ?_, fun b hb => ?_⟩
      · rw [hcnu, hid]
      · rw [findLetter_of_trk (endPrint_trk h s), hw, findLetter_writeOutcome_self hl, Letter.withOutcome, hc]
        rfl
      · rw [tally_of_pkm (endPrint_pkm h s), hw]
        exact writeOutcome_tally rfl ..
      · simp [firePin, hcnu]
      · cases b <;> simp at hb <;> simp [Same]
    · rw [reachRecoveryEnd_off he hr hs hp]
      refine ⟨_, rfl, ?_, fun id hq m k hm hk => ?_⟩
      · simp [emptyQueue_cnu, updateHead, wentOff, HeadUnit.recovered]
      · have hq' : id ∈ ((wentOff h s).cnu.heads.get h).queue := by simpa [wentOff, HeadUnit.recovered] using hq
        exact ((emptyQueue_bears hq').congr (by simp) m k hm hk).1

end Sys2Proof.Machine
end

section
/-! The pocket decision: the class and the pocket chosen, and the print that ends first (R108, R121, R122). -/

namespace Sys2Proof.Machine

/-! ### The destination class (R121) -/

section
variable {l : Letter} {v : Verdict} {turnover : Bool} {cls : PostClass} (hv : l.verdict = some v)
include hv

theorem destClassOf_meter (hk : v.kind = .meter) (hr : l.route = some (.main turnover cls)) :
    destClassOf l = if cls = .lead then .meterLead else .meterTrail := by
  cases cls <;> simp [destClassOf, hv, hk, hr]

theorem destClassOf_printed (hk : v.kind = .stamp) (hr : l.route = some (.main turnover cls))
    (hp : l.cancel.map CancelPart.outcome = some .printed) :
    destClassOf l = if cls = .lead then .facedLead else .facedTrail := by
  cases cls <;> simp [destClassOf, hv, hk, hr, hp]

theorem destClassOf_unprinted (hk : v.kind = .stamp) (hp : l.cancel.map CancelPart.outcome ≠ some .printed) :
    destClassOf l = .uncancelled := by
  cases hc : l.cancel.map CancelPart.outcome with
  | none => simp [destClassOf, hv, hk, hc]
  | some o =>
    cases o with
    | printed => exact absurd hc hp
    | _ => simp [destClassOf, hv, hk, hc]

end

/-! ### The pocket decided (R121, R122) -/

/-- The destination that a MAIN letter is given at its decision point (R121). -/
def destinationOf (l : Letter) (s : State) : Destination :=
  ⟨choosePocket (destClassOf l) s, some (destClassOf l)⟩

theorem decidePocket_destination {l : Letter} {s : State} (h : findLetter l.id s = some l) : decidePocket l s =
    driveOwnedBank (l.sentTo (destinationOf l s)) (updateLetter l.id (Letter.sentTo (destinationOf l s))
      (assignPocket (destinationOf l s).pocket s)) := by
  have hf : findLetter l.id (updateLetter l.id (Letter.sentTo (destinationOf l s))
      (assignPocket (destinationOf l s).pocket s)) = some (l.sentTo (destinationOf l s)) :=
    findLetter_updated (fun _ => rfl) ((findLetter_of_trk (by simp) _).trans h)
  change (match findLetter l.id (updateLetter l.id (Letter.sentTo (destinationOf l s))
    (assignPocket (destinationOf l s).pocket s)) with
      | some l => driveOwnedBank l _
      | none => _) = _
  rw [hf]
  rfl

theorem Letter.sentTo_dest (d : Destination) (l : Letter) : (l.sentTo d).dest = some d := rfl

theorem decidePocket_letter {l : Letter} {s : State} (h : findLetter l.id s = some l) :
    findLetter l.id (decidePocket l s) = some (l.sentTo (destinationOf l s)) := by
  rw [decidePocket_destination h, findLetter_of_letters (driveOwnedBank_letters ..)]
  exact findLetter_updated (fun _ => rfl) ((findLetter_of_trk (by simp) _).trans h)

theorem decidePocket_pockets {l : Letter} {s : State} (h : findLetter l.id s = some l) :
    (decidePocket l s).pkm.pockets = s.pkm.pockets.set (destinationOf l s).pocket
      (givenLetters (destinationOf l s).pocket 1 s.pkm.pockets[(destinationOf l s).pocket]) := by
  rw [decidePocket_destination h, ← assignPocket_pockets]
  simp

/-! ### The print that ends at the decision (R108) -/

/-- The fire end of head `h`'s print of letter `id`, taken where its point has been reached (R108). -/
def takePrintEnd (id : LetterId) (h : Head) (s : State) : State :=
  if (s.cnu.heads.get h).printing = some id then reachFireEnd h s else s

theorem settlePrint_eq (id : LetterId) (s : State) :
    settlePrint id s = takePrintEnd id .lower (takePrintEnd id .upper s) := rfl

theorem settlePrint_none {id : LetterId} {s : State} (h : ∀ g, (s.cnu.heads.get g).printing ≠ some id) :
    settlePrint id s = s := by
  rw [settlePrint_eq, takePrintEnd, takePrintEnd, if_neg (h .upper), if_neg (h .lower)]

theorem endPrint_letter {id : LetterId} {h : Head} {s : State} {m : Letter} (hm : findLetter id s = some m)
    (hp : (s.cnu.heads.get h).printing = some id) :
    findLetter id (endPrint h s) = some (m.withOutcome .printed none) := by
  rw [findLetter_of_trk (endPrint_trk h s), writePrinting_of hp, findLetter_writeOutcome_self hm]

/-- The letter's record is as it was, or PRINTED. -/
theorem takePrintEnd_letter {id : LetterId} {s : State} {m : Letter} (h : Head) (hm : findLetter id s = some m) :
    findLetter id (takePrintEnd id h s) = some m ∨
    findLetter id (takePrintEnd id h s) = some (m.withOutcome .printed none) := by
  unfold takePrintEnd
  split
  · next hp =>
    simp only [reachFireEnd]
    split
    · exact .inr (endPrint_letter hm hp)
    · exact .inl hm
  · exact .inl hm

theorem takePrintEnd_ends {id : LetterId} {h : Head} {s : State} {e : Pos}
    (hp : (s.cnu.heads.get h).printing = some id) (hs : (s.cnu.heads.get h).state = .printing)
    (he : (s.cnu.heads.get h).fireEnd = some e) (hr : reached s.trk.belt e = true) :
    takePrintEnd id h s = endPrint h s := by
  rw [takePrintEnd, if_pos hp, reachFireEnd_ends hs he hr]

/-- What the end of the print leaves: the belt, the pockets and the other head. -/
theorem takePrintEnd_kept (id : LetterId) (h : Head) (s : State) :
    (takePrintEnd id h s).trk.belt = s.trk.belt ∧ (takePrintEnd id h s).pkm.pockets = s.pkm.pockets ∧
    ∀ g, g ≠ h → (takePrintEnd id h s).cnu.heads.get g = s.cnu.heads.get g := by
  have hend : (endPrint h s).trk.belt = s.trk.belt ∧ (endPrint h s).pkm.pockets = s.pkm.pockets ∧
      ∀ g, g ≠ h → (endPrint h s).cnu.heads.get g = s.cnu.heads.get g := by
    refine ⟨by simp [endPrint_trk], by simp [endPrint_pkm], fun g hg => ?_⟩
    change ((updateHead h _ (writePrinting h .printed s)).cnu.heads.get g) = _
    rw [updateHead_get, if_neg hg]
    simp
  simp only [takePrintEnd, reachFireEnd]
  split
  · split
    · exact hend
    · exact ⟨rfl, rfl, fun _ _ => rfl⟩
  · exact ⟨rfl, rfl, fun _ _ => rfl⟩

/-- A print whose end is reached is PRINTED before the decision, whichever head makes it. -/
theorem settlePrint_letter {id : LetterId} {h : Head} {s : State} {l : Letter} {e : Pos}
    (hl : findLetter id s = some l) (hp : (s.cnu.heads.get h).printing = some id)
    (hs : (s.cnu.heads.get h).state = .printing) (he : (s.cnu.heads.get h).fireEnd = some e)
    (hr : reached s.trk.belt e = true) :
    findLetter id (settlePrint id s) = some (l.withOutcome .printed none) := by
  have htwice : (l.withOutcome .printed none).withOutcome .printed none = l.withOutcome .printed none := by
    cases hc : l.cancel <;> simp [Letter.withOutcome, hc]
  rw [settlePrint_eq]
  cases h with
  | upper =>
    have hu := endPrint_letter hl hp
    rw [← takePrintEnd_ends hp hs he hr] at hu
    simpa [htwice] using takePrintEnd_letter .lower hu
  | lower =>
    obtain ⟨hbelt, -, hother⟩ := takePrintEnd_kept id .upper s
    have hlower := hother .lower (by decide)
    rw [← hlower] at hp hs he
    rw [takePrintEnd_ends hp hs he (by rwa [hbelt])]
    rcases takePrintEnd_letter .upper hl with hu | hu
    · exact endPrint_letter hu hp
    · rw [endPrint_letter hu hp, htwice]

theorem settlePrint_pockets (id : LetterId) (s : State) : (settlePrint id s).pkm.pockets = s.pkm.pockets := by
  rw [settlePrint_eq, (takePrintEnd_kept id .lower _).2.1, (takePrintEnd_kept id .upper s).2.1]

/-! ### The decision point (R121) -/

theorem exec_pocketDecisionPoint_before {s : State} {id : LetterId} {l : Letter} {q : Pos} (ho : s.inReset = false)
    (hl : findLetter id s = some l) (hq : l.pdecPoint = some q) (hr : reached s.trk.belt q = false) :
    exec (.pocketDecisionPoint id) s = .next s := by
  change live (reachDecision id) s = _
  rw [live_out ho]
  simp [reachDecision, hl, hq, due, hr]

/-- Settles O51: the decision is that of the letter as it stands once a print that ends there has been taken. -/
theorem pocketDecided : Obligations.PocketDecided := by
  unfold Obligations.PocketDecided
  intro s id l q ho hl hq
  have hid := findLetter_id hl
  subst hid
  refine ⟨exec_pocketDecisionPoint_before ho hl hq, fun hr hp => ?_,
    fun h e v cls turnover hr hp hs he hre hv hk hroute hc => ?_⟩
  · have hdue : due s.trk.belt l.pdecPoint = true := by rw [hq]; exact hr
    have hs := settlePrint_none hp
    have he := exec_pocketDecisionPoint ho hl hdue (by rw [hs]; exact hl)
    rw [hs] at he
    refine ⟨_, _, (destinationOf l s).pocket, destClassOf l, he, decidePocket_letter hl, rfl, rfl,
      fun v cls turnover hv hroute => ⟨fun hk => destClassOf_meter hv hk hroute,
        fun hk => destClassOf_printed hv hk hroute, fun hk => destClassOf_unprinted hv hk⟩,
      rfl, decidePocket_pockets hl, (lineView_line (decidePocket_lineView l s)).1, fun b hb => ?_⟩
    cases b <;> simp at hb <;> simp [Same]
  · have hdue : due s.trk.belt l.pdecPoint = true := by rw [hq]; exact hr
    have hm := settlePrint_letter hl hp hs he hre
    have he := exec_pocketDecisionPoint ho hl hdue hm
    obtain ⟨c, hc⟩ := Option.isSome_iff_exists.1 hc
    have hprinted : (l.withOutcome .printed none).cancel.map CancelPart.outcome = some .printed := by
      simp [Letter.withOutcome, hc]
    have hclass := destClassOf_printed (l := l.withOutcome .printed none) hv hk hroute hprinted
    have hpockets := settlePrint_pockets l.id s
    generalize settlePrint l.id s = u at hm he hpockets
    generalize hm' : l.withOutcome .printed none = m at hm he hprinted hclass
    have hmid : m.id = l.id := by rw [← hm']; rfl
    rw [← hmid] at hm
    refine ⟨_, m.sentTo (destinationOf m u), (destinationOf m u).pocket, he, hmid ▸ decidePocket_letter hm, hprinted,
      ?_, rfl, ?_⟩
    · rw [Letter.sentTo_dest, destinationOf, hclass]
    · rw [decidePocket_pockets hm, hpockets]

end Sys2Proof.Machine
end

section
/-! The postmark settings and the sequence state (R93): the operations of the cancel unit and of every block that runs them
leave these as they are, but for a fire start and SET_POSTMARK. -/

namespace Sys2Proof.Machine

/-! ### The settings under a head's own operations -/

/-- The cancel unit but for its heads: the postmark settings and the sequence state (R93). -/
def CancelUnit.settings (c : CancelUnit) : Option Date × Nat × Nat × Option StartNumber × Option LastFire :=
  (c.date, c.timeMark, c.office, c.waiting, c.lastFire)

@[simp] theorem updateHead_settings (h : Head) (f : HeadUnit → HeadUnit) (s : State) :
    (updateHead h f s).cnu.settings = s.cnu.settings := rfl

@[simp] theorem schedulePrint_settings (l : Letter) (o : Orientation) (run : ChosenRun) (s : State) :
    (schedulePrint l o run s).cnu.settings = s.cnu.settings := by
  simp only [schedulePrint]; (repeat' split) <;> simp

@[simp] theorem endPrint_settings (h : Head) (s : State) : (endPrint h s).cnu.settings = s.cnu.settings := by
  simp only [endPrint]; (repeat' split) <;> simp

@[simp] theorem reachFireEnd_settings (h : Head) (s : State) : (reachFireEnd h s).cnu.settings = s.cnu.settings := by
  simp only [reachFireEnd]; (repeat' split) <;> simp

@[simp] theorem emptyQueue_settings (h : Head) (s : State) : (emptyQueue h s).cnu.settings = s.cnu.settings := by
  simp only [emptyQueue]; exact (foldl_keeps _ (fun s => s.cnu.settings) _ (by intros; simp) _).trans (by simp)

@[simp] theorem faultHead_settings (h : Head) (s : State) : (faultHead h s).cnu.settings = s.cnu.settings := by
  simp only [faultHead]; (repeat' split) <;> simp

@[simp] theorem reachRecoveryEnd_settings (h : Head) (s : State) :
    (reachRecoveryEnd h s).cnu.settings = s.cnu.settings := by
  simp only [reachRecoveryEnd]; (repeat' split) <;> simp

@[simp] theorem abortPrints_settings (s : State) : (abortPrints s).cnu.settings = s.cnu.settings := by
  unfold abortPrints; simp

@[simp] theorem settleHeads_settings (s : State) : (settleHeads s).cnu.settings = s.cnu.settings := by
  unfold settleHeads; simp

@[simp] theorem movePrint_settings (id : LetterId) (d : Int) (s : State) :
    (movePrint id d s).cnu.settings = s.cnu.settings := by
  simp only [movePrint]; simp

/-! ### The settings under the other blocks' operations -/

@[simp] theorem handToCancel_settings (l : Letter) (v : Verdict) (s : State) :
    (handToCancel l v s).cnu.settings = s.cnu.settings := by
  simp only [handToCancel]; (repeat' split) <;> simp

@[simp] theorem writeVerdict_settings (l : Letter) (v : Verdict) (s : State) :
    (writeVerdict l v s).cnu.settings = s.cnu.settings := by
  simp only [writeVerdict]; (repeat' split) <;> simp

@[simp] theorem judgeLetter_settings (l : Letter) (s : State) : (judgeLetter l s).cnu.settings = s.cnu.settings := by
  simp only [judgeLetter]; simp

@[simp] theorem evaluate_settings (id : LetterId) (s : State) : (evaluate id s).cnu.settings = s.cnu.settings := by
  simp only [evaluate]; (repeat' split) <;> simp

@[simp] theorem endHold_settings (close : Bool) (s : State) : (endHold close s).cnu.settings = s.cnu.settings := by
  simp only [endHold]; (repeat' split) <;> simp

@[simp] theorem reachPairPoint_settings (s : State) : (reachPairPoint s).cnu.settings = s.cnu.settings := by
  simp only [reachPairPoint]; (repeat' split) <;> simp

@[simp] theorem reachVerdictLimit_settings (s : State) : (reachVerdictLimit s).cnu.settings = s.cnu.settings := by
  simp only [reachVerdictLimit]; (repeat' split) <;> simp

@[simp] theorem completeScan_settings (id : LetterId) (s : State) :
    (completeScan id s).cnu.settings = s.cnu.settings := by
  simp only [completeScan]; (repeat' split) <;> simp

@[simp] theorem settleFaulted_settings (s : State) : (settleFaulted s).cnu.settings = s.cnu.settings := by
  unfold settleFaulted; simp

@[simp] theorem enterFaulted_settings (cause : LineCause) (s : State) :
    (enterFaulted cause s).cnu.settings = s.cnu.settings := by
  simp only [enterFaulted]; (repeat' split) <;> simp

@[simp] theorem jam_settings (kind : JamKind) (eye : Eye) (letter : Option LetterId) (s : State) :
    (jam kind eye letter s).cnu.settings = s.cnu.settings := by
  simp only [jam]; simp

@[simp] theorem startTimeout_settings (s : State) : (startTimeout s).cnu.settings = s.cnu.settings := by
  simp only [startTimeout]; (repeat' split) <;> simp

@[simp] theorem drainTimeout_settings (s : State) : (drainTimeout s).cnu.settings = s.cnu.settings := by
  simp only [drainTimeout]; (repeat' split) <;> simp

@[simp] theorem stopFail_settings (s : State) : (stopFail s).cnu.settings = s.cnu.settings := by
  simp only [stopFail]; (repeat' split) <;> simp

@[simp] theorem beltStill_settings (s : State) : (beltStill s).cnu.settings = s.cnu.settings := by
  simp only [beltStill]; (repeat' split) <;> simp

@[simp] theorem superviseSpeed_settings (s : State) : (superviseSpeed s).cnu.settings = s.cnu.settings := by
  simp only [superviseSpeed]; (repeat' split) <;> simp

@[simp] theorem endWindow_settings (s : State) : (endWindow s).cnu.settings = s.cnu.settings := by
  simp only [endWindow]; simp

@[simp] theorem makeFlash_settings (pos : Pos) (s : State) : (makeFlash pos s).cnu.settings = s.cnu.settings := by
  simp only [makeFlash, beginStep_frame]; exact (foldl_keeps _ (fun s => s.cnu.settings) _ (by intros; simp) _).trans (by simp)

@[simp] theorem induct_settings (s : State) : (induct s).cnu.settings = s.cnu.settings := by
  simp only [induct]; simp

@[simp] theorem e0LeadingEdge_settings (s : State) : (e0LeadingEdge s).cnu.settings = s.cnu.settings := by
  simp only [e0LeadingEdge]; (repeat' split) <;> simp

@[simp] theorem markLong_settings (id : LetterId) (s : State) : (markLong id s).cnu.settings = s.cnu.settings := by
  simp only [markLong]; simp

@[simp] theorem reachLongPoint_settings (s : State) : (reachLongPoint s).cnu.settings = s.cnu.settings := by
  simp only [reachLongPoint]; (repeat' split) <;> simp

@[simp] theorem completeIfPassed_settings (id : LetterId) (s : State) :
    (completeIfPassed id s).cnu.settings = s.cnu.settings := by
  simp only [completeIfPassed]; (repeat' split) <;> simp

@[simp] theorem measureLetter_settings (l : Letter) (s : State) :
    (measureLetter l s).cnu.settings = s.cnu.settings := by
  simp only [measureLetter]; (repeat' split) <;> simp

@[simp] theorem e0TrailingEdge_settings (s : State) : (e0TrailingEdge s).cnu.settings = s.cnu.settings := by
  simp only [e0TrailingEdge]; (repeat' split) <;> simp

@[simp] theorem reachBlockedPoint_settings (s : State) : (reachBlockedPoint s).cnu.settings = s.cnu.settings := by
  simp only [reachBlockedPoint]; (repeat' split) <;> simp

@[simp] theorem resynchronise_settings (l : Letter) (s : State) :
    (resynchronise l s).cnu.settings = s.cnu.settings := by
  simp only [resynchronise]; simp

@[simp] theorem arrive_settings (l : Letter) (e : Eye) (s : State) :
    (arrive l e s).cnu.settings = s.cnu.settings := by
  simp only [arrive]; (repeat' split) <;> simp

@[simp] theorem expire_settings (l : Letter) (e : Eye) (s : State) :
    (expire l e s).cnu.settings = s.cnu.settings := by
  simp only [expire]; (repeat' split) <;> simp

@[simp] theorem reachExpiry_settings (id : LetterId) (e : Eye) (s : State) :
    (reachExpiry id e s).cnu.settings = s.cnu.settings := by
  simp only [reachExpiry]; (repeat' split) <;> simp

@[simp] theorem expireWaiting_settings (n : Nat) (e : Eye) (s : State) :
    (expireWaiting n e s).cnu.settings = s.cnu.settings := by
  induction n generalizing s with
  | zero => simp [expireWaiting]
  | succ n ih => unfold expireWaiting; (repeat' split) <;> simp [ih]

@[simp] theorem eyeLeadingEdge_settings (e : Eye) (s : State) :
    (eyeLeadingEdge e s).cnu.settings = s.cnu.settings := by
  simp only [eyeLeadingEdge]; (repeat' split) <;> simp

@[simp] theorem settlePrint_settings (id : LetterId) (s : State) :
    (settlePrint id s).cnu.settings = s.cnu.settings := by
  simp only [settlePrint]; (repeat' split) <;> simp

@[simp] theorem reachDecision_settings (id : LetterId) (s : State) :
    (reachDecision id s).cnu.settings = s.cnu.settings := by
  simp only [reachDecision]; (repeat' split) <;> simp

@[simp] theorem takeFlash_settings (s : State) : (takeFlash s).cnu.settings = s.cnu.settings := by
  simp only [takeFlash]; (repeat' split) <;> simp

@[simp] theorem endLoading_settings (p : Profile) (r : LoadResult) (s : State) :
    (endLoading p r s).cnu.settings = s.cnu.settings := by
  simp only [endLoading]; (repeat' split) <;> simp

@[simp] theorem endLoad_settings (image : List Byte) (s : State) :
    (endLoad image s).cnu.settings = s.cnu.settings := by
  simp only [endLoad]; (repeat' split) <;> simp

@[simp] theorem loadNoResponse_settings (s : State) : (loadNoResponse s).cnu.settings = s.cnu.settings := by
  simp only [loadNoResponse]; (repeat' split) <;> simp

end Sys2Proof.Machine
end

section
/-! Every command keeps the postmark settings and the sequence state in order, and the date never goes back (R93, R94, R95,
R104). -/

namespace Sys2Proof.Machine

/-! ### What keeps the settings in order -/

/-- The order of the settings and of the sequence state carries over, and a date that is present stays and does not go
back (R93, R94). -/
structure SettingsKept (s t : State) : Prop where
  order : PostmarkInOrder s → PostmarkInOrder t
  date : ∀ d, s.cnu.date = some d → ∃ e, t.cnu.date = some e ∧ e.before d = false

theorem settings_inj {c c' : CancelUnit} (h : c'.settings = c.settings) : c'.date = c.date ∧
    c'.timeMark = c.timeMark ∧ c'.office = c.office ∧ c'.waiting = c.waiting ∧ c'.lastFire = c.lastFire := by
  simpa [CancelUnit.settings] using h

theorem Date.before_self (d : Date) : d.before d = false := by simp [Date.before]

theorem SettingsKept.of_settings {s t : State} (h : t.cnu.settings = s.cnu.settings) : SettingsKept s t := by
  obtain ⟨hd, ht, ho, hw, hf⟩ := settings_inj h
  refine ⟨fun i => ⟨?_, ?_, ?_, ?_, ?_⟩, fun d hs => ⟨d, hd.trans hs, d.before_self⟩⟩
  · rw [hd]; exact i.date
  · rw [ht]; exact i.timeMark
  · rw [ho]; exact i.office
  · rw [hw]; exact i.waiting
  · rw [hf]; exact i.lastFire

theorem SettingsKept.of_cnu {s t : State} (h : t.cnu = s.cnu) : SettingsKept s t := .of_settings (by rw [h])

theorem SettingsKept.refl (s : State) : SettingsKept s s := .of_cnu rfl

theorem SettingsKept.trans {s t u : State} (h : SettingsKept s t) (h' : SettingsKept t u) : SettingsKept s u := by
  refine ⟨h'.order ∘ h.order, fun d hd => ?_⟩
  obtain ⟨e, he, hde⟩ := h.date d hd
  obtain ⟨e', he', hee⟩ := h'.date e he
  refine ⟨e', he', ?_⟩
  simp only [Date.before, decide_eq_false_iff_not] at hde hee ⊢
  omega

/-! ### A fire start (R104) -/

/-- The number of a fire start lies in its range (R104). -/
theorem nextNumber_range (d : Date) {c : CancelUnit} (hw : ∀ w, c.waiting = some w → 1 ≤ w.num ∧ w.num ≤ 9999999)
    (hf : ∀ f, c.lastFire = some f → 1 ≤ f.seq ∧ f.seq ≤ 9999999) :
    1 ≤ (nextNumber d c).1 ∧ (nextNumber d c).1 ≤ 9999999 := by
  by_cases hn : ∀ w, c.waiting = some w → w.date ≠ d
  · rw [nextNumber_unawaited hn]
    by_cases hl : ∀ f, c.lastFire = some f → f.date ≠ d
    · rw [afterLast_otherDate hl]
      decide
    · push Not at hl
      obtain ⟨f, hl, hd⟩ := hl
      rw [afterLast_sameDate hl hd]
      have := hf f hl
      split <;> dsimp only <;> omega
  · push Not at hn
    obtain ⟨w, hn, hd⟩ := hn
    rw [nextNumber_waiting hn hd]
    exact hw w hn

theorem waitingAfter_of {d : Date} {c : CancelUnit} {w : StartNumber} (h : waitingAfter d c = some w) :
    c.waiting = some w := by
  obtain ⟨w', hw, hif⟩ := Option.bind_eq_some_iff.1 h
  split at hif
  · cases hif
  · rw [hw, hif]

theorem startPrint_kept (h : Head) (l : Letter) (x : PrintPart) (s : State) : SettingsKept s (startPrint h l x s) := by
  have hc := startPrint_cnu h l x s
  refine ⟨fun i => ⟨?_, ?_, ?_, fun w hw => ?_, fun f hf => ?_⟩, fun d hd => ⟨d, ?_, d.before_self⟩⟩
  · rw [hc]; exact i.date
  · rw [hc]; exact i.timeMark
  · rw [hc]; exact i.office
  · rw [hc] at hw
    exact i.waiting w (waitingAfter_of hw)
  · rw [hc] at hf
    obtain rfl := Option.some.inj hf
    exact nextNumber_range _ i.waiting i.lastFire
  · rw [hc]; exact hd

theorem reachFireStart_kept (h : Head) (s : State) : SettingsKept s (reachFireStart h s) := by
  have hpop : SettingsKept s (popFront h s) := .of_settings (updateHead_settings ..)
  unfold reachFireStart
  split
  · next l x _ =>
    split
    · simp only [takeFireStart]
      split
      · exact hpop.trans (startPrint_kept h l x (popFront h s))
      · exact hpop.trans (.of_cnu (by simp [popFront]))
      · exact hpop.trans (.of_cnu (by simp [popFront]))
      · exact hpop
      · exact hpop
    · exact .refl s
  · exact .refl s

/-! ### SET_POSTMARK (R94, R95) -/

theorem ownSetPostmark_kept (r : Request) (s : State) : SettingsKept s (ownSetPostmark r s).1 := by
  rw [ownSetPostmark_eq]
  split
  · exact .refl s
  · next hr =>
    rw [clampedStart, postmarkRefused_iff] at hr
    push Not at hr
    obtain ⟨hreal, hdate, hoffice, -, -⟩ := hr
    refine ⟨fun i => ⟨fun d hd => ?_, ?_, ?_, fun w hw => ?_, i.lastFire⟩, fun d hd => ⟨_, rfl, ?_⟩⟩
    · obtain rfl := Option.some.inj hd
      simpa using hreal
    · exact Nat.min_le_right ..
    · exact Nat.le_of_lt_succ hoffice
    · have hw : (match clampedStart r with
        | some v => some (⟨v, postmarkDate r.payload⟩ : StartNumber)
        | none => s.cnu.waiting) = some w := hw
      cases hn : startNumberOf r.payload with
      | none =>
        rw [clampedStart, hn] at hw
        exact i.waiting w hw
      | some v =>
        rw [clampedStart, hn] at hw
        obtain rfl := Option.some.inj hw
        change 1 ≤ max 1 (min 9999999 v) ∧ max 1 (min 9999999 v) ≤ 9999999
        omega
    · simpa using hdate d hd

/-! ### Resets (R93, R199) -/

/-- After a pin reset no date, start number or sequence number is present (R93). -/
theorem pinReset_postmarkInOrder (inputs : Inputs) (straps : Straps) (pending : List Instr) :
    PostmarkInOrder (.pinReset inputs straps pending) where
  date := nofun
  timeMark := Nat.zero_le _
  office := Nat.zero_le _
  waiting := nofun
  lastFire := nofun

/-! ### Every command -/

theorem live_settings {f : State → State} {s t : State} (h : live f s = .next t) (hf : SettingsKept s (f s)) :
    SettingsKept s t := live_cases (P := SettingsKept s) h (.refl s) hf

theorem onPin_settings {level : Inputs → Inputs} {event : State → State} {s t : State} (h : onPin level event s = .next t)
    (hf : ∀ u, (event u).cnu.settings = u.cnu.settings) : SettingsKept s t :=
  onPin_cases (P := SettingsKept s) h (.of_cnu rfl) (.of_settings (hf { s with inputs := level s.inputs }))

theorem dispatch_settings {k : ReqKind} {o : Owner} (ho : ∀ r s, SettingsKept s (o r s).1) (s : State) :
    SettingsKept s (dispatch k o s) := by
  refine dispatch_cases (P := SettingsKept s) k o s (.refl s) (fun r rest e _ _ _ => ?_) fun r rest _ _ _ _ => ?_
  · exact .of_cnu (by simp [taken])
  · have htaken : SettingsKept s (taken rest s) := .of_cnu rfl
    exact (htaken.trans (ho r _)).trans (.of_cnu (by simp))

theorem request_settings {k : ReqKind} {o : Owner} {s t : State} (h : live (dispatch k o) s = .next t)
    (ho : ∀ r s, SettingsKept s (o r s).1) : SettingsKept s t := live_settings h (dispatch_settings ho s)

theorem Owner.Reads.settings {o : Owner} (h : o.Reads) (r : Request) (s : State) : SettingsKept s (o r s).1 := by
  rw [h r s]
  exact .refl s

/-- Every command but the pin reset keeps the settings in order, and the date. -/
theorem exec_settings {c : Instr} {s t : State} (h : exec c s = .next t) (hc : ∀ straps, c ≠ .resetNRelease straps) :
    SettingsKept s t := by
  cases c with
  | resetNAssert =>
    cases h
    exact .of_cnu rfl
  | resetNRelease straps => exact absurd rfl (hc straps)
  | fireStart head => exact live_settings h (reachFireStart_kept head s)
  | setPostmark => exact request_settings h ownSetPostmark_kept
  | e0LeEdge =>
    simp only [exec, execE0LeEdge] at h
    split at h
    · cases h
      exact .refl _
    · exact onPin_settings h e0LeadingEdge_settings
  | e0TeEdge =>
    simp only [exec, execE0TeEdge] at h
    split at h
    · exact onPin_settings h e0TrailingEdge_settings
    · cases h
      exact .refl _
  | eyeLeEdge edge =>
    simp only [exec, execEyeLeEdge] at h
    split at h
    · cases h
    · split at h
      · cases h
        exact .refl _
      · exact onPin_settings h fun u => by split <;> simp
  | estop active =>
    unfold exec execEstop at h
    exact onPin_settings h fun u => by split <;> simp
  | feedloadActive =>
    unfold exec execFeedloadActive at h
    exact onPin_settings h fun u => by simp
  | feedloadInactive =>
    unfold exec execFeedloadInactive at h
    exact onPin_settings h fun u => by simp
  | headFault hd a =>
    unfold exec execHeadFault at h
    exact onPin_settings h fun u => by split <;> simp
  | trayRemoved k =>
    unfold exec execTrayRemoved at h
    exact onPin_settings h fun u => by simp only [afterLoading]; (repeat' split) <;> simp
  | trayInserted k =>
    unfold exec execTrayInserted at h
    exact onPin_settings h fun u => by simp only [afterLoading]; (repeat' split) <;> simp
  | sweepButtonChange k a =>
    unfold exec execSweepButtonChange at h
    exact onPin_settings h fun u => by simp only [afterLoading]; (repeat' split) <;> simp
  | softReset => exact live_settings h (.of_settings (by unfold actReset; split <;> rfl))
  | reset =>
    unfold exec execReset at h
    have hd := dispatch_settings (k := .reset)
      (fun r s => ownReset_cases (P := SettingsKept s) r (.refl s) (.of_cnu rfl)) s
    exact live_settings h (hd.trans (.of_cnu (by simp)))
  | identify => exact request_settings h ownIdentify_reads.settings
  | getStatus => exact request_settings h ownGetStatus_reads.settings
  | getPostmark => exact request_settings h ownGetPostmark_reads.settings
  | readChannels => exact request_settings h ownReadChannels_reads.settings
  | readCapture => exact request_settings h ownReadCapture_reads.settings
  | readPockets => exact request_settings h ownReadPockets_reads.settings
  | readTallies => exact request_settings h ownReadTallies_reads.settings
  | getField => exact request_settings h ownGetField_reads.settings
  | poll => exact request_settings h fun r s => .of_cnu rfl
  | start => exact request_settings h fun r s => ownStart_cases r (.refl s) fun _ => .of_cnu (by simp)
  | stop => exact request_settings h fun r s => ownStop_cases r (.refl s) fun _ => .of_cnu (by simp)
  | standby => exact request_settings h fun r s => ownStandby_cases r (.refl s) fun _ => .of_cnu (by simp)
  | clearFault => exact request_settings h fun r s => ownClearFault_cases r (.refl s) fun _ => .of_cnu (by simp)
  | holdFeed => exact request_settings h fun _ s => .of_cnu (by simp [setOperator])
  | releaseFeed => exact request_settings h fun _ s => .of_cnu (by simp [setOperator])
  | headReset => exact request_settings h fun r s => ownHeadReset_cases r (.refl s) fun _ _ => .of_settings (by simp)
  | headDisable =>
    exact request_settings h fun r s => ownHeadDisable_cases r (.refl s) (fun _ => .of_settings (by simp)) fun _ =>
      .of_settings (by simp)
  | headEnable =>
    exact request_settings h fun r s => ownHeadEnable_cases r (.refl s) (fun _ => .of_settings (by simp)) fun _ =>
      .of_settings (by simp)
  | calibrate => exact request_settings h fun r s => ownCalibrate_cases r (.refl s) fun _ => .of_cnu rfl
  | armCapture => exact request_settings h fun r s => ownArmCapture_cases r (.refl s) fun _ _ => .of_cnu rfl
  | setCounterSource =>
    exact request_settings h fun r s => ownSetCounterSource_cases r (.refl s) fun _ _ => .of_cnu (by simp)
  | channelReset => exact request_settings h fun r s => ownChannelReset_cases r (.refl s) fun _ _ => .of_cnu (by simp)
  | sweep => exact request_settings h fun r s => ownSweep_cases r (.refl s) fun _ _ => .of_cnu (by simp)
  | pocketOut => exact request_settings h fun r s => ownPocketOut_cases r (.refl s) fun _ _ => .of_cnu rfl
  | pocketIn => exact request_settings h fun r s => ownPocketIn_cases r (.refl s) fun _ => .of_cnu (by simp)
  | takeTray => exact request_settings h fun r s => ownTakeTray_cases r (.refl s) fun _ _ _ => .of_cnu rfl
  | clearShift => exact request_settings h fun r s => ownClearShift_cases r (.refl s) (.of_cnu rfl)
  | setField => exact request_settings h fun r s => ownSetField_cases r (.refl s) fun _ _ _ => .of_cnu (by simp)
  | writeProfile => exact request_settings h fun r s => ownWriteProfile_cases r (.refl s) (.of_cnu rfl)
  | setEventMask => exact request_settings h fun r s => ownSetEventMask_cases r (.refl s) fun _ => .of_cnu rfl
  | clearEvents => exact request_settings h fun r s => ownClearEvents_cases r (.refl s) fun _ => .of_cnu rfl
  | setReportMode => exact request_settings h fun r s => ownSetReportMode_cases r (.refl s) fun _ => .of_cnu rfl
  | _ => exact live_settings h (.of_settings (by simp))

theorem exec_postmarkInOrder {c : Instr} {s t : State} (h : exec c s = .next t) (i : PostmarkInOrder s) :
    PostmarkInOrder t := by
  by_cases hc : ∃ straps, c = .resetNRelease straps
  · obtain ⟨straps, rfl⟩ := hc
    simp only [exec, execResetNRelease] at h
    split at h <;> cases h
    · exact pinReset_postmarkInOrder ..
    · exact i
  · exact (exec_settings h fun straps e => hc ⟨straps, e⟩).order i

/-- Settles O59: every command's walk, with the settings in order after a pin reset by themselves. -/
theorem postmarkInvariant : Obligations.PostmarkInvariant := by
  unfold Obligations.PostmarkInvariant
  refine ⟨fun s t i h => ?_, fun c s t d hd h hc => (exec_settings h hc).date d hd⟩
  unfold step at h
  split at h
  · cases h
    exact (SettingsKept.of_cnu (s := s) (t := endSending s) rfl).order i
  · next c rest _ =>
    have hrest : SettingsKept s (s.withPending rest) := .of_cnu rfl
    exact exec_postmarkInOrder h (hrest.order i)

end Sys2Proof.Machine
end

section
/-! A field of the profile read back after it is set (9.3, R194), and the field a limit sets (R140). -/

namespace Sys2Proof.Machine

/-! ### A field read back -/

theorem Profile.num_setNum_limit {n : Nat} {k : PocketNo} (h : limitPocket n = some k) (p : Profile) (v : Nat) :
    (p.setNum n v).num n = v := by
  unfold limitPocket at h
  split at h
  · next hn =>
    obtain ⟨h49, h58⟩ := hn
    interval_cases n <;> exact Vector.getElem_set_self ..
  · cases h

theorem Profile.num_setNum {n lo hi : Nat} (h : fieldShape n = some (.num lo hi)) (p : Profile) (v : Nat) :
    (p.setNum n v).num n = v := by
  cases hk : limitPocket n with
  | some k => exact p.num_setNum_limit hk v
  | none =>
    have hn := limitPocket_none hk
    unfold fieldShape at h
    split at h
    all_goals cases h
    all_goals simp at hn
    all_goals rfl

theorem Profile.code_setCode {n codes c : Nat} (h : fieldShape n = some (.code codes)) (hc : c < codes) (p : Profile) :
    (p.setCode n c).code n = c := by
  unfold fieldShape at h
  split at h
  all_goals cases h
  all_goals interval_cases c <;> rfl

theorem PerClass.get_set {α : Type} (t : PerClass α) (c : DestClass) (x : α) : (t.set c x).get c = x := by
  cases c <;> rfl

theorem Profile.field_setField_num {n lo hi : Nat} (h : fieldShape n = some (.num lo hi)) (p : Profile) (x : Nat) :
    (p.setField n (.num x)).field n = some (.num x) := by
  simp [Profile.field, Profile.setField, h, Profile.num_setNum h]

/-- A value decoded from the link is the one read back from its field (R194, R195). -/
theorem Profile.field_setField {n : Nat} {sh : FieldShape} {bs : List Byte} {v : FieldValue} {clamped : Bool}
    (h : fieldShape n = some sh) (hv : sh.ofLink bs = some (v, clamped)) (p : Profile) :
    (p.setField n v).field n = some v := by
  cases sh with
  | num lo hi =>
    simp only [FieldShape.ofLink, Option.some.injEq, Prod.mk.injEq] at hv
    obtain ⟨rfl, -⟩ := hv
    exact p.field_setField_num h _
  | code codes =>
    simp only [FieldShape.ofLink, Option.ite_none_right_eq_some, Option.some.injEq, Prod.mk.injEq] at hv
    obtain ⟨hlt, rfl, -⟩ := hv
    simp [Profile.field, Profile.setField, h, Profile.code_setCode h hlt]
  | text i =>
    simp only [FieldShape.ofLink, Option.ite_none_right_eq_some, Option.some.injEq, Prod.mk.injEq] at hv
    obtain ⟨-, rfl, -⟩ := hv
    simp [Profile.field, Profile.setField, h]
  | pockets c =>
    simp only [FieldShape.ofLink, Option.map_eq_some_iff, Prod.mk.injEq] at hv
    obtain ⟨ks, -, rfl, -⟩ := hv
    simp [Profile.field, Profile.setField, h, PerClass.get_set]
  | mask =>
    simp only [FieldShape.ofLink, Option.map_eq_some_iff, Prod.mk.injEq] at hv
    obtain ⟨m, -, rfl, -⟩ := hv
    simp [Profile.field, Profile.setField, h]

/-- The fields of the reply, where the field holds the value (R175). -/
theorem fieldReply_eq {n : Byte} {p : Profile} {v : FieldValue} (h : p.field n.toNat = some v) :
    fieldReply n.toNat p = n :: v.linkBytes := by
  simp [fieldReply, h, u8]

/-! ### The fields that set a limit (F49 to F58) -/

theorem limitPocket_shape {n : Nat} {k : PocketNo} (h : limitPocket n = some k) :
    ∃ lo hi, fieldShape n = some (.num lo hi) := by
  unfold limitPocket at h
  split at h
  · next hn =>
    obtain ⟨h49, h58⟩ := hn
    interval_cases n <;> exact ⟨_, _, rfl⟩
  · cases h

theorem Profile.setField_limit {n : Nat} {k : PocketNo} (h : limitPocket n = some k) (p : Profile) (x : Nat) :
    p.setField n (.num x) = { p with limits := p.limits.set k x } := by
  unfold limitPocket at h
  split at h
  · next hn =>
    obtain ⟨h49, h58⟩ := hn
    obtain rfl := Option.some.inj h
    interval_cases n <;> rfl
  · cases h

end Sys2Proof.Machine
end

section
/-! What a new limit does to its pocket: a tray closed, drained or FULL (R124, R130, R140), CATCH_FULL tested (R127), and
the classes of trays without a letter (R139). -/

namespace Sys2Proof.Machine

/-! ### CATCH_FULL tested (R127) -/

theorem refreshCatchFull_lnc (s : State) : (refreshCatchFull s).lnc =
    { s.lnc with hold := { s.lnc.hold with catchFull := atLimit 0 s || atLimit 9 s } } := setHold_lnc _ s

theorem atLimit_congr {s t : State} (hp : t.pkm = s.pkm) (hl : t.prl = s.prl) (k : PocketNo) :
    atLimit k t = atLimit k s := by rw [atLimit, atLimit, hp, hl]

/-- The line controller is as it was but for CATCH_FULL. -/
def OnlyCatchFull (s t : State) : Prop :=
  { t.lnc with hold := { t.lnc.hold with catchFull := false } } =
    { s.lnc with hold := { s.lnc.hold with catchFull := false } }

theorem OnlyCatchFull.of_lnc {s t : State} (h : t.lnc = s.lnc) : OnlyCatchFull s t := by rw [OnlyCatchFull, h]

theorem OnlyCatchFull.trans {s t u : State} (h : OnlyCatchFull s t) (h' : OnlyCatchFull t u) : OnlyCatchFull s u :=
  Eq.trans h' h

theorem refreshCatchFull_only (s : State) : OnlyCatchFull s (refreshCatchFull s) := by
  rw [OnlyCatchFull, refreshCatchFull_lnc]

/-- After the test, CATCH_FULL alone has changed, whatever tests came before it. -/
theorem refreshCatchFull_lnc_of {s t : State} (h : OnlyCatchFull s t) : (refreshCatchFull t).lnc =
    { s.lnc with hold := { s.lnc.hold with catchFull := atLimit 0 t || atLimit 9 t } } := by
  rw [refreshCatchFull_lnc]
  exact congrArg (fun c : LineController =>
    { c with hold := { c.hold with catchFull := atLimit 0 t || atLimit 9 t } }) h

/-! ### A tray closed (R130) -/

theorem slotFree_spec (s : State) : slotFree s = true ↔ SlotFree s := decide_eq_true_iff

theorem closeTray_pocket (k : PocketNo) (s : State) :
    (closeTray k s).pkm.pockets[k] = (s.pkm.pockets[k]).closedTray := by
  simp only [closeTray, refreshCatchFull_frame, raise_frame, updatePocket_get, if_true]
  rfl

theorem closeTray_other {k j : PocketNo} (h : j ≠ k) (s : State) :
    (closeTray k s).pkm.pockets[j] = s.pkm.pockets[j] := by
  simp only [closeTray, refreshCatchFull_frame, raise_frame, updatePocket_get, if_neg h]
  rfl

theorem closeTray_log (k : PocketNo) (s : State) : (closeTray k s).pkm.log =
    s.pkm.log ++ [makeTrayRecord k s.pkm.pockets[k] ((s.pkm.pockets[k]).reason.getD .sweepRequest)] := by
  simp only [closeTray, refreshCatchFull_frame, raise_frame]
  rfl

theorem closeTray_tally (k : PocketNo) (s : State) :
    tally .traysClosed (closeTray k s) = min (tally .traysClosed s + 1) 4294967295 := by
  simp only [closeTray, refreshCatchFull_tally]
  exact (tally_bump ..).trans (if_pos rfl)

theorem closeTray_has (k : PocketNo) (s : State) :
    EventSet.has (closeTray k s).lki.events .trayClosed = true := by
  simp only [closeTray]
  exact refreshCatchFull_pending _ (by rw [raise_has]; simp)

theorem closeTray_only (k : PocketNo) (s : State) : OnlyCatchFull s (closeTray k s) :=
  .trans (.of_lnc rfl) (refreshCatchFull_only _)

theorem settleDraining_settled (k : PocketNo) (s : State) :
    SettledDraining k s.pkm.pockets[k] s (settleDraining k s) := by
  constructor
  · intro h
    have hn : ¬ ((s.pkm.pockets[k]).state = .draining ∧ (s.pkm.pockets[k]).pending = 0) := by tauto
    rw [settleDraining, if_neg hn]
    exact ⟨rfl, rfl, rfl⟩
  · intro hs hp
    rw [settleDraining, if_pos ⟨hs, hp⟩]
    exact ⟨closeTray_pocket k s, closeTray_log k s, closeTray_tally k s, closeTray_has k s⟩

theorem settleDraining_other {k j : PocketNo} (h : j ≠ k) (s : State) :
    (settleDraining k s).pkm.pockets[j] = s.pkm.pockets[j] := by
  simp only [settleDraining]
  split
  · exact closeTray_other h s
  · rfl

theorem settleDraining_only (k : PocketNo) (s : State) : OnlyCatchFull s (settleDraining k s) := by
  simp only [settleDraining]
  split
  · exact closeTray_only k s
  · rfl

/-! ### A pocket becomes FULL (R124) -/

/-- The pocket FULL, with POCKET_FULL pending, before its tray is drained. -/
def madeFull (k : PocketNo) (s : State) : State :=
  raise .pocketFull (updatePocket k (fun p => { p with state := .full }) s)

theorem becomeFull_eq (k : PocketNo) (s : State) : becomeFull k s =
    if s.prl.profile.autoClose && slotFree (madeFull k s) then beginDraining k .full (madeFull k s)
    else madeFull k s := rfl

theorem madeFull_pocket (k : PocketNo) (s : State) :
    (madeFull k s).pkm.pockets[k] = { s.pkm.pockets[k] with state := .full } :=
  (updatePocket_get k k (fun p => { p with state := .full }) s).trans (if_pos rfl)

theorem madeFull_other {k j : PocketNo} (h : j ≠ k) (s : State) :
    (madeFull k s).pkm.pockets[j] = s.pkm.pockets[j] :=
  (updatePocket_get k j (fun p => { p with state := .full }) s).trans (if_neg h)

/-- A pocket that was not DRAINING takes no reservation by becoming FULL (R132). -/
theorem madeFull_slotFree {k : PocketNo} {s : State} (h : (s.pkm.pockets[k]).state ≠ .draining) :
    slotFree (madeFull k s) = slotFree s := by
  have hr : reservations (madeFull k s) = reservations s := by
    have hu := reserved_update (keptView s).pockets k ({ s.pkm.pockets[k] with state := .full } : Pocket).load
    rw [if_neg (by exact h), if_neg (by exact nofun)] at hu
    have hv : (keptView (madeFull k s)).pockets = _ := congrArg KeptView.pockets
      (updatePocket_pocketView k (fun p => { p with state := .full }) s)
    change reserved (keptView (madeFull k s)).pockets = reserved (keptView s).pockets
    rw [hv]
    exact hu
  rw [slotFree, slotFree, hr]
  rfl

/-- A drain begun on a FULL pocket: it closes at once where nothing is pending, else it stays DRAINING (R124, R130). -/
theorem beginDraining_settled (k : PocketNo) (reason : CloseReason) (s : State) :
    SettledDraining k { s.pkm.pockets[k] with state := .draining, reason := some reason } s
      (beginDraining k reason s) := by
  have hs := settleDraining_settled k
    (updatePocket k (fun p => { p with state := .draining, reason := some reason }) s)
  rw [updatePocket_get, if_pos rfl] at hs
  exact ⟨hs.stays, hs.closes⟩

theorem becomeFull_became {k : PocketNo} {s : State} (hd : (s.pkm.pockets[k]).state ≠ .draining) :
    BecameFull k s.pkm.pockets[k] s (becomeFull k s) := by
  have hp := madeFull_pocket k s
  have hb := beginDraining_settled k .full (madeFull k s)
  rw [hp] at hb
  rw [becomeFull_eq, madeFull_slotFree hd]
  have hdrains : s.prl.profile.autoClose = true → SlotFree s →
      (s.prl.profile.autoClose && slotFree s) = true := fun ha hs => by rw [ha, (slotFree_spec s).2 hs]; rfl
  refine ⟨?_, fun h => ?_, fun ha hs h0 => ?_, fun ha hs h0 => ?_⟩
  · have hraised : EventSet.has (madeFull k s).lki.events .pocketFull = true := by rw [madeFull, raise_has]; simp
    split
    · exact beginDraining_pending _ _ _ hraised
    · exact hraised
  · rw [if_neg]
    · exact ⟨hp, rfl, rfl⟩
    · rw [Bool.and_eq_true, slotFree_spec]
      rintro ⟨ha, hs⟩
      rcases h with h | h
      · rw [ha] at h
        cases h
      · exact h hs
  · rw [if_pos (hdrains ha hs)]
    exact hb.closes rfl h0
  · rw [if_pos (hdrains ha hs)]
    obtain ⟨hpocket, hlog, -⟩ := hb.stays (.inr h0)
    exact ⟨hpocket, hlog⟩

theorem becomeFull_other {k j : PocketNo} (h : j ≠ k) (s : State) :
    (becomeFull k s).pkm.pockets[j] = s.pkm.pockets[j] := by
  rw [becomeFull_eq]
  split
  · rw [beginDraining, settleDraining_other h, updatePocket_get, if_neg h, madeFull_other h]
  · exact madeFull_other h s

theorem becomeFull_only (k : PocketNo) (s : State) : OnlyCatchFull s (becomeFull k s) := by
  rw [becomeFull_eq]
  split
  · exact .trans (.of_lnc rfl) (settleDraining_only k _)
  · rfl

/-- Nothing but the pocket manager, the events and the queues is looked at. -/
theorem BecameFull.congr {k : PocketNo} {p : Pocket} {s s' t t' : State} (h : BecameFull k p s t)
    (hs : s'.pkm = s.pkm) (ha : s'.prl.profile.autoClose = s.prl.profile.autoClose) (ht : t'.pkm = t.pkm)
    (he : ∀ e, EventSet.has t.lki.events e = true → EventSet.has t'.lki.events e = true) : BecameFull k p s' t' := by
  have hslot : SlotFree s' ↔ SlotFree s := by rw [SlotFree, SlotFree, reservations, reservations, hs]
  refine ⟨he _ h.event, fun hst => ?_, fun hauto hsl h0 => ?_, fun hauto hsl h0 => ?_⟩
  · rw [ha, hslot] at hst
    rw [ht, hs, tally_of_pkm ht, tally_of_pkm hs]
    exact h.stays hst
  · obtain ⟨h1, h2, h3, h4⟩ := h.closes (ha ▸ hauto) (hslot.1 hsl) h0
    rw [ht, hs, tally_of_pkm ht, tally_of_pkm hs]
    exact ⟨h1, h2, h3, he _ h4⟩
  · rw [ht, hs]
    exact h.drains (ha ▸ hauto) (hslot.1 hsl) h0

/-! ### A limit applied (R140) -/

/-- Pocket `k` after its limit has acted on its state, before CATCH_FULL is tested (R140). -/
def limitActed (k : PocketNo) (s : State) : State :=
  if isBank k = true ∧ (s.pkm.pockets[k]).state = .open ∧ (s.pkm.pockets[k]).delivered = s.prl.profile.limits[k] then
    becomeFull k s
  else if isBank k = true ∧ (s.pkm.pockets[k]).state = .full ∧
      (s.pkm.pockets[k]).delivered < s.prl.profile.limits[k] then
    updatePocket k (fun p => { p with state := .open }) s
  else s

theorem applyLimit_eq (k : PocketNo) (s : State) : applyLimit k s = refreshCatchFull (limitActed k s) := by
  rw [applyLimit, limitActed]
  cases isBank k <;> simp

section
variable {k : PocketNo} {s : State}

theorem limitActed_full (hb : isBank k = true) (ho : (s.pkm.pockets[k]).state = .open)
    (hl : (s.pkm.pockets[k]).delivered = s.prl.profile.limits[k]) : limitActed k s = becomeFull k s :=
  if_pos ⟨hb, ho, hl⟩

theorem limitActed_opens (hb : isBank k = true) (hf : (s.pkm.pockets[k]).state = .full)
    (hl : (s.pkm.pockets[k]).delivered < s.prl.profile.limits[k]) :
    limitActed k s = updatePocket k (fun p => { p with state := .open }) s := by
  rw [limitActed, if_neg (by rw [hf]; simp), if_pos ⟨hb, hf, hl⟩]

theorem limitActed_stays (h : isBank k = false ∨
    ((s.pkm.pockets[k]).state ≠ .open ∧ (s.pkm.pockets[k]).state ≠ .full) ∨
    ((s.pkm.pockets[k]).state = .open ∧ (s.pkm.pockets[k]).delivered ≠ s.prl.profile.limits[k]) ∨
    ((s.pkm.pockets[k]).state = .full ∧ s.prl.profile.limits[k] ≤ (s.pkm.pockets[k]).delivered)) :
    limitActed k s = s := by
  rw [limitActed, if_neg (by grind), if_neg (by grind)]

end

theorem limitActed_other {k j : PocketNo} (h : j ≠ k) (s : State) :
    (limitActed k s).pkm.pockets[j] = s.pkm.pockets[j] := by
  unfold limitActed
  split
  · exact becomeFull_other h s
  · split
    · rw [updatePocket_get, if_neg h]
    · rfl

theorem limitActed_only (k : PocketNo) (s : State) : OnlyCatchFull s (limitActed k s) := by
  unfold limitActed
  split
  · exact becomeFull_only k s
  · split <;> rfl

/-- A limit applied leaves of the line controller all but CATCH_FULL, which follows pockets 0 and 9 (R127). -/
theorem applyLimit_lnc (k : PocketNo) (s : State) : (applyLimit k s).lnc = { s.lnc with
    hold := { s.lnc.hold with catchFull := atLimit 0 (applyLimit k s) || atLimit 9 (applyLimit k s) } } := by
  have hat : ∀ i, atLimit i (refreshCatchFull (limitActed k s)) = atLimit i (limitActed k s) :=
    atLimit_congr (by simp) (by simp)
  rw [applyLimit_eq, hat, hat, refreshCatchFull_lnc_of (limitActed_only k s)]

theorem applyLimit_pkm (k : PocketNo) (s : State) : (applyLimit k s).pkm = (limitActed k s).pkm := by
  simp [applyLimit_eq]

theorem applyLimit_became {k : PocketNo} {s : State} (hb : isBank k = true) (ho : (s.pkm.pockets[k]).state = .open)
    (hl : (s.pkm.pockets[k]).delivered = s.prl.profile.limits[k]) :
    BecameFull k s.pkm.pockets[k] s (applyLimit k s) := by
  have hf := becomeFull_became (s := s) (k := k) (by rw [ho]; decide)
  refine hf.congr rfl rfl ?_ fun e he => ?_
  · rw [applyLimit_pkm, limitActed_full hb ho hl]
  · rw [applyLimit_eq, limitActed_full hb ho hl]
    exact refreshCatchFull_pending _ he

/-! ### A limit stored (R140) -/

/-- The limit that a SET_FIELD of `x` stores for pocket `k`: raised to a bank pocket's count (R140). -/
def storedLimit (k : PocketNo) (x : Nat) (s : State) : Nat :=
  if isBank k then max x (s.pkm.pockets[k]).delivered else x

theorem raiseLimit_setField {n : Nat} {k : PocketNo} (h : limitPocket n = some k) (x : Nat) (s : State) :
    raiseLimit k (updateProfile (fun _ => s.prl.profile.setField n (.num x)) s) =
      { s with prl := { s.prl with profile := s.prl.profile.setField n (.num (storedLimit k x s)) } } := by
  rw [Profile.setField_limit h, Profile.setField_limit h, raiseLimit, storedLimit]
  cases isBank k
  · rfl
  · simp [updateProfile, updateLoader]

/-! ### The classes of trays without a letter (R139) -/

/-- Whether pocket `k`, standing as `p`, takes its mapped class, where that has changed (R139). -/
def adopts (changed : PocketNo → Bool) (k : PocketNo) (p : Pocket) : Bool :=
  changed k && holdsTray p && p.delivered == 0

/-- The pocket with the tray class `cls`, where `b` says so. -/
def Pocket.adopting (b : Bool) (cls : Option DestClass) (p : Pocket) : Pocket :=
  { p with trayClass := (if b then cls else p.trayClass) }

theorem Pocket.adopting_false (cls : Option DestClass) (p : Pocket) : p.adopting false cls = p := rfl

/-- One pocket of `adoptClasses`. -/
def adoptClass (changed : PocketNo → Bool) (s : State) (k : PocketNo) : State :=
  if adopts changed k s.pkm.pockets[k] then
    updatePocket k (fun p => { p with trayClass := s.prl.profile.mappedClass k }) s
  else s

theorem adoptClass_prl (changed : PocketNo → Bool) (s : State) (k : PocketNo) :
    (adoptClass changed s k).prl = s.prl := by
  unfold adoptClass
  split <;> rfl

theorem adoptClass_self (changed : PocketNo → Bool) (s : State) (k : PocketNo) :
    (adoptClass changed s k).pkm.pockets[k] =
      (s.pkm.pockets[k]).adopting (adopts changed k s.pkm.pockets[k]) (s.prl.profile.mappedClass k) := by
  unfold adoptClass
  cases adopts changed k s.pkm.pockets[k]
  · rfl
  · rw [if_pos rfl, updatePocket_get, if_pos rfl]
    rfl

theorem adoptClass_other (changed : PocketNo → Bool) (s : State) {k j : PocketNo} (h : j ≠ k) :
    (adoptClass changed s k).pkm.pockets[j] = s.pkm.pockets[j] := by
  unfold adoptClass
  split
  · rw [updatePocket_get, if_neg h]
  · rfl

theorem adoptClass_list (changed : PocketNo → Bool) {ks : List PocketNo} (hks : ks.Nodup) (s : State) (j : PocketNo) :
    (ks.foldl (adoptClass changed) s).pkm.pockets[j] = (s.pkm.pockets[j]).adopting
      (decide (j ∈ ks) && adopts changed j s.pkm.pockets[j]) (s.prl.profile.mappedClass j) := by
  induction ks generalizing s with
  | nil => rfl
  | cons k ks ih =>
    obtain ⟨hk, hks⟩ := List.nodup_cons.1 hks
    rw [List.foldl_cons, ih hks, adoptClass_prl]
    by_cases hj : j = k
    · subst hj
      simpa [hk, Pocket.adopting_false] using adoptClass_self changed s j
    · rw [adoptClass_other changed s hj]
      simp [hj]

theorem adoptClasses_pocket (changed : PocketNo → Bool) (s : State) (j : PocketNo) :
    (adoptClasses changed s).pkm.pockets[j] = (s.pkm.pockets[j]).adopting
      (isBank j && adopts changed j s.pkm.pockets[j]) (s.prl.profile.mappedClass j) := by
  have hb : ∀ j, decide (j ∈ bankPockets) = isBank j := by decide
  rw [← hb]
  exact adoptClass_list changed (by decide) s j

end Sys2Proof.Machine
end

section
/-! SET_FIELD (R114, R124, R127, R139, R140, R165, R194, R195). -/

namespace Sys2Proof.Machine

/-! ### The request decided (R195) -/

/-- The state with field `n` set to `v`, and the owners' effects of that (R195). -/
def fieldStored (n : Nat) (v : FieldValue) (s : State) : State :=
  fieldEffects n s.prl.profile (updateProfile (fun _ => s.prl.profile.setField n v) s)

section
variable {n : Nat} {sh : FieldShape} {bs : List Byte} {s : State}

theorem writeField_wrongState (hw : fieldWritable n s.lnc.line = false) :
    writeField n sh bs s = refuse .wrongState s := by simp [writeField, hw]

theorem writeField_badValue (hw : fieldWritable n s.lnc.line = true) (hv : sh.ofLink bs = none) :
    writeField n sh bs s = refuse .badValue s := by simp [writeField, hw, hv]

variable {v : FieldValue} {clamped : Bool}

theorem writeField_inUse (hw : fieldWritable n s.lnc.line = true) (hv : sh.ofLink bs = some (v, clamped))
    (hc : isClassField n = true) (hu : classInUse (s.prl.profile.setField n v) s = true) :
    writeField n sh bs s = refuse .inUse s := by simp [writeField, hw, hv, hc, hu]

theorem writeField_stored (hw : fieldWritable n s.lnc.line = true) (hv : sh.ofLink bs = some (v, clamped))
    (hu : isClassField n = true → classInUse (s.prl.profile.setField n v) s = false) :
    writeField n sh bs s = (fieldStored n v s, .ok (clamped || raisedFrom n v (fieldStored n v s))
      (fieldReply n (fieldStored n v s).prl.profile)) := by
  have hno : (isClassField n && classInUse (s.prl.profile.setField n v) s) = false := by
    cases hc : isClassField n
    · rfl
    · rw [hu hc]; rfl
  simp only [writeField, hw, hv, hno]
  rfl

end

section
variable {r : Request} {rest : List Request} {s : State} {n : Byte} {value : List Byte} {sh : FieldShape}
  {v : FieldValue} {clamped : Bool}

theorem ownSetField_payload (hp : r.payload = n :: value) (hs : fieldShape n.toNat = some sh) (u : State) :
    ownSetField r u = writeField n.toNat sh value u := by
  have hn : byteAt (n :: value) 0 = n := rfl
  simp only [ownSetField, hp, hn, hs]
  rfl

/-- A field stored: the answer names the value that the field then holds, and says where that is not the value sent. -/
theorem exec_setField {w : FieldValue} (h : Served .setField r rest s) (hp : r.payload = n :: value)
    (hs : fieldShape n.toNat = some sh) (hw : fieldWritable n.toNat s.lnc.line = true)
    (hv : sh.ofLink value = some (v, clamped))
    (hu : isClassField n.toNat = true → classInUse (s.prl.profile.setField n.toNat v) s = false)
    (hf : (fieldStored n.toNat v (taken rest s)).prl.profile.field n.toNat = some w) :
    exec .setField s = .next { fieldStored n.toNat v (taken rest s) with
      lki := { (fieldStored n.toNat v (taken rest s)).lki with
        replies := (fieldStored n.toNat v (taken rest s)).lki.replies ++
          [placeOf r (.ok (clamped || decide (w ≠ v)) (n :: w.linkBytes))] } } := by
  refine live_answered h ?_
  have hraised : raisedFrom n.toNat v (fieldStored n.toNat v (taken rest s)) = decide (w ≠ v) := by
    rw [raisedFrom, hf, Bool.eq_iff_iff]
    simp
  rw [ownSetField_payload hp hs, writeField_stored (s := taken rest s) hw hv hu, fieldReply_eq hf, hraised]

/-- A field stored as it was sent (R195). -/
theorem exec_setField_kept (h : Served .setField r rest s) (hp : r.payload = n :: value)
    (hs : fieldShape n.toNat = some sh) (hw : fieldWritable n.toNat s.lnc.line = true)
    (hv : sh.ofLink value = some (v, clamped))
    (hu : isClassField n.toNat = true → classInUse (s.prl.profile.setField n.toNat v) s = false)
    (hf : (fieldStored n.toNat v (taken rest s)).prl.profile = s.prl.profile.setField n.toNat v) :
    exec .setField s = .next { fieldStored n.toNat v (taken rest s) with
      lki := { (fieldStored n.toNat v (taken rest s)).lki with
        replies := (fieldStored n.toNat v (taken rest s)).lki.replies ++
          [placeOf r (.ok clamped (n :: v.linkBytes))] } } := by
  rw [exec_setField h hp hs hw hv hu (by rw [hf]; exact s.prl.profile.field_setField hs hv)]
  simp

end

/-! ### What each field does (R195) -/

/-- The state with field `n` set to `v`, and no more. -/
def withField (n : Nat) (v : FieldValue) (s : State) : State :=
  { s with prl := { s.prl with profile := s.prl.profile.setField n v } }

@[simp] theorem withField_frame (n : Nat) (v : FieldValue) (s : State) :
    (withField n v s).inReset = s.inReset ∧ (withField n v s).inputs = s.inputs ∧ (withField n v s).trk = s.trk ∧
    (withField n v s).lch = s.lch ∧ (withField n v s).scan = s.scan ∧ (withField n v s).held = s.held ∧
    (withField n v s).cnu = s.cnu ∧ (withField n v s).pkm = s.pkm ∧ (withField n v s).lnc = s.lnc ∧
    (withField n v s).lki = s.lki ∧ (withField n v s).pending = s.pending ∧
    (withField n v s).prl = { s.prl with profile := s.prl.profile.setField n v } := by
  and_intros <;> rfl

@[simp] theorem taken_frame (rest : List Request) (s : State) :
    (taken rest s).inReset = s.inReset ∧ (taken rest s).inputs = s.inputs ∧ (taken rest s).trk = s.trk ∧
    (taken rest s).lch = s.lch ∧ (taken rest s).scan = s.scan ∧ (taken rest s).held = s.held ∧
    (taken rest s).cnu = s.cnu ∧ (taken rest s).pkm = s.pkm ∧ (taken rest s).lnc = s.lnc ∧
    (taken rest s).prl = s.prl ∧ (taken rest s).pending = s.pending ∧
    (taken rest s).lki = { s.lki with requests := rest } := by
  and_intros <;> rfl

section
variable {n : Nat} {v : FieldValue} {s : State}

theorem fieldStored_plain (h : n < 48 ∨ n = 59 ∨ (65 ≤ n ∧ n ≤ 68) ∨ 70 ≤ n) :
    fieldStored n v s = withField n v s := by
  have hl : limitPocket n = none := by simp [limitPocket]; omega
  have hc : isClassField n = false := by simp [isClassField]; omega
  simp only [fieldStored, fieldEffects, hl, hc]
  rw [if_neg (by decide), if_neg (by omega), if_neg (by omega)]
  rfl

theorem fieldStored_class (h : isClassField n = true) : fieldStored n v s = adoptClasses
    (fun k => (s.prl.profile.setField n v).mappedClass k != s.prl.profile.mappedClass k) (withField n v s) := by
  have hl : limitPocket n = none := by
    simp [isClassField] at h
    simp [limitPocket]
    omega
  simp only [fieldStored, fieldEffects, hl, h]
  rfl

theorem fieldStored_limit {k : PocketNo} (h : limitPocket n = some k) (x : Nat) :
    fieldStored n (.num x) s = applyLimit k (withField n (.num (storedLimit k x s)) s) := by
  simp only [fieldStored, fieldEffects, h, raiseLimit_setField h]
  rfl

theorem fieldStored_limit_prl {k : PocketNo} (h : limitPocket n = some k) (x : Nat) :
    (fieldStored n (.num x) s).prl = (withField n (.num (storedLimit k x s)) s).prl := by
  rw [fieldStored_limit h]
  simp

end

/-- Whatever a field sets, the request and reply queues stay as they were. -/
theorem fieldStored_queues (n : Nat) (v : FieldValue) (s : State) :
    (fieldStored n v s).lki.requests = s.lki.requests ∧ (fieldStored n v s).lki.replies = s.lki.replies := by
  have h : linkView (fieldStored n v s) = linkView s := by simp [fieldStored]
  simp only [linkView, Link.mk.injEq] at h
  simp [h]

/-! ### HEAD_DOWN_POLICY and AUTOWAKE (R114, R165) -/

theorem fieldStored_policy {n : Nat} (h : n = 48) (v : FieldValue) (s : State) :
    fieldStored n v s = refreshHeadDown (withField n v s) := by
  subst h
  rfl

theorem fieldStored_policy_lnc {n : Nat} (h : n = 48) (v : FieldValue) {s : State} (hl : s.lnc.line ≠ .loading) :
    (fieldStored n v s).lnc =
      { s.lnc with hold := { s.lnc.hold with headDown := headDownHeld (fieldStored n v s) } } := by
  have hw := refreshHeadDown_lnc (s := withField n v s) hl
  rw [fieldStored_policy h, hw, headDownHeld_congr (t := refreshHeadDown (withField n v s)) (s := withField n v s)
    (by simp) (by simp)]
  simp

theorem fieldStored_autowake {n : Nat} (h : n = 69) (v : FieldValue) (s : State) :
    fieldStored n v s = refreshWake (withField n v s) := by
  subst h
  rfl

theorem refreshWake_off {s : State} (h : s.prl.profile.autowake = false) :
    (refreshWake s).lnc = { s.lnc with wake := none } := by
  rw [refreshWake, if_neg (by rw [h]; decide)]
  rfl

theorem refreshWake_on {s : State} (h : s.prl.profile.autowake = true) : (refreshWake s).lnc = { s.lnc with
    wake := (if s.lnc.line = .standby ∧ s.inputs.feedload = true ∧ s.lnc.wake = none
      then some s.prl.profile.wakeDebounce else s.lnc.wake) } := by
  simp only [refreshWake, h, if_true, startWake, true_and, Option.isNone_iff_eq_none]
  split <;> rfl

theorem withField_wakeDebounce {n : Nat} (h : n = 69) (v : FieldValue) (s : State) :
    (withField n v s).prl.profile.wakeDebounce = s.prl.profile.wakeDebounce := by
  subst h
  cases v <;> rfl

/-! ### A limit set (R124, R127, R140) -/

section
variable {n : Nat} {k : PocketNo} (h : limitPocket n = some k)
include h

theorem withField_limit (x : Nat) (s : State) : (withField n (.num x) s).prl.profile.limits[k] = x := by
  simp [withField, Profile.setField_limit h]

theorem withField_otherLimit (x : Nat) (s : State) {j : PocketNo} (hj : j ≠ k) :
    (withField n (.num x) s).prl.profile.limits[j] = s.prl.profile.limits[j] := by
  have hv : (k : Nat) ≠ j := fun e => hj (Fin.ext e.symm)
  simp [withField, Profile.setField_limit h, hv]

theorem withField_autoClose (x : Nat) (s : State) :
    (withField n (.num x) s).prl.profile.autoClose = s.prl.profile.autoClose := by
  simp [withField, Profile.setField_limit h]

/-- A limit acts on the pocket alone: it becomes FULL, opens again, or stays (R124, R140). -/
theorem limitActed_withField (x : Nat) (s : State) :
    (isBank k = true → (s.pkm.pockets[k]).state = .open → (s.pkm.pockets[k]).delivered = x →
      BecameFull k s.pkm.pockets[k] s (applyLimit k (withField n (.num x) s))) ∧
    (isBank k = true → (s.pkm.pockets[k]).state = .full → (s.pkm.pockets[k]).delivered < x →
      (applyLimit k (withField n (.num x) s)).pkm =
        { s.pkm with pockets := s.pkm.pockets.set k { s.pkm.pockets[k] with state := .open } }) ∧
    (isBank k = false ∨ ((s.pkm.pockets[k]).state ≠ .open ∧ (s.pkm.pockets[k]).state ≠ .full) ∨
      ((s.pkm.pockets[k]).state = .open ∧ (s.pkm.pockets[k]).delivered ≠ x) ∨
      ((s.pkm.pockets[k]).state = .full ∧ x ≤ (s.pkm.pockets[k]).delivered) →
        (applyLimit k (withField n (.num x) s)).pkm = s.pkm) := by
  have hx := withField_limit h x s
  refine ⟨fun hb ho hd => ?_, fun hb hf hd => ?_, fun hstays => ?_⟩
  · have hfull := applyLimit_became (s := withField n (.num x) s) hb ho (hd.trans hx.symm)
    exact hfull.congr rfl (withField_autoClose h x s).symm rfl fun _ he => he
  · rw [applyLimit_pkm, limitActed_opens (s := withField n (.num x) s) hb hf (hd.trans_eq hx.symm)]
    rfl
  · rw [applyLimit_pkm, limitActed_stays (s := withField n (.num x) s) (by rw [hx]; exact hstays)]
    rfl

end

section
variable {r : Request} {rest : List Request} {s : State} {n : Byte} {value : List Byte} {sh : FieldShape}
  {x : Nat} {clamped : Bool} {k : PocketNo}

/-- A limit's field answers the limit that it then holds, CLAMPED where a bank pocket's count raised it (R140, R195). -/
theorem exec_setField_limit (h : Served .setField r rest s) (hp : r.payload = n :: value)
    (hs : fieldShape n.toNat = some sh) (hw : fieldWritable n.toNat s.lnc.line = true)
    (hv : sh.ofLink value = some (.num x, clamped)) (hk : limitPocket n.toNat = some k) :
    exec .setField s = .next { fieldStored n.toNat (.num x) (taken rest s) with
      lki := { (fieldStored n.toNat (.num x) (taken rest s)).lki with
        replies := (fieldStored n.toNat (.num x) (taken rest s)).lki.replies ++ [placeOf r
          (.ok (clamped || decide (storedLimit k x s ≠ x)) (n :: (FieldValue.num (storedLimit k x s)).linkBytes))] } } := by
  have hclass : isClassField n.toNat = false := by
    obtain ⟨hn, -⟩ := Option.dite_none_right_eq_some.1 hk
    simp [isClassField]
    omega
  obtain ⟨lo, hi, hshape⟩ := limitPocket_shape hk
  rw [exec_setField (w := .num (storedLimit k x s)) h hp hs hw hv (by simp [hclass]) ?_]
  · simp
  · rw [fieldStored_limit_prl hk]
    exact Profile.field_setField_num hshape _ _

end

/-- Settles O7: the refusals by their conditions, and each stored field by what it does beyond being stored. -/
theorem setFieldStores : Obligations.SetFieldStores := by
  unfold Obligations.SetFieldStores
  intro r rest s n value sh h hp hs
  refine ⟨fun lo hi hsh => by rw [hsh]; rfl, fun hw => ?_, fun hw hv => ?_, fun v clamped hw hv =>
    ⟨fun hn => ?_, fun k x limit hk hx hlimit => ?_, fun hc hu => ?_, fun hc hu => ?_, fun hn => ?_, fun hn => ?_⟩⟩
  · exact live_refused h ((ownSetField_payload hp hs _).trans (writeField_wrongState hw))
  · exact live_refused h ((ownSetField_payload hp hs _).trans (writeField_badValue hw hv))
  · have hst := fieldStored_plain (v := v) (s := taken rest s) hn
    rw [exec_setField_kept h hp hs hw hv (fun hc => ?_) (by rw [hst]; rfl), hst]
    · rfl
    · simp [isClassField] at hc
      omega
  · subst hx hlimit
    have hst : fieldStored n.toNat (.num x) (taken rest s) =
        applyLimit k (withField n.toNat (.num (storedLimit k x s)) (taken rest s)) := fieldStored_limit hk x
    obtain ⟨hfull, hopens, hstays⟩ := limitActed_withField hk (storedLimit k x s) (taken rest s)
    obtain ⟨hrequests, hreplies⟩ := fieldStored_queues n.toNat (.num x) (taken rest s)
    rw [← hst] at hfull hopens hstays
    have hprl : (fieldStored n.toNat (.num x) (taken rest s)).prl =
        (withField n.toNat (.num (storedLimit k x s)) s).prl := fieldStored_limit_prl hk x
    refine ⟨_, exec_setField_limit h hp hs hw hv hk, hprl, ?_, fun j hj => ?_, hrequests, ?_, fun hb ho hd => ?_, hopens,
      hstays, fun j hj => ?_, ?_, fun b hb => ?_⟩
    · exact (congrArg (fun l : Loader => l.profile.limits[k]) hprl).trans (withField_limit hk _ s)
    · exact (congrArg (fun l : Loader => l.profile.limits[j]) hprl).trans (withField_otherLimit hk _ s hj)
    · rw [hreplies]
      rfl
    · exact (hfull hb ho hd).congr rfl rfl rfl fun _ he => he
    · rw [hst]
      exact (congrArg (·.pockets[j]) (applyLimit_pkm k _)).trans (limitActed_other hj _)
    · rw [hst]
      exact applyLimit_lnc k _
    · cases b <;> simp at hb <;> simp [Same, hst]
  · exact live_refused h ((ownSetField_payload hp hs _).trans (writeField_inUse hw hv hc hu))
  · have hst := fieldStored_class (v := v) (s := taken rest s) hc
    refine ⟨_, exec_setField_kept h hp hs hw hv (fun _ => hu) (by simp [hst]), by simp [hst], by simp [hst],
      fun k => ?_, fun b hb => ?_⟩
    · have hk := adoptClasses_pocket (fun k => (s.prl.profile.setField n.toNat v).mappedClass k !=
        s.prl.profile.mappedClass k) (withField n.toNat v (taken rest s)) k
      rw [hst]
      simp only [adoptClasses_frame, withField_frame, taken_frame] at hk ⊢
      rw [hk]
      simp only [Pocket.adopting, adopts, Bool.and_comm, Bool.and_left_comm]
    · cases b <;> simp at hb <;> simp [Same, hst]
  · have hst := fieldStored_policy hn v (taken rest s)
    obtain ⟨hrequests, hreplies⟩ := fieldStored_queues n.toNat v (taken rest s)
    refine ⟨_, exec_setField_kept h hp hs hw hv (fun hc => by simp [hn, isClassField] at hc) (by simp [hst]), ?_,
      hrequests, ?_, fieldStored_policy_lnc hn v (h.notLoading rfl), fun b hb => ?_⟩
    · rw [hst, hn]
      simp
    · rw [hreplies]
      rfl
    · cases b <;> simp at hb <;> simp [Same, hst]
  · have hst := fieldStored_autowake hn v (taken rest s)
    refine ⟨_, exec_setField_kept h hp hs hw hv (fun hc => by simp [hn, isClassField] at hc) (by simp [hst]), ?_, ?_,
      fun hoff => ?_, fun hon => ?_, fun b hb => ?_⟩
    · rw [hst, hn]
      simp
    · simp [hst]
    · rw [hst] at hoff ⊢
      exact refreshWake_off (by simpa using hoff)
    · rw [hst] at hon ⊢
      have hd : (withField n.toNat v (taken rest s)).prl.profile.wakeDebounce = s.prl.profile.wakeDebounce :=
        withField_wakeDebounce hn v _
      rw [← hd]
      exact refreshWake_on (s := withField n.toNat v (taken rest s)) (by simpa using hon)
    · cases b <;> simp at hb <;> simp [Same, hst]

end Sys2Proof.Machine
end

section
/-! The account of the letters (R126), stated on a view of the state that holds what it speaks of and nothing else: of
each letter the stage it has reached, of each pocket its two counts and its limit, and the tallies of the letters that
came and went. The changes of that view which keep the account. -/

namespace Sys2Proof.Machine

/-! ### The view -/

/-- How far a letter's record has come: which of its parts stand, and the pocket of its destination. -/
structure Stage where
  id : LetterId
  longPoint : Bool
  measured : Bool
  scanned : Bool
  judged : Bool
  deciding : Bool
  pocket : Option PocketNo

def Letter.stage (l : Letter) : Stage where
  id := l.id
  longPoint := l.longPoint.isSome
  measured := l.length.isSome
  scanned := l.results.isSome
  judged := l.verdict.isSome
  deciding := l.pdecPoint.isSome
  pocket := l.dest.map Destination.pocket

/-- The order of a record's parts, on its stage. -/
structure Stage.InOrder (x : Stage) : Prop where
  longPoint : x.longPoint = true → x.measured = false ∧ x.scanned = false
  judged : x.scanned = false → x.judged = false
  pocket : x.judged = false → x.pocket = none ∧ x.deciding = false
  decided : x.pocket ≠ none → x.deciding = false

/-- The tallies of the letters that have left the list (R126). -/
def goneTallies : List Tally := allPockets.map Tally.delivered ++ [.lostFault, .lostNoTray]

structure AccountView where
  letters : List Stage
  held : Option LetterId
  delivered : PocketNo → Nat
  pending : PocketNo → Nat
  limits : PocketNo → Nat
  inducted : Nat
  gone : Tally → Nat
  loading : Bool
  afterPin : Bool

def accountView (s : State) : AccountView where
  letters := s.trk.letters.map Letter.stage
  held := s.held
  delivered k := (s.pkm.pockets[k]).delivered
  pending k := (s.pkm.pockets[k]).pending
  limits k := s.prl.profile.limits[k]
  inducted := tally .inducted s
  gone x := if x ∈ goneTallies then tally x s else 0
  loading := decide (s.lnc.line = .loading)
  afterPin := s.prl.afterPin

/-- The letters of the list on their way to pocket `k`. -/
def onWay (k : PocketNo) (xs : List Stage) : Nat := xs.countP (·.pocket == some k)

/-- The letter `id` is one that is scanned and not judged. -/
def AccountView.Unjudged (id : LetterId) (v : AccountView) : Prop :=
  ∃ x ∈ v.letters, x.id = id ∧ x.scanned = true ∧ x.judged = false

/-- The account, on the view. -/
structure AccountView.Kept (v : AccountView) : Prop where
  ids : (v.letters.map (·.id)).Nodup
  records : ∀ x ∈ v.letters, x.InOrder
  held : ∀ id, v.held = some id → v.Unjudged id
  pending : ∀ k, v.pending k = onWay k v.letters
  limits : v.loading = false → ∀ k, isBank k = true → v.delivered k + v.pending k ≤ v.limits k
  fresh : v.loading = true → v.afterPin = true → ∀ k, v.delivered k = 0
  tallies : v.inducted < 4294967295 → (∀ x ∈ goneTallies, v.gone x < 4294967295) →
    v.inducted = (goneTallies.map v.gone).sum + v.letters.length

theorem Letter.stage_inOrder (l : Letter) : l.stage.InOrder ↔ RecordInOrder l := by
  constructor
  · rintro ⟨h1, h2, h3, h4⟩
    simp only [Letter.stage, Option.isSome_iff_ne_none, Option.isSome_eq_false_iff, Option.isNone_iff_eq_none,
      Option.map_eq_none_iff, ne_eq] at h1 h2 h3 h4
    exact ⟨h1, h2, h3, h4⟩
  · rintro ⟨h1, h2, h3, h4⟩
    constructor <;> simpa only [Letter.stage, Option.isSome_iff_ne_none, Option.isSome_eq_false_iff,
      Option.isNone_iff_eq_none, Option.map_eq_none_iff, ne_eq]

theorem mem_allPockets : ∀ k : PocketNo, k ∈ allPockets := by decide

theorem mem_goneTallies (x : Tally) :
    x ∈ goneTallies ↔ (∃ k, x = .delivered k) ∨ x = .lostFault ∨ x = .lostNoTray := by
  simp [goneTallies, mem_allPockets, eq_comm]

theorem onWay_stages (k : PocketNo) (ls : List Letter) :
    onWay k (ls.map Letter.stage) = (ls.filter fun l => l.dest.map Destination.pocket == some k).length := by
  rw [onWay, List.countP_map, List.countP_eq_length_filter]
  rfl

theorem goneTallies_sum (f : Tally → Nat) : (goneTallies.map f).sum =
    (allPockets.map fun k => f (.delivered k)).sum + f .lostFault + f .lostNoTray := by
  simp [goneTallies, Function.comp_def, Nat.add_assoc]

theorem gone_map (s : State) : goneTallies.map (accountView s).gone = goneTallies.map fun x => tally x s :=
  List.map_congr_left fun _ hx => if_pos hx

theorem gone_iff {P : Nat → Prop} (s : State) : (∀ x ∈ goneTallies, P ((accountView s).gone x)) ↔
    P (tally .lostFault s) ∧ P (tally .lostNoTray s) ∧ ∀ k, P (tally (.delivered k) s) := by
  have he : (∀ x ∈ goneTallies, P ((accountView s).gone x)) ↔ ∀ x ∈ goneTallies, P (tally x s) :=
    forall₂_congr fun x hx => by rw [show (accountView s).gone x = tally x s from if_pos hx]
  rw [he]
  simp only [mem_goneTallies]
  constructor
  · exact fun h => ⟨h _ (.inr (.inl rfl)), h _ (.inr (.inr rfl)), fun k => h _ (.inl ⟨k, rfl⟩)⟩
  · rintro ⟨hf, hn, hd⟩ x (⟨k, rfl⟩ | rfl | rfl)
    · exact hd k
    · exact hf
    · exact hn

theorem accountKept_iff (s : State) : AccountKept s ↔ (accountView s).Kept := by
  have hids : ((accountView s).letters.map (·.id)) = s.trk.letters.map (·.id) := by
    simp [accountView, Letter.stage, Function.comp_def]
  have hheld : ∀ id, (accountView s).Unjudged id ↔
      ∃ l ∈ s.trk.letters, l.id = id ∧ l.results ≠ none ∧ l.verdict = none := by
    simp [AccountView.Unjudged, accountView, Letter.stage, Option.isSome_iff_ne_none]
  have htal : ((accountView s).inducted < 4294967295 → (∀ x ∈ goneTallies, (accountView s).gone x < 4294967295) →
      (accountView s).inducted = (goneTallies.map (accountView s).gone).sum + (accountView s).letters.length) ↔
      (tally .inducted s < 4294967295 → tally .lostFault s < 4294967295 → tally .lostNoTray s < 4294967295 →
        (∀ k, tally (.delivered k) s < 4294967295) → tally .inducted s =
          (allPockets.map fun k => tally (.delivered k) s).sum + tally .lostFault s + tally .lostNoTray s +
            s.trk.letters.length) := by
    rw [gone_iff (P := (· < 4294967295)), gone_map, goneTallies_sum]
    simp [accountView]
  constructor
  · rintro ⟨h1, h2, h3, h4, h5, h6, h7⟩
    refine ⟨hids ▸ h1, ?_, fun id he => (hheld id).2 (h3 id he), fun k => (onWay_stages k _).symm ▸ h4 k,
      fun hl => h5 (of_decide_eq_false hl), fun hl => h6 (of_decide_eq_true hl), htal.2 h7⟩
    intro x hx
    obtain ⟨l, hl, rfl⟩ := List.mem_map.1 hx
    exact l.stage_inOrder.2 (h2 l hl)
  · rintro ⟨h1, h2, h3, h4, h5, h6, h7⟩
    exact ⟨hids ▸ h1, fun l hl => l.stage_inOrder.1 (h2 _ (List.mem_map_of_mem hl)),
      fun id he => (hheld id).1 (h3 id he), fun k => onWay_stages k _ ▸ h4 k,
      fun hl => h5 (decide_eq_false hl), fun hl => h6 (decide_eq_true hl), htal.1 h7⟩

/-! ### Sums -/

/-- One more at one place of a list without repeats makes the sum one more. -/
theorem sum_map_succ {α : Type} [DecidableEq α] {l : List α} (hl : l.Nodup) {x : α} (hx : x ∈ l) {f g : α → Nat}
    (h : ∀ y ∈ l, g y = f y + if y = x then 1 else 0) : (l.map g).sum = (l.map f).sum + 1 := by
  rw [List.map_congr_left h, List.sum_map_add]
  have hc : (l.map fun y => if y = x then 1 else 0).sum = 1 := by
    rw [List.sum_map_eq_nsmul_single x _ fun y hy _ => if_neg hy, List.count_eq_one_of_mem hl hx]
    simp
  rw [hc]

theorem goneTallies_nodup : goneTallies.Nodup := by decide

/-- Each letter with a pocket is on its way to exactly one (R118). -/
theorem sum_onWay (xs : List Stage) :
    (allPockets.map fun k => onWay k xs).sum = xs.countP fun x => x.pocket.isSome := by
  induction xs with
  | nil => decide
  | cons x xs ih =>
    rw [List.countP_cons, ← ih]
    cases hp : x.pocket with
    | none => simp [onWay, hp]
    | some j =>
      have hj : j ∈ allPockets := mem_allPockets j
      rw [sum_map_succ (by decide) hj (f := fun k => onWay k xs)]
      · simp
      · intro k _
        simp [onWay, List.countP_cons, hp, eq_comm (a := k)]

/-! ### Changes that keep the account -/

/-- Nothing has changed but that some trays have been emptied. -/
def TraysEmptied (v w : AccountView) : Prop :=
  ∃ d : PocketNo → Nat, w = { v with delivered := d } ∧ ∀ k, d k ≤ v.delivered k

theorem TraysEmptied.refl (v : AccountView) : TraysEmptied v v := ⟨_, rfl, fun _ => le_rfl⟩

theorem TraysEmptied.trans {u v w : AccountView} (h : TraysEmptied u v) (h' : TraysEmptied v w) : TraysEmptied u w := by
  obtain ⟨d, rfl, hd⟩ := h
  obtain ⟨d', rfl, hd'⟩ := h'
  exact ⟨d', rfl, fun k => (hd' k).trans (hd k)⟩

theorem TraysEmptied.of_eq {v w : AccountView} (h : w = v) : TraysEmptied v w := h ▸ .refl v

theorem TraysEmptied.kept {v w : AccountView} (h : TraysEmptied v w) (hk : v.Kept) : w.Kept := by
  obtain ⟨d, rfl, hless⟩ := h
  obtain ⟨h1, h2, h3, h4, h5, h6, h7⟩ := hk
  exact ⟨h1, h2, h3, h4, fun hl k hb => (Nat.add_le_add_right (hless k) _).trans (h5 hl k hb),
    fun hl hp k => Nat.le_zero.1 ((hless k).trans (h6 hl hp k).le), h7⟩

/-- The list with the stage of letter `id` changed by `g`. -/
def restaged (id : LetterId) (g : Stage → Stage) (xs : List Stage) : List Stage :=
  xs.map fun x => if x.id = id then g x else x

theorem restaged_ids {id : LetterId} {g : Stage → Stage} (hg : ∀ x, (g x).id = x.id) (xs : List Stage) :
    (restaged id g xs).map (·.id) = xs.map (·.id) := by
  rw [restaged, List.map_map]
  refine List.map_congr_left fun x _ => ?_
  simp only [Function.comp_apply]
  split
  · exact hg x
  · rfl

theorem mem_restaged {id : LetterId} {g : Stage → Stage} {xs : List Stage} {y : Stage} (h : y ∈ restaged id g xs) :
    ∃ x ∈ xs, y = if x.id = id then g x else x := by
  obtain ⟨x, hx, rfl⟩ := List.mem_map.1 h
  exact ⟨x, hx, rfl⟩

theorem onWay_restaged {id : LetterId} {g : Stage → Stage} {xs : List Stage} (k : PocketNo)
    (hp : ∀ x ∈ xs, x.id = id → (g x).pocket = x.pocket) : onWay k (restaged id g xs) = onWay k xs := by
  rw [onWay, restaged, List.countP_map]
  refine List.countP_congr fun x hx => ?_
  simp only [Function.comp_apply]
  split
  · next h => rw [hp x hx h]
  · rfl

theorem AccountView.Kept.unique {v : AccountView} (h : v.Kept) {x y : Stage} (hx : x ∈ v.letters) (hy : y ∈ v.letters)
    (e : x.id = y.id) : x = y := List.inj_on_of_nodup_map h.ids hx hy e

/-- A record's parts move on in their order, its pocket as it was; a letter whose verdict is held is one that is scanned
and not judged. -/
theorem AccountView.Kept.restage {v : AccountView} (h : v.Kept) {id : LetterId} {g : Stage → Stage}
    (hid : ∀ x, (g x).id = x.id) (hg : ∀ x ∈ v.letters, x.id = id → (g x).pocket = x.pocket ∧ (g x).InOrder)
    {hld : Option LetterId}
    (hh : ∀ i, hld = some i → ({ v with letters := restaged id g v.letters } : AccountView).Unjudged i) :
    ({ v with letters := restaged id g v.letters, held := hld } : AccountView).Kept where
  ids := restaged_ids hid v.letters ▸ h.ids
  records y hy := by
    obtain ⟨x, hx, rfl⟩ := mem_restaged hy
    split
    · next e => exact (hg x hx e).2
    · exact h.records x hx
  held := hh
  pending k := (onWay_restaged k fun x hx e => (hg x hx e).1) ▸ h.pending k
  limits := h.limits
  fresh := h.fresh
  tallies hi hx := (h.tallies hi hx).trans (by simp [restaged])

/-- A letter stays unjudged through a change of other records, or of its own short of a verdict. -/
theorem AccountView.Unjudged.restaged {v : AccountView} {i : LetterId} (h : v.Unjudged i) {id : LetterId}
    {g : Stage → Stage} (hid : ∀ x, (g x).id = x.id)
    (hg : ∀ x ∈ v.letters, x.id = id → i = id → x.scanned = true → x.judged = false →
      (g x).scanned = true ∧ (g x).judged = false) :
    ({ v with letters := Machine.restaged id g v.letters } : AccountView).Unjudged i := by
  obtain ⟨x, hx, rfl, hs, hj⟩ := h
  refine ⟨_, List.mem_map_of_mem hx, ?_⟩
  split
  · next e =>
    obtain ⟨h1, h2⟩ := hg x hx e e hs hj
    exact ⟨hid x, h1, h2⟩
  · exact ⟨rfl, hs, hj⟩

/-- One letter more awaits pocket `k`. -/
def AccountView.await (k : PocketNo) (v : AccountView) : AccountView :=
  { v with pending := Function.update v.pending k (v.pending k + 1) }

theorem onWay_sent {id : LetterId} {g : Stage → Stage} {xs : List Stage} {x : Stage} {k : PocketNo}
    (hn : (xs.map (·.id)).Nodup) (hx : x ∈ xs) (hid : x.id = id) (hp : x.pocket = none) (hg : (g x).pocket = some k)
    (j : PocketNo) : onWay j (restaged id g xs) = onWay j xs + if j = k then 1 else 0 := by
  induction xs with
  | nil => cases hx
  | cons y ys ih =>
    obtain ⟨hy, hn⟩ := List.nodup_cons.1 hn
    simp only [onWay, restaged, List.map_cons, List.countP_cons] at ih ⊢
    rcases List.mem_cons.1 hx with rfl | hx
    · have hr : (ys.map fun x => if x.id = id then g x else x) = ys := by
        refine (List.map_congr_left fun z hz => ?_).trans (List.map_id ys)
        rw [if_neg fun e => hy (List.mem_map.2 ⟨z, hz, e.trans hid.symm⟩), id_eq]
      rw [hr, if_pos hid, hg, hp]
      simp [eq_comm (a := j)]
    · rw [ih hn hx, if_neg fun e : y.id = id => hy (List.mem_map.2 ⟨x, hx, hid.trans e.symm⟩)]
      omega

/-- A judged letter gets its pocket, which has room for it (R121, R122). -/
theorem AccountView.Kept.send {v : AccountView} (h : v.Kept) {x : Stage} {g : Stage → Stage} {k : PocketNo}
    (hx : x ∈ v.letters) (hp : x.pocket = none) (hj : x.judged = true)
    (hid : ∀ y, (g y).id = y.id) (hgp : ∀ y, (g y).pocket = some k) (hgo : (g x).InOrder)
    (hroom : v.loading = false → isBank k = true → v.delivered k + v.pending k < v.limits k) :
    ({ v.await k with letters := restaged x.id g v.letters } : AccountView).Kept := by
  have huniq : ∀ y ∈ v.letters, y.id = x.id → y = x := fun y hy => h.unique hy hx
  refine ⟨restaged_ids hid v.letters ▸ h.ids, fun y hy => ?_, fun i hi => ?_, fun j => ?_, fun hl j hb => ?_, h.fresh,
    fun hi hg => (h.tallies hi hg).trans (by simp [restaged, AccountView.await])⟩
  · obtain ⟨z, hz, rfl⟩ := mem_restaged hy
    split
    · next e => exact huniq z hz e ▸ hgo
    · exact h.records z hz
  · refine (h.held i hi).restaged hid fun y hy e _ _ hyj => ?_
    rw [huniq y hy e, hj] at hyj
    cases hyj
  · simp only [AccountView.await]
    rw [onWay_sent h.ids hx rfl hp (hgp x) j, ← h.pending j]
    by_cases e : j = k
    · subst e; simp
    · simp [e]
  · simp only [AccountView.await]
    by_cases e : j = k
    · subst e
      have := hroom hl hb
      simp only [Function.update_self]
      omega
    · rw [Function.update_of_ne e]
      exact h.limits hl j hb

/-- A count one higher, saturating at the tallies' ceiling (R141). -/
def tallySucc (n : Nat) : Nat := min (n + 1) 4294967295

/-- The letter of stage `x` has left the list. -/
def AccountView.drop (x : Stage) (v : AccountView) : AccountView :=
  { v with letters := v.letters.filter (·.id != x.id) }

/-- A letter of stage `x` that left is counted: its pocket awaits one fewer, and tally `t` has one more. -/
def AccountView.count (x : Stage) (t : Tally) (v : AccountView) : AccountView :=
  { v with
    pending := fun k => v.pending k - if x.pocket = some k then 1 else 0
    gone := Function.update v.gone t (tallySucc (v.gone t)) }

theorem onWay_removed {xs : List Stage} {x : Stage} (hn : (xs.map (·.id)).Nodup) (hx : x ∈ xs) (k : PocketNo) :
    onWay k (xs.filter (·.id != x.id)) = onWay k xs - (if x.pocket = some k then 1 else 0) ∧
      (xs.filter (·.id != x.id)).length + 1 = xs.length ∧ (x.pocket = some k → 1 ≤ onWay k xs) := by
  induction xs with
  | nil => cases hx
  | cons y ys ih =>
    obtain ⟨hy, hn⟩ := List.nodup_cons.1 hn
    rcases List.mem_cons.1 hx with rfl | hx
    · have hr : ys.filter (·.id != x.id) = ys :=
        List.filter_eq_self.2 fun z hz => bne_iff_ne.2 fun e => hy (List.mem_map.2 ⟨z, hz, e⟩)
      simp only [List.filter_cons, bne_self_eq_false, Bool.false_eq_true, if_false, hr, onWay, List.countP_cons,
        beq_iff_eq]
      refine ⟨by omega, rfl, fun e => by simp [e]⟩
    · have hne : y.id ≠ x.id := fun e => hy (List.mem_map.2 ⟨x, hx, e.symm⟩)
      obtain ⟨h1, h2, h3⟩ := ih hn hx
      simp only [onWay] at h1 h3
      simp only [List.filter_cons, bne_iff_ne, ne_eq, hne, not_false_eq_true, if_true, onWay, List.countP_cons,
        List.length_cons, h1, h2]
      refine ⟨?_, trivial, fun e => (h3 e).trans (Nat.le_add_right _ _)⟩
      split
      · next e => have := h3 e; omega
      · omega

/-- A removed letter is counted once: one letter fewer in the list, one more in the tally it leaves by (R123, R125). -/
theorem AccountView.Kept.remove {v : AccountView} (h : v.Kept) {x : Stage} {t : Tally} (hx : x ∈ v.letters)
    (ht : t ∈ goneTallies) (hh : v.held ≠ some x.id) : ((v.drop x).count x t).Kept := by
  refine ⟨?_, fun y hy => h.records y (List.mem_of_mem_filter hy), fun i hi => ?_, fun k => ?_, fun hl k hb => ?_,
    h.fresh, fun hi hg => ?_⟩
  · exact h.ids.sublist (List.filter_sublist.map _)
  · obtain ⟨y, hy, rfl, hs⟩ := h.held i hi
    refine ⟨y, List.mem_filter.2 ⟨hy, bne_iff_ne.2 fun e => hh (hi.trans (congrArg some e))⟩, rfl, hs⟩
  · exact (congrArg (· - _) (h.pending k)).trans (onWay_removed h.ids hx k).1.symm
  · exact (Nat.add_le_add_left (Nat.sub_le _ _) _).trans (h.limits hl k hb)
  · have hlen := (onWay_removed h.ids hx 0).2.1
    have htt := hg t ht
    simp only [AccountView.count, AccountView.drop, Function.update_self, tallySucc] at htt
    have hold := h.tallies hi fun y hy => by
      by_cases e : y = t
      · subst e; omega
      · have := hg y hy
        simpa only [AccountView.count, AccountView.drop, Function.update_of_ne e] using this
    simp only [AccountView.count, AccountView.drop] at *
    rw [sum_map_succ goneTallies_nodup ht (f := v.gone)]
    · omega
    · intro y _
      by_cases e : y = t
      · subst e
        simp only [Function.update_self, tallySucc, if_true]
        omega
      · simp [e]

/-- A delivered letter is one more in its pocket's tray, and one fewer awaited there (R123). -/
theorem AccountView.Kept.deliver {v : AccountView} (h : v.Kept) {x : Stage} {k : PocketNo} (hx : x ∈ v.letters)
    (hp : x.pocket = some k) (hh : v.held ≠ some x.id) (hl : v.loading = false) :
    ({ (v.drop x).count x (.delivered k) with
      delivered := Function.update v.delivered k (satSucc (v.delivered k)) } : AccountView).Kept := by
  obtain ⟨h1, h2, h3, h4, h5, -, h7⟩ := h.remove hx ((mem_goneTallies _).2 (.inl ⟨k, rfl⟩)) hh
  refine ⟨h1, h2, h3, h4, fun _ j hb => ?_, fun e => absurd (hl.symm.trans e) (by decide), h7⟩
  by_cases e : j = k
  · subst e
    have hpos := (onWay_removed h.ids hx j).2.2 hp
    rw [← h.pending j] at hpos
    have hlim := h.limits hl j hb
    simp only [AccountView.count, AccountView.drop, Function.update_self, hp, if_true, satSucc]
    omega
  · have hj := h5 hl j hb
    simp only [Function.update_of_ne e]
    exact hj

/-- A letter joins the list: it is counted, and is neither judged nor on its way to a pocket (R9). -/
theorem AccountView.Kept.join {v : AccountView} (h : v.Kept) {x : Stage} (hid : ∀ y ∈ v.letters, y.id ≠ x.id)
    (ho : x.InOrder) (hp : x.pocket = none) :
    ({ v with letters := v.letters ++ [x], inducted := tallySucc v.inducted } : AccountView).Kept := by
  refine ⟨?_, ?_, fun i hi => ?_, fun k => ?_, h.limits, h.fresh, fun hi hg => ?_⟩
  · simp only [List.map_append, List.map_cons, List.map_nil]
    refine List.nodup_append.2 ⟨h.ids, by simp, ?_⟩
    rintro a ha b hb rfl
    obtain ⟨y, hy, rfl⟩ := List.mem_map.1 ha
    exact hid y hy (by simpa using hb)
  · intro y hy
    rcases List.mem_append.1 hy with hy | hy
    · exact h.records y hy
    · exact List.mem_singleton.1 hy ▸ ho
  · obtain ⟨y, hy, hs⟩ := h.held i hi
    exact ⟨y, List.mem_append_left _ hy, hs⟩
  · simp only [onWay, List.countP_append, List.countP_cons, hp, List.countP_nil]
    exact h.pending k
  · have hi' : v.inducted < 4294967295 := by simp only [tallySucc] at hi; omega
    have := h.tallies hi' hg
    simp only [tallySucc, List.length_append, List.length_singleton]
    omega

/-- With no letter in the list and every bank tray within its limit the account stands outside LOADING. -/
theorem AccountView.Kept.outOfLoading {v : AccountView} (h : v.Kept) (he : v.letters = [])
    (hlim : ∀ k, isBank k = true → v.delivered k ≤ v.limits k) : ({ v with loading := false } : AccountView).Kept := by
  refine ⟨h.ids, h.records, h.held, h.pending, fun _ k hb => ?_, fun e => absurd e (by simp), h.tallies⟩
  rw [show v.pending k = 0 by rw [h.pending k, he]; rfl]
  exact hlim k hb

end Sys2Proof.Machine
end

section
/-! The operations that leave the account's view as it is. -/

namespace Sys2Proof.Machine

/-! ### What the view depends on -/

theorem accountView_of_letters {s t : State} (hl : t.trk.letters.map Letter.stage = s.trk.letters.map Letter.stage)
    (h : t.held = s.held ∧ t.pkm = s.pkm ∧ t.prl = s.prl ∧ lineView t = lineView s) :
    accountView t = accountView s := by
  obtain ⟨hh, hp, hr, hv⟩ := h
  simp only [accountView, hl, hh, hp, hr, (lineView_line hv).1, tally]

theorem accountView_of_frame {s t : State}
    (h : t.trk = s.trk ∧ t.held = s.held ∧ t.pkm = s.pkm ∧ t.prl = s.prl ∧ lineView t = lineView s) :
    accountView t = accountView s :=
  accountView_of_letters (by rw [h.1]) h.2

/-- A fold of operations that leave the view as it is leaves it so. -/
theorem foldl_accountView {α : Type} {f : State → α → State} (hf : ∀ s a, accountView (f s a) = accountView s)
    (l : List α) (s : State) : accountView (l.foldl f s) = accountView s := foldl_keeps f accountView l hf s

/-- An optional step that leaves the view as it is. -/
theorem ite_accountView {c : Prop} [Decidable c] {t u s : State} (ht : accountView t = accountView s)
    (hu : accountView u = accountView s) : accountView (if c then t else u) = accountView s := by
  split
  · exact ht
  · exact hu

/-! ### Letters, gates, tallies and the line -/

/-- A change of the letter's record, as the view shows it. -/
theorem updateLetter_restaged {f : Letter → Letter} {g : Stage → Stage} (hf : ∀ l, (f l).stage = g l.stage)
    (id : LetterId) (s : State) :
    accountView (updateLetter id f s) = { accountView s with letters := restaged id g (accountView s).letters } := by
  have hl : (updateLetter id f s).trk.letters.map Letter.stage = restaged id g (accountView s).letters := by
    simp only [updateLetter, updateList, accountView, restaged, List.map_map]
    refine List.map_congr_left fun l _ => ?_
    simp only [Function.comp_apply, beq_iff_eq]
    change (if l.id = id then f l else l).stage = if l.id = id then g l.stage else l.stage
    split
    · exact hf l
    · rfl
  rw [← hl]
  rfl

theorem restaged_id (id : LetterId) (xs : List Stage) : restaged id (fun x => x) xs = xs := by
  simp [restaged]

/-- A change of a letter's record that leaves its stage leaves the view. -/
theorem updateLetter_accountView {f : Letter → Letter} (hf : ∀ l, (f l).stage = l.stage) (id : LetterId) (s : State) :
    accountView (updateLetter id f s) = accountView s := by
  rw [updateLetter_restaged (g := fun x => x) hf, restaged_id]

@[simp] theorem raise_accountView (k : EventKind) (s : State) : accountView (raise k s) = accountView s := rfl

@[simp] theorem setHold_accountView (h : HoldSet) (s : State) : accountView (setHold h s) = accountView s := by
  simp only [accountView, setHold_frame, setHold_lnc, tally]

@[simp] theorem refreshListHigh_accountView (s : State) : accountView (refreshListHigh s) = accountView s :=
  setHold_accountView _ s

@[simp] theorem refreshCatchFull_accountView (s : State) : accountView (refreshCatchFull s) = accountView s :=
  setHold_accountView _ s

@[simp] theorem applyHeadDown_accountView (s : State) : accountView (applyHeadDown s) = accountView s :=
  setHold_accountView _ s

@[simp] theorem refreshHeadDown_accountView (s : State) : accountView (refreshHeadDown s) = accountView s :=
  ite_accountView rfl (applyHeadDown_accountView s)

/-- A tally that counts neither an induction nor a removal is not in the view. -/
theorem bump_accountView {x : Tally} (hi : x ≠ .inducted) (hg : x ∉ goneTallies) (s : State) :
    accountView (bump x s) = accountView s := by
  have hx : ∀ y ∈ goneTallies, tally y (bump x s) = tally y s := fun y hy => by
    rw [tally_bump, if_neg (by rintro rfl; exact hg hy)]
  have hgone : (accountView (bump x s)).gone = (accountView s).gone := by
    funext y
    simp only [accountView]
    split
    · next h => exact hx y h
    · rfl
  have hind : tally .inducted (bump x s) = tally .inducted s := by rw [tally_bump, if_neg hi.symm]
  change ({ accountView s with inducted := _, gone := (accountView (bump x s)).gone } : AccountView) = _
  rw [hgone, hind]
  rfl

theorem bump_gone {x : Tally} (hg : x ∈ goneTallies) (s : State) : accountView (bump x s) =
    { accountView s with gone := Function.update (accountView s).gone x (tallySucc ((accountView s).gone x)) } := by
  have hgone : (accountView (bump x s)).gone =
      Function.update (accountView s).gone x (tallySucc ((accountView s).gone x)) := by
    funext y
    simp only [accountView, tally_bump, tallySucc]
    by_cases e : y = x
    · subst e; simp [hg]
    · simp [e]
  have hi : tally .inducted (bump x s) = tally .inducted s := by
    rw [tally_bump, if_neg (by rintro rfl; simp [mem_goneTallies] at hg)]
  change ({ accountView s with inducted := _, gone := (accountView (bump x s)).gone } : AccountView) = _
  rw [hgone, hi]
  rfl

theorem updateLine_accountView {f : LineController → LineController} {s : State}
    (hl : (f s.lnc).line = .loading ↔ s.lnc.line = .loading) : accountView (updateLine f s) = accountView s := by
  change { accountView s with loading := decide ((f s.lnc).line = .loading) } = accountView s
  simp only [hl]
  rfl

/-- Between two line states after LOADING the view stays as it is. -/
theorem enterLine_accountView {t : LineState} {s : State} (ht : t ≠ .loading) (hs : s.lnc.line ≠ .loading) :
    accountView (enterLine t s) = accountView s :=
  updateLine_accountView (s := s) (f := fun c => { c with line := t }) (by simp [ht, hs])

@[simp] theorem setGate_accountView (g : GateId) (x : Gate) (s : State) :
    accountView (setGate g x s) = accountView s := rfl

@[simp] theorem takeGate_accountView (l : Letter) (g : GateId) (s : State) :
    accountView (takeGate l g s) = accountView s := by
  rw [takeGate, updateLetter_accountView (by exact fun _ => rfl)]
  rfl

theorem accountView_of_disowned {s t : State} (h : disowned t = disowned s)
    (hf : t.held = s.held ∧ t.pkm = s.pkm ∧ t.prl = s.prl ∧ lineView t = lineView s) :
    accountView t = accountView s := by
  have hl := congrArg (fun t : Tracker => t.letters.map Letter.stage) h
  simp only [disowned, List.map_map] at hl
  exact accountView_of_letters hl hf

@[simp] theorem releaseIfDue_accountView (g : GateId) (s : State) :
    accountView (releaseIfDue g s) = accountView s := accountView_of_disowned (releaseIfDue_disowned ..) (by simp)

@[simp] theorem setReleasePoints_accountView (l : Letter) (s : State) :
    accountView (setReleasePoints l s) = accountView s :=
  accountView_of_disowned (setReleasePoints_disowned ..) (by simp)

@[simp] theorem releaseUnmeasured_accountView (id : LetterId) (s : State) :
    accountView (releaseUnmeasured id s) = accountView s :=
  accountView_of_disowned (releaseUnmeasured_disowned ..) (by simp)

@[simp] theorem reachSetup_accountView (l : Letter) (g : GateId) (s : State) :
    accountView (reachSetup l g s) = accountView s := by
  have hu : accountView (updateLetter l.id (fun l => { l with setupReached := l.setupReached ++ [g] }) s) =
      accountView s := updateLetter_accountView (by exact fun _ => rfl) _ _
  simp only [reachSetup]
  split <;> simp [hu]

@[simp] theorem reachSetupPoint_accountView (id : LetterId) (g : GateId) (s : State) :
    accountView (reachSetupPoint id g s) = accountView s := by
  unfold reachSetupPoint
  split
  · exact ite_accountView (reachSetup_accountView ..) rfl
  · rfl

@[simp] theorem driveOwnedBank_accountView (l : Letter) (s : State) :
    accountView (driveOwnedBank l s) = accountView s := by
  simp only [driveOwnedBank]
  (repeat' split) <;> simp

@[simp] theorem resynchronise_accountView (l : Letter) (s : State) :
    accountView (resynchronise l s) = accountView s := by
  have hm : ∀ (d : Int) (u : State), accountView (movePrint l.id d (moveReleasePoints l.id d u)) = accountView u :=
    fun d u => (accountView_of_frame (s := moveReleasePoints l.id d u) (by simp)).trans
      (foldl_accountView (by exact fun _ _ => rfl) _ u)
  simp only [resynchronise, hm]
  exact updateLetter_accountView (by simp [Letter.stage]) _ _

/-! ### The cancel unit -/

theorem CancelOutcome.tally_uncounted {o : CancelOutcome} {t : Tally} (h : o.tally = some t) :
    t ≠ .inducted ∧ t ∉ goneTallies := by
  cases o <;> cases h <;> decide

@[simp] theorem writeOutcome_accountView (id : LetterId) (o : CancelOutcome) (m : Option MissedReason) (s : State) :
    accountView (writeOutcome id o m s) = accountView s := by
  simp only [writeOutcome]
  split
  · next t ht =>
    obtain ⟨hi, hg⟩ := CancelOutcome.tally_uncounted ht
    rw [bump_accountView hi hg, updateLetter_accountView (by exact fun _ => rfl)]
  · exact updateLetter_accountView (by exact fun _ => rfl) _ _

@[simp] theorem updateHead_accountView (h : Head) (f : HeadUnit → HeadUnit) (s : State) :
    accountView (updateHead h f s) = accountView s := rfl

theorem withPrint_accountView (l : Letter) (o : Orientation) (run : ChosenRun) (c : CancelOutcome)
    (m : Option MissedReason) (s : State) : accountView (withPrint l o run c m s) = accountView s :=
  updateLetter_accountView (by exact fun _ => rfl) _ _

@[simp] theorem schedulePrint_accountView (l : Letter) (o : Orientation) (run : ChosenRun) (s : State) :
    accountView (schedulePrint l o run s) = accountView s := by
  refine schedulePrint_cases (P := fun u => accountView u = accountView s) l o run s
    (fun _ => withPrint_accountView ..) (fun _ => ?_) (fun _ _ => ?_)
  all_goals rw [bump_accountView (by decide) (by decide), withPrint_accountView]

@[simp] theorem emptyQueue_accountView (h : Head) (s : State) : accountView (emptyQueue h s) = accountView s :=
  foldl_accountView (fun s id => writeOutcome_accountView id .headDown none s) _ _

@[simp] theorem startPrint_accountView (h : Head) (l : Letter) (x : PrintPart) (s : State) :
    accountView (startPrint h l x s) = accountView s := by
  simp only [startPrint, updateHead_accountView]
  rw [updateLetter_accountView (by exact fun _ => rfl)]
  split <;> rfl

@[simp] theorem reachFireStart_accountView (h : Head) (s : State) :
    accountView (reachFireStart h s) = accountView s := by
  have ht : ∀ l x, accountView (takeFireStart h l x s) = accountView s := fun l x => by
    simp only [takeFireStart]
    split <;> simp
  unfold reachFireStart
  split
  · exact ite_accountView (ht _ _) rfl
  · rfl

@[simp] theorem reachFireEnd_accountView (h : Head) (s : State) : accountView (reachFireEnd h s) = accountView s := by
  refine ite_accountView ?_ rfl
  simp only [endPrint, updateHead_accountView]
  split <;> simp

@[simp] theorem settlePrint_accountView (id : LetterId) (s : State) :
    accountView (settlePrint id s) = accountView s := by
  simp only [settlePrint]
  rw [ite_accountView (reachFireEnd_accountView ..) rfl, ite_accountView (reachFireEnd_accountView ..) rfl]

@[simp] theorem faultHead_accountView (h : Head) (s : State) : accountView (faultHead h s) = accountView s := by
  simp only [faultHead]
  split
  · rfl
  · simp only [refreshHeadDown_accountView, raise_accountView, emptyQueue_accountView, updateHead_accountView]
    split
    · split <;> simp
    · rfl

@[simp] theorem reachRecoveryEnd_accountView (h : Head) (s : State) :
    accountView (reachRecoveryEnd h s) = accountView s := by
  simp only [reachRecoveryEnd]
  (repeat' split) <;> simp

@[simp] theorem handToCancel_accountView (l : Letter) (v : Verdict) (s : State) :
    accountView (handToCancel l v s) = accountView s := by
  unfold handToCancel
  split
  · simp
  · exact updateLetter_accountView (by exact fun _ => rfl) _ _

/-! ### Sampling, the line's own moves, and the link -/

@[simp] theorem closeChannel_accountView (c : Chan) (x : ScanContext) (s : State) :
    accountView (closeChannel c x s) = accountView s := accountView_of_frame (by simp)

@[simp] theorem enterRunning_accountView {s : State} (hs : s.lnc.line ≠ .loading) :
    accountView (enterRunning s) = accountView s := by
  change accountView (enterLine .running _) = _
  rw [enterLine_accountView (by simp) (by exact hs), updateLine_accountView .rfl]

@[simp] theorem checkStart_accountView (s : State) : accountView (checkStart s) = accountView s := by
  unfold checkStart
  split
  · next h => exact enterRunning_accountView (by simp [h.1])
  · rfl

theorem takeSample_accountView (c : Chan) (pos : Pos) (x : SamplePair) (s : State) :
    accountView (takeSample c pos x s) = accountView s := by
  simp only [takeSample]
  split
  · rfl
  · split
    · split
      · exact accountView_of_frame (by simp)
      · exact accountView_of_frame (by simp)
    · refine ite_accountView ?_ (accountView_of_frame (by simp))
      rw [checkStart_accountView]
      exact accountView_of_frame (by simp)

theorem endCalibration_accountView (k : Calibration) (s : State) :
    accountView (endCalibration k s) = accountView s := accountView_of_frame (by simp)

@[simp] theorem endPhase_accountView (s : State) : accountView (endPhase s) = accountView s := by
  have hr : ∀ k, accountView (endReference k s) = accountView s := fun k => by
    simp only [endReference]
    rw [endCalibration_accountView]
    rfl
  unfold endPhase
  split
  · rfl
  · refine ite_accountView ?_ rfl
    split
    · exact ite_accountView rfl rfl
    · rfl
    · exact ite_accountView (hr _) rfl

theorem calibrationReturn_accountView (k : Calibration) (f : Face) (upper lower : SamplePair) (s : State) :
    accountView (calibrationReturn k f upper lower s) = accountView s := by
  simp only [calibrationReturn, endPhase_accountView]
  rfl

theorem calibrationTimeout_accountView (k : Calibration) (f : Face) (s : State) :
    accountView (calibrationTimeout k f s) = accountView s := by
  simp only [calibrationTimeout]
  split
  · simp only [endPhase_accountView]
    rfl
  · exact accountView_of_frame (by simp)

@[simp] theorem sampleReturn_accountView (f : Face) (upper lower : SamplePair) (s : State) :
    accountView (sampleReturn f upper lower s) = accountView s := by
  unfold sampleReturn
  split
  · split
    · exact calibrationReturn_accountView ..
    · unfold travelReturn
      split
      · rfl
      · exact (takeSample_accountView ..).trans (takeSample_accountView ..)
  · rfl

@[simp] theorem sampleTimeout_accountView (f : Face) (s : State) :
    accountView (sampleTimeout f s) = accountView s := by
  unfold sampleTimeout
  split
  · split
    · exact calibrationTimeout_accountView ..
    · exact accountView_of_frame (by simp)
  · rfl

@[simp] theorem startWake_accountView (s : State) : accountView (startWake s) = accountView s := by
  unfold startWake
  exact ite_accountView (updateLine_accountView .rfl) rfl

@[simp] theorem stopWake_accountView (s : State) : accountView (stopWake s) = accountView s :=
  updateLine_accountView .rfl

@[simp] theorem refreshWake_accountView (s : State) : accountView (refreshWake s) = accountView s := by
  unfold refreshWake
  exact ite_accountView (startWake_accountView s) (stopWake_accountView s)

@[simp] theorem resumeDrain_accountView (s : State) : accountView (resumeDrain s) = accountView s := by
  unfold resumeDrain
  (repeat' split)
  · exact updateLine_accountView .rfl
  all_goals rfl

theorem completeWake_accountView (s : State) : accountView (completeWake s) = accountView s := by
  unfold completeWake
  split
  · next h =>
    rw [raise_accountView, enterLine_accountView (by simp) (by simp [stopWake, h.1]), stopWake_accountView]
  · rfl

theorem enterStarting_accountView {s : State} (hs : s.lnc.line ≠ .loading) :
    accountView (enterStarting s) = accountView s := by
  unfold enterStarting
  rw [enterLine_accountView (by simp) (by simpa using hs)]
  exact updateLine_accountView (s := s) (f := fun c => { c with startTimer := _, atSpeed := _ }) .rfl

@[simp] theorem reportRemoval_accountView (l : Letter) (d : Disposition) (s : State) :
    accountView (reportRemoval l d s) = accountView s := accountView_of_frame (by simp)

@[simp] theorem pushAnswer_accountView (kind tag : Byte) (a : Answer) (s : State) :
    accountView (pushAnswer kind tag a s) = accountView s := accountView_of_frame (by simp)

@[simp] theorem receiveOver_accountView (overlap : Nat) (cs : List (Option Byte)) (s : State) :
    accountView (receiveOver overlap cs s) = accountView s := accountView_of_frame (by simp)

@[simp] theorem answerBehind_accountView (s : State) : accountView (answerBehind s) = accountView s :=
  accountView_of_frame (by simp)

/-! ### The pocket manager -/

/-- A change of a pocket, as the view shows it. -/
theorem updatePocket_accountView (k : PocketNo) (f : Pocket → Pocket) (s : State) : accountView (updatePocket k f s) =
    { accountView s with
      delivered := Function.update (accountView s).delivered k (f s.pkm.pockets[k]).delivered
      pending := Function.update (accountView s).pending k (f s.pkm.pockets[k]).pending } := by
  have hp : ∀ g : Pocket → Nat, (fun j : PocketNo => g (updatePocket k f s).pkm.pockets[j]) =
      Function.update (fun j : PocketNo => g s.pkm.pockets[j]) k (g (f s.pkm.pockets[k])) := fun g => by
    funext j
    rw [updatePocket_get]
    split
    · next e => rw [e, Function.update_self]
    · next e => rw [Function.update_of_ne e]
  change { accountView s with
    delivered := fun j : PocketNo => ((updatePocket k f s).pkm.pockets[j]).delivered
    pending := fun j : PocketNo => ((updatePocket k f s).pkm.pockets[j]).pending } = _
  rw [hp Pocket.delivered, hp Pocket.pending]
  rfl

/-- A change of a pocket that leaves its two counts leaves the view. -/
theorem updatePocket_counts {k : PocketNo} {f : Pocket → Pocket} {s : State}
    (hd : (f s.pkm.pockets[k]).delivered = (s.pkm.pockets[k]).delivered)
    (hp : (f s.pkm.pockets[k]).pending = (s.pkm.pockets[k]).pending) :
    accountView (updatePocket k f s) = accountView s := by
  rw [updatePocket_accountView, hd, hp, show (s.pkm.pockets[k]).delivered = (accountView s).delivered k from rfl,
    show (s.pkm.pockets[k]).pending = (accountView s).pending k from rfl, Function.update_eq_self,
    Function.update_eq_self]

theorem adoptClasses_accountView (changed : PocketNo → Bool) (s : State) :
    accountView (adoptClasses changed s) = accountView s :=
  foldl_accountView (fun _ _ => ite_accountView (updatePocket_counts rfl rfl) rfl) _ _

@[simp] theorem appendLog_accountView (x : TrayRecord) (s : State) : accountView (appendLog x s) = accountView s := rfl

@[simp] theorem setDebounce_accountView (k : PocketNo) (running : Bool) (s : State) :
    accountView (setDebounce k running s) = accountView s := rfl

/-- A pocket's delivered count does not rise. -/
theorem updatePocket_lessened {k : PocketNo} {f : Pocket → Pocket} {s : State} {n : Nat}
    (hd : (f s.pkm.pockets[k]).delivered ≤ (s.pkm.pockets[k]).delivered) (hp : (f s.pkm.pockets[k]).pending = n) :
    TraysEmptied { accountView s with pending := Function.update (accountView s).pending k n }
      (accountView (updatePocket k f s)) := by
  refine ⟨Function.update (accountView s).delivered k (f s.pkm.pockets[k]).delivered, ?_, fun j => ?_⟩
  · rw [updatePocket_accountView, hp]
  · by_cases e : j = k
    · subst e
      rw [Function.update_self]
      exact hd
    · rw [Function.update_of_ne e]

theorem updatePocket_emptied {k : PocketNo} {f : Pocket → Pocket} {s : State}
    (hd : (f s.pkm.pockets[k]).delivered ≤ (s.pkm.pockets[k]).delivered)
    (hp : (f s.pkm.pockets[k]).pending = (accountView s).pending k) :
    TraysEmptied (accountView s) (accountView (updatePocket k f s)) := by
  have h := updatePocket_lessened hd hp
  rwa [Function.update_eq_self] at h

theorem closeTray_emptied (k : PocketNo) (s : State) : TraysEmptied (accountView s) (accountView (closeTray k s)) := by
  have hb : accountView (bump .traysClosed
      (appendLog (makeTrayRecord k s.pkm.pockets[k] ((s.pkm.pockets[k]).reason.getD .sweepRequest)) s)) =
      accountView s := bump_accountView (by decide) (by decide) _
  simp only [closeTray, refreshCatchFull_accountView, raise_accountView]
  exact hb ▸ updatePocket_emptied (Nat.zero_le _) rfl

theorem settleDraining_emptied (k : PocketNo) (s : State) :
    TraysEmptied (accountView s) (accountView (settleDraining k s)) := by
  simp only [settleDraining]
  split
  · exact closeTray_emptied k s
  · exact .refl _

theorem beginDraining_emptied (k : PocketNo) (reason : CloseReason) (s : State) :
    TraysEmptied (accountView s) (accountView (beginDraining k reason s)) := by
  have hu : accountView (updatePocket k (fun p => { p with state := .draining, reason := some reason }) s) =
      accountView s := updatePocket_counts rfl rfl
  exact hu ▸ settleDraining_emptied k _

theorem becomeFull_emptied (k : PocketNo) (s : State) :
    TraysEmptied (accountView s) (accountView (becomeFull k s)) := by
  have hu : accountView (raise .pocketFull (updatePocket k (fun p => { p with state := .full }) s)) =
      accountView s := by rw [raise_accountView, updatePocket_counts rfl rfl]
  simp only [becomeFull]
  split
  · exact hu ▸ beginDraining_emptied k .full _
  · exact .of_eq hu

theorem assignPocket_emptied (k : PocketNo) (s : State) :
    TraysEmptied ((accountView s).await k) (accountView (assignPocket k s)) := by
  simp only [assignPocket, refreshCatchFull_accountView]
  refine updatePocket_lessened (n := (accountView s).pending k + 1) ?_ ?_
  · simp only
    split
    · exact Nat.zero_le _
    · exact le_rfl
  · simp only
    split <;> rfl

theorem takeInsertion_emptied (k : PocketNo) (s : State) :
    TraysEmptied (accountView s) (accountView (takeInsertion k s)) := by
  have hn : accountView (updatePocket k (fun p => { p with tray := true }) s) = accountView s :=
    updatePocket_counts rfl rfl
  refine takeInsertion_cases (P := fun u => TraysEmptied (accountView s) (accountView u)) k s (.of_eq hn) ?_ fun _ => ?_
  · rw [refreshCatchFull_accountView]
    exact hn ▸ updatePocket_emptied (Nat.zero_le _) rfl
  · exact hn ▸ updatePocket_emptied (Nat.zero_le _) rfl

theorem applyLimit_emptied (k : PocketNo) (s : State) :
    TraysEmptied (accountView s) (accountView (applyLimit k s)) := by
  simp only [applyLimit, refreshCatchFull_accountView]
  split
  · exact .refl _
  · split
    · exact becomeFull_emptied k s
    · split
      · exact .of_eq (updatePocket_counts rfl rfl)
      · exact .refl _

theorem bringIn_emptied (k : PocketNo) (s : State) : TraysEmptied (accountView s) (accountView (bringIn k s)) := by
  simp only [bringIn]
  split
  · exact .refl _
  · split
    · exact .of_eq (updatePocket_counts rfl rfl)
    · split
      · exact becomeFull_emptied k s
      · exact .of_eq (updatePocket_counts rfl rfl)

theorem pressSweep_emptied (k : PocketNo) (s : State) :
    TraysEmptied (accountView s) (accountView (pressSweep k s)) := by
  simp only [pressSweep]
  split
  · split
    · exact beginDraining_emptied k .sweepButton (setDebounce k false s)
    · exact .refl _
  · exact .refl _

theorem foldl_emptied {α : Type} {f : State → α → State}
    (hf : ∀ s a, TraysEmptied (accountView s) (accountView (f s a))) (l : List α) (s : State) :
    TraysEmptied (accountView s) (accountView (l.foldl f s)) := by
  induction l generalizing s with
  | nil => exact .refl _
  | cons a l ih => exact (hf s a).trans (ih _)

theorem beginPockets_accountView (s : State) : accountView (beginPockets s) = accountView s :=
  foldl_accountView (fun _ _ => updatePocket_counts rfl rfl) _ _

end Sys2Proof.Machine
end

section
/-! The account through a letter's life: its induction, its scan and verdict, its pocket, and its removal. -/

namespace Sys2Proof.Machine

/-! ### Records and their stages -/

theorem stage_of_found {id : LetterId} {s : State} {l : Letter} (h : findLetter id s = some l) :
    l.stage ∈ (accountView s).letters ∧ l.stage.id = id :=
  ⟨List.mem_map_of_mem (List.mem_of_find?_eq_some h), findLetter_id h⟩

/-- The letter's scan is still to complete, its LONG point gone. -/
def AccountView.Unscanned (id : LetterId) (v : AccountView) : Prop :=
  ∀ x ∈ v.letters, x.id = id → x.scanned = false ∧ x.longPoint = false

theorem AccountView.Kept.unscanned {s : State} (h : (accountView s).Kept) {id : LetterId} {l : Letter}
    (hl : findLetter id s = some l) (hr : l.results = none) (hp : l.longPoint = none) :
    (accountView s).Unscanned id := by
  obtain ⟨hm, hid⟩ := stage_of_found hl
  intro x hx e
  rw [h.unique hx hm (e.trans hid.symm)]
  simp [Letter.stage, hr, hp]

/-- What the end of one letter's scan writes leaves the other letters unscanned. -/
theorem RecordOnly.unscanned {id j : LetterId} {s t : State} (h : RecordOnly id s t) (hj : j ≠ id)
    (hu : (accountView s).Unscanned j) : (accountView t).Unscanned j := by
  obtain ⟨f, hf, ht⟩ := h
  intro x hx e
  obtain ⟨m, hm, rfl⟩ := List.mem_map.1 hx
  rw [ht] at hm
  obtain ⟨l, hl, rfl⟩ := List.mem_map.1 hm
  by_cases hid : l.id = id
  · simp only [hid, beq_self_eq_true, if_true] at e ⊢
    exact absurd ((e.symm.trans (hf l).id_eq).trans hid) hj
  · simp only [hid, beq_iff_eq, if_false] at e ⊢
    exact hu _ (List.mem_map_of_mem hl) e

/-- A record's parts short of the verdict move on in their order. -/
theorem AccountView.Kept.advance {v : AccountView} (h : v.Kept) {id : LetterId} {g : Stage → Stage}
    (hid : ∀ x, (g x).id = x.id) (hg : ∀ x ∈ v.letters, x.id = id → (g x).pocket = x.pocket ∧
      (g x).judged = x.judged ∧ (x.scanned = true → (g x).scanned = true) ∧ (g x).InOrder) :
    ({ v with letters := restaged id g v.letters } : AccountView).Kept :=
  h.restage hid (fun x hx e => ⟨(hg x hx e).1, (hg x hx e).2.2.2⟩) fun i hi =>
    (h.held i hi).restaged hid fun x hx e _ hs hj =>
      ⟨(hg x hx e).2.2.1 hs, (hg x hx e).2.1.trans hj⟩

/-! ### The verdict (R75, R85 to R88) -/

theorem Verdict.tally_uncounted (v : Verdict) : v.tally ∉ goneTallies := by
  rw [mem_goneTallies]
  unfold Verdict.tally
  split <;> simp

/-- The stage of a letter whose verdict is written, with its pocket decision point or without. -/
def Stage.judgedWith (deciding : Bool) (x : Stage) : Stage := { x with judged := true, deciding := deciding }

theorem verdictCounted_accountView (l : Letter) (v : Verdict) (s : State) : accountView (verdictCounted l v s) =
    { accountView s with
      letters := restaged l.id (.judgedWith (decisionPoint s.prl.profile l (routeOf v)).isSome) (accountView s).letters
      held := if s.held = some l.id then none else s.held } := by
  simp only [verdictCounted]
  rw [bump_accountView v.tally_ne_inducted v.tally_uncounted]
  exact congrArg (fun w : AccountView => { w with held := if s.held = some l.id then none else s.held })
    (updateLetter_restaged (f := Letter.judged v (decisionPoint s.prl.profile l (routeOf v)))
      (g := .judgedWith (decisionPoint s.prl.profile l (routeOf v)).isSome) (fun _ => rfl) l.id s)

theorem judgedWith_inOrder {x : Stage} (h : x.InOrder) (hs : x.scanned = true) (hj : x.judged = false) (b : Bool) :
    (x.judgedWith b).pocket = x.pocket ∧ (x.judgedWith b).InOrder := by
  obtain ⟨hp, -⟩ := h.pocket hj
  refine ⟨rfl, h.longPoint, fun e => ?_, fun e => ?_, fun e => absurd hp e⟩
  · exact absurd (hs.symm.trans e) (by simp)
  · exact absurd (show true = false from e) (by simp)

/-- Writing the verdict of an unjudged letter, which may be the held one, keeps the account. -/
theorem verdictCounted_kept {l : Letter} {s : State} (v : Verdict) (h : (accountView s).Kept)
    (hl : (accountView s).Unjudged l.id) : (accountView (verdictCounted l v s)).Kept := by
  obtain ⟨y, hy, hid, hs, hj⟩ := hl
  rw [verdictCounted_accountView]
  refine h.restage (by exact fun _ => rfl) (fun x hx e => ?_) fun i hi => ?_
  · rw [h.unique hx hy (e.trans hid.symm)]
    exact judgedWith_inOrder (h.records y hy) hs hj _
  · have hne : s.held = some i ∧ i ≠ l.id := by
      split at hi
      · cases hi
      · next hn => exact ⟨hi, fun e => hn (e ▸ hi)⟩
    exact (h.held i hne.1).restaged (by exact fun _ => rfl) fun x _ _ e => absurd e hne.2

/-- A record's destination is written, its decision point gone. -/
def Stage.sent (k : PocketNo) (x : Stage) : Stage := { x with pocket := some k, deciding := false }

theorem Stage.InOrder.sent {x : Stage} (h : x.InOrder) (hj : x.judged = true) (k : PocketNo) : (x.sent k).InOrder :=
  ⟨h.longPoint, h.judged, fun e => absurd (hj.symm.trans e) (by simp), fun _ => rfl⟩

theorem handToPockets_kept {l : Letter} {r : Route} {s : State} (h : (accountView s).Kept)
    (hl : r = .cull → ∃ x ∈ (accountView s).letters, x.id = l.id ∧ x.pocket = none ∧ x.judged = true ∧
      x.deciding = false) : (accountView (handToPockets l r s)).Kept := by
  unfold handToPockets
  split
  · obtain ⟨x, hx, hid, hp, hj, hd⟩ := hl rfl
    refine (assignPocket_emptied 0 _).kept ?_
    rw [updateLetter_restaged (g := fun x => { x with pocket := some 0 }) (fun _ => rfl), ← hid]
    refine h.send (k := 0) hx hp hj (fun _ => rfl) (fun _ => rfl) ?_ fun _ e => absurd e (by decide)
    have := (h.records x hx).sent hj 0
    rwa [Stage.sent, ← hd] at this
  · exact h

theorem writeVerdict_kept {l : Letter} {s : State} (v : Verdict) (h : (accountView s).Kept)
    (hl : (accountView s).Unjudged l.id) : (accountView (writeVerdict l v s)).Kept := by
  rw [writeVerdict_eq]
  refine handToPockets_kept ?_ fun hr => ?_
  · rw [handToCancel_accountView]
    exact verdictCounted_kept v h hl
  · obtain ⟨y, hy, hid, -, hj⟩ := hl
    rw [handToCancel_accountView, verdictCounted_accountView, hr]
    refine ⟨_, List.mem_map_of_mem hy, ?_⟩
    rw [if_pos hid]
    exact ⟨hid, ((h.records y hy).pocket hj).1, rfl, rfl⟩

theorem evaluate_kept {id : LetterId} {s : State} (h : (accountView s).Kept)
    (hl : ∀ x ∈ (accountView s).letters, x.id = id → x.scanned = true ∧ x.judged = false) :
    (accountView (evaluate id s)).Kept := by
  unfold evaluate
  split
  · exact h
  · next l hf =>
    obtain ⟨hm, hid⟩ := stage_of_found hf
    have hu : (accountView s).Unjudged id := ⟨_, hm, hid, hl _ hm hid⟩
    have hw : ∀ v, (accountView (writeVerdict l v s)).Kept := fun v =>
      writeVerdict_kept v h (by rwa [findLetter_id hf])
    split
    · exact hw _
    · split
      · split
        · exact hw _
        · exact hw _
      · split
        · exact hw _
        · split
          · exact hw _
          · exact { h with held := fun i hi => Option.some.inj hi ▸ hu }

theorem heldLetter_unjudged {s : State} {l : Letter} (h : (accountView s).Kept) (hl : heldLetter s = some l) :
    (accountView s).Unjudged l.id := by
  obtain ⟨id, hid, hf⟩ := Option.bind_eq_some_iff.1 hl
  exact h.held l.id (hid.trans (congrArg some (findLetter_id hf).symm))

theorem endHold_kept {s : State} (close : Bool) (h : (accountView s).Kept) :
    (accountView (endHold close s)).Kept := by
  unfold endHold
  split
  · exact h
  · next l hl => split <;> exact writeVerdict_kept _ h (heldLetter_unjudged h hl)

theorem reachPairPoint_kept {s : State} (h : (accountView s).Kept) : (accountView (reachPairPoint s)).Kept := by
  unfold reachPairPoint
  split
  · exact h
  · next l hl =>
    split
    · exact writeVerdict_kept _ h (heldLetter_unjudged h hl)
    · exact h

theorem reachVerdictLimit_kept {s : State} (h : (accountView s).Kept) :
    (accountView (reachVerdictLimit s)).Kept := by
  unfold reachVerdictLimit
  split
  · exact h
  · next l hl =>
    split
    · exact writeVerdict_kept _ h (heldLetter_unjudged h hl)
    · exact h

/-! ### Scans and lengths (R11, R12, R64, R69, R70) -/

theorem resultsWritten_accountView (id : LetterId) (s : State) : accountView (resultsWritten id s) =
    { accountView s with
      letters := restaged id (fun x => { x with scanned := true }) (accountView s).letters } := by
  obtain ⟨ht, -, hp, hr, hh⟩ := resultsWritten_frame id s
  rw [← updateLetter_restaged (f := fun l => { l with results := some (scanResults id s) }) fun _ => rfl]
  exact accountView_of_frame ⟨ht, by simp [hh], by simp [hp], by simp [hr], by simp [resultsWritten, lineView]⟩

theorem completeScan_kept {id : LetterId} {s : State} (h : (accountView s).Kept)
    (hu : (accountView s).Unscanned id) : (accountView (completeScan id s)).Kept := by
  rw [completeScan_eq]
  refine evaluate_kept ?_ fun x hx e => ?_
  · rw [resultsWritten_accountView]
    refine h.advance (by exact fun _ => rfl) fun x hx e => ⟨rfl, rfl, fun _ => rfl, ?_⟩
    obtain ⟨-, h2, h3, h4⟩ := h.records x hx
    obtain ⟨hs, hp⟩ := hu x hx e
    exact ⟨fun hn => absurd (hp.symm.trans hn) (by simp), nofun, h3, h4⟩
  · rw [resultsWritten_accountView] at hx
    obtain ⟨y, hy, rfl⟩ := mem_restaged hx
    by_cases hid : y.id = id
    · rw [if_pos hid]
      exact ⟨rfl, (h.records y hy).judged (hu y hy hid).1⟩
    · rw [if_neg hid] at e
      exact absurd e hid

theorem markLong_kept {l : Letter} {s : State} (h : (accountView s).Kept) (hl : l ∈ s.trk.letters)
    (hp : l.longPoint ≠ none) : (accountView (markLong l.id s)).Kept := by
  have hm : l.stage ∈ (accountView s).letters := List.mem_map_of_mem hl
  have hs : l.stage.scanned = false := ((h.records _ hm).longPoint (Option.isSome_iff_ne_none.2 hp)).2
  have hv := updateLetter_restaged (f := fun l => { l with flags := { l.flags with long := true }, longPoint := none })
    (g := fun x => { x with longPoint := false }) (fun _ => rfl) l.id s
  refine completeScan_kept ?_ fun x hx e => ?_
  · rw [hv]
    refine h.advance (by exact fun _ => rfl) fun x hx _ => ⟨rfl, rfl, id, ?_⟩
    obtain ⟨-, h2, h3, h4⟩ := h.records x hx
    exact ⟨nofun, h2, h3, h4⟩
  · rw [hv] at hx
    obtain ⟨y, hy, rfl⟩ := mem_restaged hx
    by_cases hid : y.id = l.id
    · rw [if_pos hid, h.unique hy hm hid]
      exact ⟨hs, rfl⟩
    · rw [if_neg hid] at e
      exact absurd e hid

theorem reachLongPoint_kept {s : State} (h : (accountView s).Kept) : (accountView (reachLongPoint s)).Kept := by
  unfold reachLongPoint
  split
  · next l hl =>
    refine markLong_kept h (List.mem_of_find?_eq_some hl) fun hn => ?_
    have := List.find?_some hl
    simp [hn, due] at this
  · exact h

theorem scanEndsBy_record {p : Profile} {pos : Pos} {l : Letter} (h : scanEndsBy p pos l = true) :
    l.results = none ∧ l.length ≠ none := by
  simp only [scanEndsBy, Bool.and_eq_true, Option.isNone_iff_eq_none] at h
  refine ⟨h.1, fun hn => ?_⟩
  simp [completionOf, hn, due] at h

/-- A letter whose scan a flash completes has its length, and so no LONG point. -/
theorem unscanned_of_scanEndsBy {s : State} (h : (accountView s).Kept) {id : LetterId} {l : Letter} {p : Profile}
    {pos : Pos} (hl : findLetter id s = some l) (he : scanEndsBy p pos l = true) : (accountView s).Unscanned id := by
  obtain ⟨hr, hlen⟩ := scanEndsBy_record he
  refine h.unscanned hl hr ?_
  by_contra hp
  exact hlen (((Letter.stage_inOrder l).1 (h.records _ (stage_of_found hl).1)).longPoint hp).1

theorem completeIfPassed_kept {id : LetterId} {s : State} (h : (accountView s).Kept) :
    (accountView (completeIfPassed id s)).Kept := by
  unfold completeIfPassed
  split
  · next hl _ =>
    split
    · next he => exact completeScan_kept h (unscanned_of_scanEndsBy h hl he)
    · exact h
  · exact h

theorem setLength_accountView (id : LetterId) (s : State) : accountView (setLength id s) =
    { accountView s with
      letters := restaged id (fun x => { x with measured := true, longPoint := false }) (accountView s).letters } :=
  updateLetter_restaged (by exact fun _ => rfl) id s

theorem measureLetter_kept {l : Letter} {s : State} (h : (accountView s).Kept) (hl : l ∈ s.trk.letters) :
    (accountView (measureLetter l s)).Kept := by
  have hlong : (accountView (if due s.trk.belt l.longPoint then markLong l.id s else s)).Kept := by
    split
    · next hd => exact markLong_kept h hl fun hn => by simp [hn, due] at hd
    · exact h
  simp only [measureLetter]
  generalize (if due s.trk.belt l.longPoint then markLong l.id s else s) = u at hlong ⊢
  have hlen : (accountView (setLength l.id u)).Kept := by
    rw [setLength_accountView]
    refine hlong.advance (by exact fun _ => rfl) fun x hx _ => ⟨rfl, rfl, id, ?_⟩
    obtain ⟨-, h2, h3, h4⟩ := hlong.records x hx
    exact ⟨nofun, h2, h3, h4⟩
  have hset : ∀ x : Option Letter, (accountView (match x with
      | some m => setReleasePoints m (setLength l.id u)
      | none => setLength l.id u)).Kept := by
    rintro (_ | x)
    · exact hlen
    · simpa using hlen
  exact completeIfPassed_kept (hset _)

theorem measuredLetter_listed {s : State} {l : Letter} (h : measuredLetter s = some l) : l ∈ s.trk.letters := by
  obtain ⟨id, -, hf⟩ := Option.bind_eq_some_iff.1 h
  exact List.mem_of_find?_eq_some hf

theorem e0TrailingEdge_kept {s : State} (h : (accountView s).Kept) : (accountView (e0TrailingEdge s)).Kept := by
  have hm : (accountView (match measuredLetter s with
      | some l => measureLetter l s
      | none => s)).Kept := by
    split
    · next l hl => exact measureLetter_kept h (measuredLetter_listed hl)
    · exact h
  unfold e0TrailingEdge
  split
  · exact h
  · exact h
  all_goals exact hm

/-- A flash completes the scans of distinct letters, one after another. -/
theorem completeScans_kept {ids : List LetterId} (hn : ids.Nodup) {s : State} (h : (accountView s).Kept)
    (hu : ∀ id ∈ ids, (accountView s).Unscanned id) :
    (accountView (ids.foldl (fun s id => completeScan id s) s)).Kept := by
  induction ids generalizing s with
  | nil => exact h
  | cons id ids ih =>
    obtain ⟨hid, hn⟩ := List.nodup_cons.1 hn
    refine ih hn (completeScan_kept h (hu id (by simp))) fun j hj => ?_
    refine (completeScan_record id s).unscanned ?_ (hu j (List.mem_cons_of_mem _ hj))
    rintro rfl
    exact hid hj

theorem completedBy_unscanned {pos : Pos} {s : State} (h : (accountView s).Kept) :
    (completedBy pos s).Nodup ∧ ∀ id ∈ completedBy pos s, (accountView s).Unscanned id := by
  have hids : (s.trk.letters.map (·.id)).Nodup := ((accountKept_iff s).2 h).ids
  refine ⟨hids.sublist (List.filter_sublist.map _), fun id hid => ?_⟩
  obtain ⟨l, hl, rfl⟩ := List.mem_map.1 hid
  obtain ⟨hl, he⟩ := List.mem_filter.1 hl
  simp only [Bool.and_eq_true] at he
  obtain ⟨m, hm⟩ := Option.isSome_iff_exists.1 (List.find?_isSome (p := fun x => x.id == l.id) |>.2 ⟨l, hl, by simp⟩)
  have hml : m = l := List.inj_on_of_nodup_map hids (List.mem_of_find?_eq_some hm) hl (findLetter_id hm)
  exact unscanned_of_scanEndsBy h hm (hml ▸ he.1)

theorem takeFlash_kept {s : State} (h : (accountView s).Kept) : (accountView (takeFlash s)).Kept := by
  have hm : ∀ pos, (accountView (makeFlash pos s)).Kept := fun pos => by
    simp only [makeFlash]
    rw [show ∀ u, accountView (beginStep pos u) = accountView u from fun u => accountView_of_frame (by simp)]
    have hv : accountView (settleStep .bl (settleStep .bu (settleStep .al (settleStep .au
        (pulseLamps pos (overrun .b (overrun .a s))))))) = accountView s := accountView_of_frame (by simp)
    generalize settleStep .bl _ = u at hv ⊢
    rw [← hv] at h
    exact completeScans_kept (completedBy_unscanned h).1 h (completedBy_unscanned h).2
  unfold takeFlash
  split
  · split
    · exact hm _
    · exact h
  · exact h

/-! ### Induction (R9, R10) -/

theorem bump_inducted (s : State) :
    accountView (bump .inducted s) = { accountView s with inducted := tallySucc (accountView s).inducted } := by
  have hg : (accountView (bump .inducted s)).gone = (accountView s).gone := by
    funext y
    simp only [accountView, tally_bump]
    split
    · next h => rw [if_neg (by rintro rfl; simp [mem_goneTallies] at h)]
    · rfl
  have hi : (accountView (bump .inducted s)).inducted = tallySucc (accountView s).inducted := by
    simp [accountView, tally_bump, tallySucc]
  change ({ accountView s with
    inducted := (accountView (bump .inducted s)).inducted
    gone := (accountView (bump .inducted s)).gone } : AccountView) = _
  rw [hg, hi]

theorem induct_kept {s : State} (h : (accountView s).Kept) (hn : ∀ l ∈ s.trk.letters, l.id ≠ s.trk.nextId) :
    (accountView (induct s)).Kept := by
  simp only [induct, resumeDrain_accountView]
  refine endHold_kept _ ?_
  have ha : accountView (addRecord (newLetter s) s) =
      { accountView s with letters := (accountView s).letters ++ [(newLetter s).stage] } := by
    change { accountView s with letters := (s.trk.letters ++ [newLetter s]).map Letter.stage } = _
    rw [List.map_append]
    rfl
  rw [refreshListHigh_accountView, bump_inducted, ha]
  refine h.join (fun x hx => ?_) ⟨fun _ => ⟨rfl, rfl⟩, fun _ => rfl, fun _ => ⟨rfl, rfl⟩, fun _ => rfl⟩ rfl
  obtain ⟨l, hl, rfl⟩ := List.mem_map.1 hx
  exact hn l hl

/-! ### The pocket decision (R121) -/

/-- A bank pocket is chosen only below its limit; else the choice is pocket 9. -/
theorem choosePocket_room {c : DestClass} {s : State} {k : PocketNo} (hk : choosePocket c s = k)
    (h : isBank k = true) :
    (s.pkm.pockets[k]).delivered + (s.pkm.pockets[k]).pending < s.prl.profile.limits[k] := by
  unfold choosePocket at hk
  simp only at hk
  cases hf : (s.prl.profile.classLists.get c).find? fun k => (s.pkm.pockets[k]).state == .open &&
      (s.pkm.pockets[k]).trayClass == some c &&
      decide ((s.pkm.pockets[k]).delivered + (s.pkm.pockets[k]).pending < s.prl.profile.limits[k]) with
  | none =>
    rw [hf] at hk
    subst hk
    exact absurd h (by decide)
  | some j =>
    rw [hf] at hk
    obtain rfl : j = k := hk
    have := List.find?_some hf
    simp only [Bool.and_eq_true, decide_eq_true_eq] at this
    exact this.2

theorem TraysEmptied.withLetters {v w : AccountView} (h : TraysEmptied v w) (xs : List Stage) :
    TraysEmptied { v with letters := xs } { w with letters := xs } := by
  obtain ⟨d, rfl, hd⟩ := h
  exact ⟨d, rfl, hd⟩

theorem TraysEmptied.letters {v w : AccountView} (h : TraysEmptied v w) : w.letters = v.letters := by
  obtain ⟨d, rfl, -⟩ := h
  rfl

theorem decidePocket_kept {l : Letter} {s : State} (h : (accountView s).Kept) (hl : findLetter l.id s = some l)
    (hp : l.pdecPoint ≠ none) : (accountView (decidePocket l s)).Kept := by
  obtain ⟨hm, -⟩ := stage_of_found hl
  have hdec : l.stage.deciding = true := Option.isSome_iff_ne_none.2 hp
  have hj : l.stage.judged = true := by
    by_contra hn
    exact absurd (hdec.symm.trans ((h.records _ hm).pocket (by simpa using hn)).2) (by simp)
  have hnone : l.stage.pocket = none := by
    by_contra hn
    exact absurd (hdec.symm.trans ((h.records _ hm).decided hn)) (by simp)
  rw [decidePocket_destination hl, driveOwnedBank_accountView,
    updateLetter_restaged (f := Letter.sentTo (destinationOf l s)) (g := .sent (destinationOf l s).pocket) fun _ => rfl]
  have ha := assignPocket_emptied (destinationOf l s).pocket s
  rw [ha.letters]
  refine (ha.withLetters _).kept (h.send hm hnone hj (fun _ => rfl) (fun _ => rfl) ((h.records _ hm).sent hj _)
    fun _ hb => choosePocket_room rfl hb)

theorem reachDecision_kept {id : LetterId} {s : State} (h : (accountView s).Kept) :
    (accountView (reachDecision id s)).Kept := by
  unfold reachDecision
  split
  · next l hl =>
    split
    · next hd =>
      simp only
      have hs : (accountView (settlePrint id s)).Kept := by rwa [settlePrint_accountView]
      split
      · next m hm =>
        refine decidePocket_kept hs (by rwa [findLetter_id hm]) fun hn => ?_
        have hv : m.stage ∈ (accountView s).letters := settlePrint_accountView id s ▸ (stage_of_found hm).1
        have he := h.unique hv (stage_of_found hl).1 ((findLetter_id hm).trans (findLetter_id hl).symm)
        have hdec : l.pdecPoint.isSome = m.pdecPoint.isSome := congrArg Stage.deciding he.symm
        rw [hn] at hdec
        rw [Option.isSome_eq_false_iff.1 hdec |> Option.isNone_iff_eq_none.1] at hd
        simp [due] at hd
      · exact hs
    · exact h
  · exact h

end Sys2Proof.Machine
end

section
/-! The account as letters leave: deliveries, losses, FAULTED entry, and the arrivals and expiries that bring them
about. -/

namespace Sys2Proof.Machine

/-! ### A removal is counted (R123, R125) -/

theorem pending_less (f : PocketNo → Nat) (k : PocketNo) :
    Function.update f k (f k - 1) = fun j => f j - if some k = some j then 1 else 0 := by
  funext j
  by_cases e : j = k
  · subst e; simp
  · simp [e, Ne.symm e]

theorem countLoss_counted (l : Letter) {t : Tally} (ht : t ∈ goneTallies) (s : State) :
    TraysEmptied ((accountView s).count l.stage t) (accountView (countLoss l t s)) := by
  unfold countLoss
  simp only
  split
  · next d hd =>
    rw [refreshCatchFull_accountView]
    refine .trans (.trans (.of_eq ?_) (updatePocket_lessened
      (n := (accountView (bump t s)).pending d.pocket - 1) le_rfl rfl)) (settleDraining_emptied d.pocket _)
    rw [pending_less, bump_gone ht, AccountView.count, Letter.stage, hd]
    rfl
  · next hd =>
    refine .of_eq ?_
    rw [bump_gone ht, AccountView.count, Letter.stage, hd]
    simp

theorem countDelivery_counted {l : Letter} {k : PocketNo} (hp : l.stage.pocket = some k) (s : State) :
    TraysEmptied { (accountView s).count l.stage (.delivered k) with
        delivered := Function.update (accountView s).delivered k (satSucc ((accountView s).delivered k)) }
      (accountView (countDelivery l k s)) := by
  have hn : ∀ p : Pocket, (notePocketLetter l p).delivered = p.delivered ∧ (notePocketLetter l p).pending = p.pending :=
    fun p => Prod.mk.injEq .. ▸ congrArg Prod.snd (notePocketLetter_load l p)
  have hu : accountView (bump (.delivered k) (updatePocket k (fun p =>
      notePocketLetter l { p with pending := p.pending - 1, delivered := satSucc p.delivered }) s)) =
      { (accountView s).count l.stage (.delivered k) with
        delivered := Function.update (accountView s).delivered k (satSucc ((accountView s).delivered k)) } := by
    rw [bump_gone ((mem_goneTallies _).2 (.inl ⟨k, rfl⟩)), updatePocket_accountView, (hn _).1, (hn _).2,
      AccountView.count, hp, ← pending_less]
    rfl
  simp only [countDelivery, refreshCatchFull_accountView]
  rw [← hu]
  refine .trans ?_ (settleDraining_emptied k _)
  split
  · exact becomeFull_emptied k _
  · exact .refl _

/-- A letter that has left the list is counted as its disposition says. -/
theorem countRemoval_kept {l : Letter} {d : Disposition} {v : AccountView} {s : State} (h : v.Kept)
    (hl : l.stage ∈ v.letters) (hh : v.held ≠ some l.id) (hv : accountView s = v.drop l.stage)
    (hd : d = .delivered → l.dest ≠ none ∧ v.loading = false) : (accountView (countRemoval l d s)).Kept := by
  have hloss : ∀ t ∈ goneTallies, (accountView (countLoss l t s)).Kept := fun t ht => by
    have hc := countLoss_counted l ht s
    rw [hv] at hc
    exact hc.kept (h.remove hl ht hh)
  unfold countRemoval
  split
  · obtain ⟨hdest, hload⟩ := hd rfl
    split
    · next x hx =>
      have hp : l.stage.pocket = some x.pocket := by rw [Letter.stage, hx]; rfl
      have hc := countDelivery_counted hp s
      rw [hv] at hc
      exact hc.kept (h.deliver hl hp hh hload)
    · next hn => exact absurd hn hdest
  · exact hloss _ (by decide)
  · exact hloss _ (by decide)

theorem dropRecord_accountView (l : Letter) (s : State) :
    accountView (dropRecord l s) = (accountView s).drop l.stage := by
  change { accountView s with letters := (s.trk.letters.filter (·.id != l.id)).map Letter.stage } =
    { accountView s with letters := (s.trk.letters.map Letter.stage).filter (·.id != l.id) }
  rw [List.filter_map]
  rfl

theorem removeRecord_kept {l : Letter} {d : Disposition} {s : State} (h : (accountView s).Kept)
    (hl : l ∈ s.trk.letters) (hh : s.held ≠ some l.id)
    (hd : d = .delivered → l.dest ≠ none ∧ s.lnc.line ≠ .loading) : (accountView (removeRecord l d s)).Kept := by
  simp only [removeRecord, reportRemoval_accountView]
  refine countRemoval_kept h (List.mem_map_of_mem hl) hh ?_ fun e => ⟨(hd e).1, decide_eq_false (hd e).2⟩
  rw [refreshListHigh_accountView, releaseUnmeasured_accountView, ← dropRecord_accountView]
  exact dropScan_cases (P := fun u => accountView u = accountView (dropRecord l s)) l _ rfl rfl

/-! ### FAULTED entry (R28, R160, R161) -/

theorem loseRecord_kept {l : Letter} {s : State} (h : (accountView s).Kept) (hl : l ∈ s.trk.letters)
    (hh : s.held = none) : (accountView (loseRecord s l)).Kept := by
  rw [loseRecord, reportRemoval_accountView]
  refine countRemoval_kept h (List.mem_map_of_mem hl) (fun e => ?_) ?_ nofun
  · exact absurd (hh.symm.trans e) (by simp)
  · rw [refreshListHigh_accountView, dropRecord_accountView]

/-- Every record leaves, oldest first, each counted as it goes. -/
theorem loseRecords_kept {ls : List Letter} {s : State} (h : (accountView s).Kept) (hl : s.trk.letters = ls)
    (hh : s.held = none) : (accountView (ls.foldl loseRecord s)).Kept := by
  induction ls generalizing s with
  | nil => exact h
  | cons l ls ih =>
    have hids : (s.trk.letters.map (·.id)).Nodup := ((accountKept_iff s).2 h).ids
    rw [hl] at hids
    obtain ⟨hn, -⟩ := List.nodup_cons.1 hids
    refine ih (loseRecord_kept h (hl ▸ List.mem_cons_self ..) hh) ?_ (by simpa using hh)
    rw [loseRecord_letters, hl, List.filter_cons_of_neg (by simp)]
    exact List.filter_eq_self.2 fun m hm => bne_iff_ne.2 fun e => hn (List.mem_map.2 ⟨m, hm, e⟩)

theorem loseAllRecords_kept {s : State} (h : (accountView s).Kept) (hh : s.held = none) :
    (accountView (loseAllRecords s)).Kept := loseRecords_kept h rfl hh

/-- A verdict held no longer. -/
theorem AccountView.Kept.unheld {v : AccountView} (h : v.Kept) : ({ v with held := none } : AccountView).Kept :=
  { h with held := nofun }

theorem settleFaulted_accountView (s : State) : accountView (settleFaulted s) = accountView s := by
  rw [settleFaulted, settleHeads, refreshHeadDown_accountView]
  rfl

theorem enterFaulted_kept {s : State} (cause : LineCause) (h : (accountView s).Kept) :
    (accountView (enterFaulted cause s)).Kept := by
  by_cases hl : s.lnc.line = .faulted ∨ s.lnc.line = .loading
  · rwa [enterFaulted, if_pos hl]
  · obtain ⟨h1, h2⟩ := not_or.1 hl
    obtain ⟨b, hb, he⟩ := enterFaulted_eq (cause := cause) h1 h2
    have hv : accountView b = accountView s := by
      rw [hb, raise_accountView, raise_accountView]
      exact updateLine_accountView (by simp [LineController.faultEntry, h2])
    have hp : accountView (abortPrints (abandonCalibration (stopSampling b))) =
        { accountView s with held := none } := by
      rw [← hv]
      exact (accountView_of_frame (s := stopSampling b) (by simp)).trans rfl
    have hlost := loseAllRecords_kept (s := abortPrints (abandonCalibration (stopSampling b))) (hp ▸ h.unheld)
      (congrArg AccountView.held hp)
    rw [he]
    split
    · exact hlost
    · rwa [settleFaulted_accountView]

/-! ### The line's own moves (R151, R152, R157 to R159) -/

theorem enterStopped_kept {s : State} (h : (accountView s).Kept) (hs : s.lnc.line ≠ .loading) :
    (accountView (enterStopped s)).Kept := by
  have hv : accountView (enterStopped s) = { accountView s with held := none } := by
    simp only [enterStopped]
    rw [enterLine_accountView (by simp) (by simpa using hs)]
    rfl
  exact hv ▸ h.unheld

theorem checkDrain_kept {s : State} (h : (accountView s).Kept) : (accountView (checkDrain s)).Kept := by
  unfold checkDrain
  split
  · next ms _ =>
    split
    · next hc =>
      simp only [endDrain]
      have hu := updateLine_accountView (s := s) (f := fun c => { c with
        drainTimer := .held ms, below := 0, stopTimer := some s.prl.profile.stopTimeout }) .rfl
      split
      · rwa [hu]
      · exact enterStopped_kept (hu.symm ▸ h) (by simp [hc.1])
    · exact h
  all_goals exact h

theorem enterStopping_kept {s : State} (h : (accountView s).Kept) (hs : s.lnc.line ≠ .loading) :
    (accountView (enterStopping s)).Kept := by
  refine checkDrain_kept ?_
  rwa [enterLine_accountView (by simp) (by exact hs), updateLine_accountView .rfl]

theorem startTimeout_kept {s : State} (h : (accountView s).Kept) : (accountView (startTimeout s)).Kept := by
  simp only [startTimeout]
  split
  · next hc =>
    split
    · rwa [raise_accountView, updateLine_accountView .rfl, enterRunning_accountView (by simp [hc.1])]
    · exact enterFaulted_kept _ h
  · exact h

theorem drainTimeout_kept {s : State} (h : (accountView s).Kept) : (accountView (drainTimeout s)).Kept := by
  unfold drainTimeout
  split
  · split
    · exact enterFaulted_kept _ h
    · exact h
  all_goals exact h

theorem stopFail_kept {s : State} (h : (accountView s).Kept) : (accountView (stopFail s)).Kept := by
  unfold stopFail
  split
  · next hc =>
    split
    · exact enterFaulted_kept _ h
    · exact enterStopped_kept h (by simp [hc.1])
  · exact h

theorem beltStill_kept {s : State} (h : (accountView s).Kept) : (accountView (beltStill s)).Kept := by
  refine beltStill_cases (P := fun u => (accountView u).Kept) s h h (fun hs => ?_) fun _ => ?_
  · exact enterStopped_kept (s := { s with trk := { s.trk with moving := false } }) h (by simp [hs])
  · rwa [settleFaulted_accountView]

theorem superviseSpeed_kept {s : State} (h : (accountView s).Kept) : (accountView (superviseSpeed s)).Kept := by
  refine superviseSpeed_cases (P := fun u => (accountView u).Kept) s h (fun _ n => ?_) (fun n => ?_) fun _ n => ?_
  · rwa [checkStart_accountView, updateLine_accountView .rfl]
  · rwa [updateLine_accountView .rfl]
  · exact enterFaulted_kept _ (by rwa [updateLine_accountView .rfl])

/-! ### Arrivals and expiries (R17 to R20, R26, R27) -/

theorem retire_kept {l : Letter} {d : Disposition} {s : State} (h : (accountView s).Kept) (hl : l ∈ s.trk.letters)
    (hp : l.dest ≠ none) (hd : d = .delivered → s.lnc.line ≠ .loading) : (accountView (retire l d s)).Kept := by
  refine checkDrain_kept (removeRecord_kept h hl (fun hheld => ?_) fun e => ⟨hp, hd e⟩)
  have hm : l.stage ∈ (accountView s).letters := List.mem_map_of_mem hl
  obtain ⟨x, hx, hid, -, hj⟩ := h.held _ hheld
  rw [h.unique hx hm hid] at hj
  exact hp (Option.map_eq_none_iff.1 ((h.records _ hm).pocket hj).1)

theorem deliveryEye_dest {l : Letter} {e : Eye} (h : deliveryEye l e = true) : l.dest ≠ none := by
  intro hn
  simp [deliveryEye, ownPocketEye, hn] at h

theorem arrive_kept {l : Letter} {e : Eye} {s : State} (h : (accountView s).Kept) (hs : s.lnc.line ≠ .loading)
    (hl : l ∈ s.trk.letters) : (accountView (arrive l e s)).Kept := by
  have hu : accountView (updateLetter l.id (fun x => { x with arrived := x.arrived ++ [e] }) s) = accountView s :=
    updateLetter_accountView (by exact fun _ => rfl) _ _
  have hk := hu.symm ▸ h
  simp only [arrive]
  split
  · next hdel =>
    split
    · exact hk
    · split
      · next m hm =>
        obtain ⟨hst, hid⟩ := stage_of_found hm
        have he : m.stage = l.stage := h.unique (hu ▸ hst) (List.mem_map_of_mem hl) hid
        have hdest : m.dest ≠ none := fun hn => deliveryEye_dest hdel (by
          have := congrArg Stage.pocket he
          rw [Letter.stage, hn] at this
          exact Option.map_eq_none_iff.1 this.symm)
        exact retire_kept hk (List.mem_of_find?_eq_some hm) hdest fun _ => hs
      · exact hk
  · split
    · rwa [resynchronise_accountView]
    · exact hk

theorem expire_kept {l : Letter} {e : Eye} {s : State} (h : (accountView s).Kept) (hl : l ∈ s.trk.letters) :
    (accountView (expire l e s)).Kept := by
  unfold expire
  split
  · next hc =>
    simp only [Bool.and_eq_true] at hc
    exact retire_kept h hl (deliveryEye_dest hc.1) nofun
  · exact enterFaulted_kept _ h

theorem reachExpiry_kept {id : LetterId} {e : Eye} {s : State} (h : (accountView s).Kept) :
    (accountView (reachExpiry id e s)).Kept := by
  unfold reachExpiry
  split
  · next hf =>
    split
    · exact expire_kept h (List.mem_of_find?_eq_some hf)
    · exact h
  · exact h

theorem expireWaiting_kept {e : Eye} (n : Nat) {s : State} (h : (accountView s).Kept) :
    (accountView (expireWaiting n e s)).Kept := by
  induction n generalizing s with
  | zero => exact h
  | succ n ih =>
    unfold expireWaiting
    split
    · next hf =>
      split
      · exact ih (expire_kept h (List.mem_of_find?_eq_some hf))
      · exact h
    · exact h

theorem eyeLeadingEdge_kept {e : Eye} {s : State} (h : (accountView s).Kept) :
    (accountView (eyeLeadingEdge e s)).Kept := by
  simp only [eyeLeadingEdge]
  split
  · have hx := expireWaiting_kept (e := e) (s.trk.letters.length + 1) h
    split
    · next ht =>
      split
      · exact enterFaulted_kept _ hx
      · next hf =>
        split
        · refine arrive_kept hx (fun hl => ?_) (List.mem_of_find?_eq_some hf)
          simp [eyeEdgesTaken, hl, LineState.sampling] at ht
        · exact enterFaulted_kept _ hx
    · exact hx
  · exact h

theorem e0LeadingEdge_kept {s : State} (h : (accountView s).Kept)
    (hn : ∀ l ∈ s.trk.letters, l.id ≠ s.trk.nextId) : (accountView (e0LeadingEdge s)).Kept := by
  unfold e0LeadingEdge
  split
  · exact h
  · exact h
  · exact enterFaulted_kept _ h
  · exact enterFaulted_kept _ h
  · exact enterFaulted_kept _ h
  all_goals
    split
    · exact enterFaulted_kept _ h
    · exact induct_kept h hn

theorem reachBlockedPoint_kept {s : State} (h : (accountView s).Kept) :
    (accountView (reachBlockedPoint s)).Kept := by
  unfold reachBlockedPoint
  split
  · split
    · exact enterFaulted_kept _ (by rwa [updateLetter_accountView (by exact fun _ => rfl)])
    · exact h
  · exact h

end Sys2Proof.Machine
end

section
/-! A pulled tray (R135, R136): what becomes of each letter of the list and of each pocket, and that the account is
kept. -/

namespace Sys2Proof.Machine

/-! ### One letter at the pull -/

/-- The letter is on its way to bank pocket `k` and has not reached its commitment point. -/
def Letter.reroutedBy (k : PocketNo) (l : Letter) : Bool :=
  decide (l.dest.map Destination.pocket = some k) && !decide (commitGate k ∈ l.setupReached) && isBank k

/-- The record of a letter after the pull of pocket `k`. -/
def Letter.pulled (k : PocketNo) (l : Letter) : Letter :=
  if l.dest.map Destination.pocket = some k then
    if commitGate k ∈ l.setupReached then { l with noTray := true }
    else if isBank k then { l with dest := l.dest.map fun d => { d with pocket := 9 } } else l
  else l

/-- Pocket `j`, which was `p`, once `n` letters have been sent from pocket `k` to pocket 9. -/
def reroutedPocket (k : PocketNo) (n : Nat) (j : PocketNo) (p : Pocket) : Pocket :=
  if j = k then { p with pending := p.pending - n } else if j = 9 then givenLetters 9 n p else p

theorem reroutedPocket_none (k j : PocketNo) (p : Pocket) : reroutedPocket k 0 j p = p := by
  simp [reroutedPocket, givenLetters]

theorem givenLetters_add (n m : Nat) (p : Pocket) :
    givenLetters 9 m (givenLetters 9 n p) = givenLetters 9 (n + m) p := by
  unfold givenLetters
  by_cases hn : n = 0
  · simp [hn]
  · by_cases hm : m = 0
    · simp [hm]
    · by_cases hc : p.state = .closed <;> simp [hn, hm, hc, Nat.add_assoc]

theorem reroutedPocket_add (k : PocketNo) (n m : Nat) (j : PocketNo) (p : Pocket) :
    reroutedPocket k m j (reroutedPocket k n j p) = reroutedPocket k (n + m) j p := by
  unfold reroutedPocket
  split
  · simp [Nat.sub_sub]
  · split
    · exact givenLetters_add n m p
    · rfl

theorem Letter.pulled_id (k : PocketNo) (l : Letter) : (l.pulled k).id = l.id := by
  unfold Letter.pulled
  (repeat' split) <;> rfl

theorem isBank_ne {k : PocketNo} (h : isBank k = true) : k ≠ 9 := by
  rintro rfl
  cases h

theorem assignPocket_get (k j : PocketNo) (s : State) :
    (assignPocket k s).pkm.pockets[j] = if j = k then givenLetters k 1 s.pkm.pockets[k] else s.pkm.pockets[j] := by
  simp only [assignPocket_pockets]
  split
  · next h => simp [h]
  · next h =>
    have : (k : Nat) ≠ j := fun e => h (Fin.ext e.symm)
    simp [this]

/-- The pull changes of a letter its own record alone, and of the pockets at most its own and pocket 9. -/
theorem pullLetter_effect (k : PocketNo) (l : Letter) (s : State) :
    (∃ f : Letter → Letter, f l = l.pulled k ∧ (pullLetter k l s).trk = (updateLetter l.id f s).trk) ∧
    ∀ j : PocketNo, (pullLetter k l s).pkm.pockets[j] =
      reroutedPocket k (if l.reroutedBy k then 1 else 0) j s.pkm.pockets[j] := by
  have hsame : (updateLetter l.id (fun x => x) s).trk = s.trk := by simp [updateLetter, updateList]
  by_cases hk : l.dest.map Destination.pocket = some k
  · obtain ⟨d, hd, hdk⟩ := Option.map_eq_some_iff.1 hk
    by_cases hc : commitGate k ∈ l.setupReached
    · have hr : l.reroutedBy k = false := by simp [Letter.reroutedBy, hc]
      have he : pullLetter k l s = updateLetter l.id (fun x => { x with noTray := true }) s := by
        simp [pullLetter, hd, hdk, committed, hc]
      rw [he, hr]
      refine ⟨⟨_, by simp [Letter.pulled, hk, hc], rfl⟩, fun j => ?_⟩
      simp [reroutedPocket_none]
    · by_cases hb : isBank k = true
      · have hr : l.reroutedBy k = true := by simp [Letter.reroutedBy, hk, hc, hb]
        have he : pullLetter k l s = assignPocket 9 (updatePocket k (fun p => { p with pending := p.pending - 1 })
            (updateLetter l.id (fun x => { x with dest := some { d with pocket := 9 } }) s)) := by
          simp [pullLetter, hd, hdk, committed, hc, hb]
        rw [he, hr]
        refine ⟨⟨fun x => { x with dest := some { d with pocket := 9 } }, ?_, (assignPocket_kept 9 _).1⟩, fun j => ?_⟩
        · rw [Letter.pulled, if_pos hk, if_neg hc, if_pos hb, hd]
          rfl
        · rw [assignPocket_get, updatePocket_get, updatePocket_get]
          by_cases hj : j = 9
          · simp [hj, reroutedPocket, (isBank_ne hb).symm]
          · by_cases hjk : j = k <;> simp [hj, hjk, isBank_ne hb, reroutedPocket]
      · have hr : l.reroutedBy k = false := by simp [Letter.reroutedBy, hb]
        have he : pullLetter k l s = s := by simp [pullLetter, hd, hdk, committed, hc, hb]
        rw [he, hr]
        exact ⟨⟨_, by simp [Letter.pulled, hk, hc, hb], hsame.symm⟩, fun j => by simp [reroutedPocket_none]⟩
  · have hr : l.reroutedBy k = false := by simp [Letter.reroutedBy, hk]
    have he : pullLetter k l s = s := by
      unfold pullLetter
      split
      · rfl
      · next d hd =>
        rw [hd] at hk
        exact if_pos fun e => hk (congrArg some e)
    rw [he, hr]
    exact ⟨⟨_, by simp [Letter.pulled, hk], hsame.symm⟩, fun j => by simp [reroutedPocket_none]⟩

/-! ### Every letter at the pull -/

theorem updateList_at {done ls : List Letter} {l : Letter} (hn : ((done ++ l :: ls).map (·.id)).Nodup)
    (f : Letter → Letter) : updateList l.id f (done ++ l :: ls) = done ++ f l :: ls := by
  have hsame : ∀ xs : List Letter, (∀ x ∈ xs, x.id ≠ l.id) → updateList l.id f xs = xs := fun xs hx =>
    (List.map_congr_left fun x h => by rw [if_neg (by simpa using hx x h), id_eq]).trans (List.map_id xs)
  simp only [List.map_append, List.map_cons, List.nodup_append, List.nodup_cons] at hn
  obtain ⟨-, ⟨hl, -⟩, hd⟩ := hn
  have h1 := hsame done fun x hx e => hd _ (List.mem_map_of_mem hx) _ (List.mem_cons_self ..) e
  have h2 := hsame ls fun x hx e => hl (List.mem_map.2 ⟨x, hx, e⟩)
  simp only [updateList, List.map_append, List.map_cons, beq_self_eq_true, if_true] at h1 h2 ⊢
  rw [h1, h2]

theorem pullLetters_effect (k : PocketNo) {done ls : List Letter} {s : State} (hs : s.trk.letters = done ++ ls)
    (hn : (s.trk.letters.map (·.id)).Nodup) :
    (ls.foldl (fun s l => pullLetter k l s) s).trk.letters = done ++ ls.map (Letter.pulled k) ∧
    ∀ j : PocketNo, (ls.foldl (fun s l => pullLetter k l s) s).pkm.pockets[j] =
      reroutedPocket k (ls.filter (Letter.reroutedBy k)).length j s.pkm.pockets[j] := by
  induction ls generalizing done s with
  | nil => exact ⟨by simpa using hs, fun j => by simp [reroutedPocket_none]⟩
  | cons l ls ih =>
    obtain ⟨⟨f, hf, htrk⟩, hpockets⟩ := pullLetter_effect k l s
    have hl : (pullLetter k l s).trk.letters = done ++ l.pulled k :: ls := by
      rw [htrk, ← hf, ← updateList_at (hs ▸ hn) f, ← hs]
      rfl
    obtain ⟨h1, h2⟩ := ih (s := pullLetter k l s) (done := done ++ [l.pulled k]) (by simp [hl]) (by
      rw [hl]
      rw [hs] at hn
      simpa [Letter.pulled_id] using hn)
    refine ⟨by simpa using h1, fun j => ?_⟩
    rw [List.foldl_cons, h2, hpockets, reroutedPocket_add]
    congr 1
    by_cases hr : l.reroutedBy k <;> simp [hr, Nat.add_comm]

/-! ### The pull -/

/-- The pocket of a pulled tray (R135, R137). -/
def Pocket.pulled (p : Pocket) : Pocket :=
  { p.emptied with state := if p.state = .out then .out else .noTray, trayNo := nextTrayNo p.trayNo }

/-- The pulled tray's record is in the log where there is room, and counted; the pocket is without its tray. -/
def trayPulled (k : PocketNo) (s : State) : State :=
  let t := makeTrayRecord k s.pkm.pockets[k] .pulled
  raise .pocketNoTray (updatePocket k Pocket.pulled
    (if (s.pkm.pockets[k]).state = .draining ∨ slotFree s then bump .traysClosed (appendLog t s)
      else bump .traysLostLog s))

theorem pull_eq (k : PocketNo) (s : State) : pull k s =
    refreshCatchFull ((trayPulled k s).trk.letters.foldl (fun s l => pullLetter k l s) (trayPulled k s)) := rfl

theorem trayPulled_kept (k : PocketNo) (s : State) : (trayPulled k s).trk = s.trk ∧
    ∀ j : PocketNo, (trayPulled k s).pkm.pockets[j] =
      if j = k then (s.pkm.pockets[k]).pulled else s.pkm.pockets[j] := by
  have hif : ∀ c : Prop, [Decidable c] → ∀ t, (if c then bump .traysClosed (appendLog t s) else
      bump .traysLostLog s).trk = s.trk ∧ (if c then bump .traysClosed (appendLog t s) else
      bump .traysLostLog s).pkm.pockets = s.pkm.pockets := by
    intro c _ t
    split <;> exact ⟨rfl, rfl⟩
  obtain ⟨ht, hp⟩ := hif ((s.pkm.pockets[k]).state = .draining ∨ slotFree s) (makeTrayRecord k s.pkm.pockets[k] .pulled)
  refine ⟨ht, fun j => ?_⟩
  simp only [trayPulled, raise_frame, updatePocket_get, hp]

/-- The letters and the pockets after a pull (R135, R136). -/
theorem pull_effect {k : PocketNo} {s : State} (hn : (s.trk.letters.map (·.id)).Nodup) :
    (pull k s).trk.letters = s.trk.letters.map (Letter.pulled k) ∧
    ∀ j : PocketNo, (pull k s).pkm.pockets[j] = reroutedPocket k (s.trk.letters.filter (Letter.reroutedBy k)).length j
      (if j = k then (s.pkm.pockets[k]).pulled else s.pkm.pockets[j]) := by
  obtain ⟨htrk, hpockets⟩ := trayPulled_kept k s
  obtain ⟨h1, h2⟩ := pullLetters_effect k (done := []) (ls := (trayPulled k s).trk.letters) (s := trayPulled k s) rfl
    (by rw [htrk]; exact hn)
  simp only [pull_eq, refreshCatchFull_frame]
  refine ⟨by rw [h1, htrk]; rfl, fun j => ?_⟩
  rw [h2, hpockets, htrk]

theorem pullLetter_log (k : PocketNo) (l : Letter) (s : State) :
    (pullLetter k l s).pkm.log = s.pkm.log ∧ (pullLetter k l s).pkm.tallies = s.pkm.tallies := by
  have ha : ∀ u, (assignPocket 9 u).pkm.log = u.pkm.log ∧ (assignPocket 9 u).pkm.tallies = u.pkm.tallies := fun u => by
    simp [assignPocket, updatePocket]
  unfold pullLetter
  split
  · exact ⟨rfl, rfl⟩
  · split
    · exact ⟨rfl, rfl⟩
    · split
      · exact ⟨rfl, rfl⟩
      · split
        · exact ha _
        · exact ⟨rfl, rfl⟩

/-- The letters at a pull leave the tray log and the tallies as the tray has left them. -/
theorem pull_log (k : PocketNo) (s : State) : (pull k s).pkm.log = (trayPulled k s).pkm.log ∧
    (pull k s).pkm.tallies = (trayPulled k s).pkm.tallies := by
  simp only [pull_eq, refreshCatchFull_frame]
  exact ⟨foldl_keeps (fun s l => pullLetter k l s) (·.pkm.log) _ (fun s l => (pullLetter_log k l s).1) _,
    foldl_keeps (fun s l => pullLetter k l s) (·.pkm.tallies) _ (fun s l => (pullLetter_log k l s).2) _⟩

/-! ### The account at a pull -/

/-- Of a letter's stage the pull changes at most the pocket, from `k` to 9. -/
theorem Letter.pulled_stage (k : PocketNo) (l : Letter) :
    l.reroutedBy k = true ∧ l.stage.pocket = some k ∧ k ≠ 9 ∧ (l.pulled k).stage = { l.stage with pocket := some 9 } ∨
      l.reroutedBy k = false ∧ (l.pulled k).stage = l.stage := by
  by_cases hk : l.dest.map Destination.pocket = some k
  · by_cases hc : commitGate k ∈ l.setupReached
    · exact .inr ⟨by simp [Letter.reroutedBy, hc], by simp [Letter.pulled, hk, hc, Letter.stage]⟩
    · by_cases hb : isBank k = true
      · obtain ⟨d, hd, -⟩ := Option.map_eq_some_iff.1 hk
        refine .inl ⟨by simp [Letter.reroutedBy, hk, hc, hb], hk, isBank_ne hb, ?_⟩
        rw [Letter.pulled, if_pos hk, if_neg hc, if_pos hb, hd]
        rfl
      · exact .inr ⟨by simp [Letter.reroutedBy, hb], by simp [Letter.pulled, hk, hc, hb]⟩
  · exact .inr ⟨by simp [Letter.reroutedBy, hk], by simp [Letter.pulled, hk]⟩

/-- Each letter sent from pocket `k` to pocket 9 is one fewer awaited at `k` and one more at 9. -/
theorem onWay_pulled (k j : PocketNo) (ls : List Letter) :
    onWay j (ls.map fun l => (l.pulled k).stage) + (if j = k then (ls.filter (Letter.reroutedBy k)).length else 0) =
      onWay j (ls.map Letter.stage) + if j = 9 then (ls.filter (Letter.reroutedBy k)).length else 0 := by
  induction ls with
  | nil => simp
  | cons l ls ih =>
    simp only [List.map_cons, onWay, List.countP_cons] at ih ⊢
    rcases l.pulled_stage k with ⟨hr, hp, h9, he⟩ | ⟨hr, he⟩
    · rw [List.filter_cons_of_pos hr, he, hp, List.length_cons]
      by_cases hj : j = k
      · subst hj
        simp only [h9, if_true, if_false, beq_iff_eq, Option.some.injEq, h9.symm] at ih ⊢
        omega
      · by_cases hj9 : j = 9
        · subst hj9
          simp only [hj, if_true, if_false, beq_iff_eq, Option.some.injEq, Ne.symm hj] at ih ⊢
          omega
        · simp only [hj, hj9, if_false, beq_iff_eq, Option.some.injEq, Ne.symm hj, Ne.symm hj9] at ih ⊢
          exact ih
    · rw [List.filter_cons_of_neg (by simp [hr]), he]
      omega

theorem Letter.pulled_inOrder {k : PocketNo} {l : Letter} (h : l.stage.InOrder) : (l.pulled k).stage.InOrder := by
  rcases l.pulled_stage k with ⟨-, hp, -, he⟩ | ⟨-, he⟩
  · have hp' : l.stage.pocket ≠ none := by simp [hp]
    rw [he]
    exact ⟨h.longPoint, h.judged, fun hj => absurd (h.pocket hj).1 hp', fun _ => h.decided hp'⟩
  · rwa [he]

theorem Letter.pulled_parts (k : PocketNo) (l : Letter) : (l.pulled k).stage.scanned = l.stage.scanned ∧
    (l.pulled k).stage.judged = l.stage.judged := by
  rcases l.pulled_stage k with ⟨-, -, -, he⟩ | ⟨-, he⟩ <;> simp [he]

theorem givenLetters_counts (k : PocketNo) (n : Nat) (p : Pocket) :
    (givenLetters k n p).delivered ≤ p.delivered ∧ (givenLetters k n p).pending = p.pending + n := by
  unfold givenLetters
  split
  · next h => simp [h]
  · split
    · exact ⟨Nat.zero_le _, rfl⟩
    · exact ⟨le_rfl, rfl⟩

theorem reroutedPocket_counts {k : PocketNo} {n : Nat} (hn : k = 9 → n = 0) (j : PocketNo) (p : Pocket) :
    (reroutedPocket k n j p).delivered ≤ p.delivered ∧
      (reroutedPocket k n j p).pending = p.pending - (if j = k then n else 0) + if j = 9 then n else 0 := by
  unfold reroutedPocket
  split
  · next h =>
    subst h
    refine ⟨le_rfl, ?_⟩
    split
    · next h9 => simp [hn h9]
    · simp
  · split
    · next h9 => subst h9; simpa using givenLetters_counts 9 n p
    · simp

theorem trayPulled_view (k : PocketNo) (s : State) :
    TraysEmptied (accountView s) (accountView (trayPulled k s)) := by
  have hif : ∀ c : Prop, [Decidable c] → ∀ t, accountView (if c then bump .traysClosed (appendLog t s) else
      bump .traysLostLog s) = accountView s := fun c _ t => ite_accountView
    (by rw [bump_accountView (by decide) (by decide), appendLog_accountView])
    (bump_accountView (by decide) (by decide) s)
  simp only [trayPulled, raise_accountView]
  have hif := hif ((s.pkm.pockets[k]).state = .draining ∨ slotFree s) (makeTrayRecord k s.pkm.pockets[k] .pulled)
  rw [← hif]
  exact updatePocket_emptied (Nat.zero_le _) rfl

theorem TraysEmptied.tallies {v w : AccountView} (h : TraysEmptied v w) :
    w.inducted = v.inducted ∧ w.gone = v.gone := by
  obtain ⟨d, rfl, -⟩ := h
  exact ⟨rfl, rfl⟩

/-- Only from a bank pocket are letters sent on, and so none from pocket 9. -/
theorem rerouted_none {k : PocketNo} (h : isBank k = false) (ls : List Letter) :
    ls.filter (Letter.reroutedBy k) = [] := by
  simp [Letter.reroutedBy, h]

/-- The account with the letters of a pulled tray sent on. -/
theorem AccountView.Kept.reroute {s : State} (h : (accountView s).Kept) (k : PocketNo) {d p : PocketNo → Nat}
    (hd : ∀ j, d j ≤ (accountView s).delivered j)
    (hp : ∀ j, p j = (accountView s).pending j
      - (if j = k then (s.trk.letters.filter (Letter.reroutedBy k)).length else 0)
      + if j = 9 then (s.trk.letters.filter (Letter.reroutedBy k)).length else 0) :
    ({ accountView s with
      letters := s.trk.letters.map fun l => (l.pulled k).stage, delivered := d, pending := p } : AccountView).Kept := by
  obtain ⟨h1, h2, h3, h4, h5, h6, h7⟩ := h
  refine ⟨?_, fun x hx => ?_, fun i hi => ?_, fun j => ?_, fun hl j hb => ?_, fun hl ha j => ?_, fun hi hg => ?_⟩
  · have he : ((s.trk.letters.map fun l => (l.pulled k).stage).map (·.id)) = (accountView s).letters.map (·.id) := by
      simp only [accountView, List.map_map]
      exact List.map_congr_left fun l _ => l.pulled_id k
    exact he ▸ h1
  · obtain ⟨l, hl, rfl⟩ := List.mem_map.1 hx
    exact Letter.pulled_inOrder (h2 _ (List.mem_map_of_mem hl))
  · obtain ⟨x, hx, rfl, hs, hj⟩ := h3 i hi
    obtain ⟨l, hl, rfl⟩ := List.mem_map.1 hx
    obtain ⟨hs', hj'⟩ := l.pulled_parts k
    exact ⟨_, List.mem_map_of_mem hl, l.pulled_id k, hs'.trans hs, hj'.trans hj⟩
  · have hw := onWay_pulled k j s.trk.letters
    have h4 := h4 j
    simp only [accountView] at h4 ⊢
    rw [hp j, show (accountView s).pending j = (s.pkm.pockets[j]).pending from rfl, h4]
    by_cases h9 : j = 9
    · subst h9
      by_cases hk : (9 : PocketNo) = k
      · subst hk
        simp only [rerouted_none (k := 9) rfl, List.length_nil, ite_self] at hw ⊢
        omega
      · simp only [hk, if_false, if_true] at hw ⊢
        omega
    · simp only [h9, if_false] at hw ⊢
      omega
  · have h9 : j ≠ 9 := isBank_ne hb
    have := h5 hl j hb
    have := hd j
    have := hp j
    simp only [h9, if_false] at *
    omega
  · exact Nat.le_zero.1 ((hd j).trans (h6 hl ha j).le)
  · exact (h7 hi hg).trans (by simp [accountView])

theorem pull_kept {k : PocketNo} {s : State} (h : (accountView s).Kept) : (accountView (pull k s)).Kept := by
  have hn : (s.trk.letters.map (·.id)).Nodup := ((accountKept_iff s).2 h).ids
  obtain ⟨hletters, hpockets⟩ := pull_effect (k := k) hn
  have hcounts := reroutedPocket_counts (k := k) (n := (s.trk.letters.filter (Letter.reroutedBy k)).length) (by
    rintro rfl
    rw [rerouted_none rfl]
    rfl)
  have htray := (trayPulled_view k s).tallies
  have htal := (pull_log k s).2
  have hind : (accountView (pull k s)).inducted = (accountView s).inducted :=
    Eq.trans (b := (accountView (trayPulled k s)).inducted) (by simp only [accountView, tally, htal])
      htray.1
  have hgone : (accountView (pull k s)).gone = (accountView s).gone :=
    Eq.trans (b := (accountView (trayPulled k s)).gone) (by simp only [accountView, tally, htal])
      htray.2
  have hline : (pull k s).lnc.line = s.lnc.line := (lineView_line (pull_lineView k s)).1
  have hv : accountView (pull k s) = { accountView s with
      letters := s.trk.letters.map fun l => (l.pulled k).stage
      delivered := fun j => ((pull k s).pkm.pockets[j]).delivered
      pending := fun j => ((pull k s).pkm.pockets[j]).pending } := by
    change ({ accountView (pull k s) with
      inducted := (accountView (pull k s)).inducted, gone := (accountView (pull k s)).gone } : AccountView) = _
    rw [hind, hgone]
    simp only [accountView, hletters, List.map_map, hline, pull_frame]
    rfl
  rw [hv]
  refine h.reroute k (fun j => ?_) fun j => ?_
  · rw [hpockets]
    refine (hcounts j _).1.trans ?_
    split
    · next e => subst e; exact Nat.zero_le _
    · exact le_rfl
  · rw [hpockets, (hcounts j _).2]
    congr 2
    split
    · next e => subst e; rfl
    · rfl

end Sys2Proof.Machine
end

section
/-! The account through LOADING, the requests and the resets; with them every command keeps it. -/

namespace Sys2Proof.Machine

/-! ### The end of LOADING (R145, R146, R147) -/

theorem takeRemoval_kept {k : PocketNo} {s : State} (h : (accountView s).Kept) :
    (accountView (takeRemoval k s)).Kept := by
  have hn : accountView (updatePocket k (fun p => { p with tray := false }) s) = accountView s :=
    updatePocket_counts rfl rfl
  refine takeRemoval_cases (P := fun u => (accountView u).Kept) k s (hn ▸ h) (pull_kept (hn.symm ▸ h)) ?_
  rwa [updatePocket_counts rfl rfl, hn]

/-- In LOADING the list is empty, and the account is kept whatever the limits. -/
structure AccountView.Loading (v : AccountView) : Prop where
  kept : v.Kept
  loading : v.loading = true
  empty : v.letters = []

theorem AccountView.Loading.withLimits {v : AccountView} (h : v.Loading) (l : PocketNo → Nat) :
    ({ v with limits := l } : AccountView).Loading :=
  ⟨{ h.kept with limits := fun e => absurd (h.loading.symm.trans e) (by simp) }, h.loading, h.empty⟩

theorem TraysEmptied.loading {v w : AccountView} (h : TraysEmptied v w) (hl : v.Loading) : w.Loading := by
  have hk := h.kept hl.kept
  obtain ⟨d, rfl, -⟩ := h
  exact ⟨hk, hl.loading, hl.empty⟩

theorem takeRemoval_loading {k : PocketNo} {s : State} (h : (accountView s).Loading) :
    (accountView (takeRemoval k s)).Loading := by
  have hs : s.trk.letters = [] := List.map_eq_nil_iff.1 h.empty
  have hline : (takeRemoval k s).lnc.line = s.lnc.line := (lineView_line (takeRemoval_lineView k s)).1
  refine ⟨takeRemoval_kept h.kept, by simpa only [accountView, hline] using h.loading, ?_⟩
  refine takeRemoval_cases (P := fun u => (accountView u).letters = []) k s h.empty ?_ h.empty
  have hu : (updatePocket k (fun p => { p with tray := false }) s).trk.letters = [] := by simpa using hs
  simp only [accountView]
  rw [(pull_effect (by rw [hu]; exact .nil)).1, hu]
  rfl

theorem matchSensors_loading {ks : List PocketNo} {s : State} (h : (accountView s).Loading) :
    (accountView (ks.foldl matchSensor s)).Loading := by
  induction ks generalizing s with
  | nil => exact h
  | cons k ks ih =>
    refine ih ?_
    unfold matchSensor
    split
    · exact (takeInsertion_emptied k s).loading h
    · exact takeRemoval_loading h

/-- The limits with pocket `k`'s raised to what its tray holds, where it is a bank pocket. -/
def AccountView.raised (k : PocketNo) (v : AccountView) : PocketNo → Nat :=
  if isBank k then Function.update v.limits k (max (v.limits k) (v.delivered k)) else v.limits

theorem AccountView.raised_le (k : PocketNo) (v : AccountView) (j : PocketNo) : v.limits j ≤ v.raised k j := by
  unfold AccountView.raised
  split
  · by_cases e : j = k
    · subst e; simp
    · rw [Function.update_of_ne e]
  · exact le_rfl

theorem AccountView.delivered_le_raised {k : PocketNo} (h : isBank k = true) (v : AccountView) :
    v.delivered k ≤ v.raised k k := by
  simp [AccountView.raised, h]

theorem raiseLimit_accountView (k : PocketNo) (s : State) :
    accountView (raiseLimit k s) = { accountView s with limits := (accountView s).raised k } := by
  unfold raiseLimit AccountView.raised
  split
  · have hl : (fun j : PocketNo => (s.prl.profile.limits.set k
        (max s.prl.profile.limits[k] (s.pkm.pockets[k]).delivered))[j]) =
        Function.update (accountView s).limits k (max ((accountView s).limits k) ((accountView s).delivered k)) := by
      funext j
      by_cases e : j = k
      · subst e; simp [accountView]
      · have : (k : Nat) ≠ j := fun h => e (Fin.ext h.symm)
        simp [accountView, e, this]
    rw [← hl]
    rfl
  · rfl

/-- Once the limits of the named bank pockets have been raised, none of them holds more (R140, R146). -/
theorem raiseLimits_accountView (ks : List PocketNo) (s : State) : ∃ l : PocketNo → Nat,
    accountView (ks.foldl (fun s k => raiseLimit k s) s) = { accountView s with limits := l } ∧
    (∀ k, (accountView s).limits k ≤ l k) ∧ ∀ k ∈ ks, isBank k = true → (accountView s).delivered k ≤ l k := by
  induction ks generalizing s with
  | nil => exact ⟨_, rfl, fun _ => le_rfl, nofun⟩
  | cons k ks ih =>
    obtain ⟨l, he, hle, hdel⟩ := ih (raiseLimit k s)
    rw [raiseLimit_accountView] at he hle hdel
    refine ⟨l, he, fun j => ((accountView s).raised_le k j).trans (hle j), fun j hj hb => ?_⟩
    rcases List.mem_cons.1 hj with rfl | hj
    · exact ((accountView s).delivered_le_raised hb).trans (hle j)
    · exact hdel j hj hb

/-- The pockets at the end of LOADING, after either reset: no bank tray holds more than its limit. -/
theorem loadedPockets_settled {s : State} (h : (accountView s).Loading) :
    let t := if s.prl.afterPin then refreshCatchFull (beginPockets s) else resumePockets s
    (accountView t).Loading ∧ ∀ k, isBank k = true → (accountView t).delivered k ≤ (accountView t).limits k := by
  simp only
  split
  · next ha =>
    rw [refreshCatchFull_accountView, beginPockets_accountView]
    exact ⟨h, fun k _ => by rw [h.kept.fresh h.loading ha k]; exact Nat.zero_le _⟩
  · simp only [resumePockets]
    have hm := matchSensors_loading (ks := allPockets) h
    rw [← adoptClasses_accountView fun _ => true] at hm
    generalize adoptClasses (fun _ => true) (allPockets.foldl matchSensor s) = u at hm ⊢
    obtain ⟨l, he, -, hdel⟩ := raiseLimits_accountView bankPockets u
    have happly := foldl_emptied (fun s k => applyLimit_emptied k s) allPockets
      (bankPockets.foldl (fun s k => raiseLimit k s) u)
    rw [he] at happly
    have hload := happly.loading (hm.withLimits l)
    obtain ⟨d, hd, hless⟩ := happly
    refine ⟨hload, fun k hb => ?_⟩
    rw [hd]
    have hbank : ∀ k : PocketNo, isBank k = true → k ∈ bankPockets := by decide
    exact (hless k).trans (hdel k (hbank k hb) hb)

theorem endLoading_kept {p : Profile} {r : LoadResult} {s : State} (h : (accountView s).Kept)
    (hl : s.lnc.line = .loading) (he : s.trk.letters = []) : (accountView (endLoading p r s)).Kept := by
  let x : State := { updateLoader (fun x => { x with profile := p, result := r }) s with
    lch := { s.lch with chans := s.lch.chans.map (Channel.nominal p) } }
  let y : State := if x.prl.afterPin then refreshCatchFull (beginPockets x) else resumePockets x
  let z : State := updateLine (fun c => { c with line := .stopped })
    (applyHeadDown { y with pkm := { y.pkm with debounce := y.inputs.sweep } })
  have hx : (accountView x).Loading := AccountView.Loading.withLimits
    ⟨h, decide_eq_true hl, List.map_eq_nil_iff.2 he⟩ fun k => p.limits[k]
  have hz : (accountView z).Kept := by
    obtain ⟨hload, hlim⟩ : (accountView y).Loading ∧ _ := loadedPockets_settled hx
    have hv : accountView z = { accountView y with loading := false } := by
      change { accountView (applyHeadDown { y with pkm := { y.pkm with debounce := y.inputs.sweep } }) with
        loading := false } = _
      rw [applyHeadDown_accountView]
      rfl
    exact hv ▸ hload.kept.outOfLoading hload.empty hlim
  have hend : endLoading p r s =
      (let w := if r.isDefaulted then raise .profileDefaulted z else z
       if w.inputs.estop then enterFaulted .estop w else w) := rfl
  have hw : (accountView (if r.isDefaulted then raise .profileDefaulted z else z)).Kept := by
    rwa [ite_accountView (raise_accountView .profileDefaulted z) rfl]
  rw [hend]
  simp only
  generalize (if r.isDefaulted then raise .profileDefaulted z else z) = w at hw ⊢
  split
  · exact enterFaulted_kept _ hw
  · exact hw

/-! ### What a step starts from -/

/-- The account is kept, and the list is empty where no letter can be (R8, R28). -/
structure InAccount (s : State) : Prop where
  kept : (accountView s).Kept
  empty : s.lnc.line ≠ .running → s.lnc.line ≠ .stopping → s.trk.letters = []

theorem endLoad_kept {image : List Byte} {s : State} (h : InAccount s) : (accountView (endLoad image s)).Kept := by
  unfold endLoad
  split
  · next hl =>
    have he := h.empty (by simp [hl]) (by simp [hl])
    split <;> exact endLoading_kept h.kept hl he
  · exact h.kept

theorem loadNoResponse_kept {s : State} (h : InAccount s) : (accountView (loadNoResponse s)).Kept := by
  unfold loadNoResponse
  split
  · next hl => exact endLoading_kept h.kept hl.1 (h.empty (by simp [hl.1]) (by simp [hl.1]))
  · exact h.kept

/-! ### SET_FIELD (R195) and CLEAR_SHIFT (R142) -/

/-- A limit field changes no other pocket's limit. -/
theorem Profile.setField_otherLimit {n : Nat} {k j : PocketNo} (h : limitPocket n = some k) (hj : j ≠ k)
    (v : FieldValue) (p : Profile) : (p.setField n v).limits[j] = p.limits[j] := by
  have hne : (k : Nat) ≠ j := fun e => hj (Fin.ext e.symm)
  obtain ⟨lo, hi, hs⟩ : ∃ lo hi, fieldShape n = some (.num lo hi) := by
    unfold limitPocket at h
    split at h
    · next hn =>
      obtain ⟨h49, h58⟩ := hn
      interval_cases n <;> exact ⟨_, _, rfl⟩
    · cases h
  cases v with
  | num x => simp [Profile.setField_limit h, hne]
  | code _ => simp [Profile.setField, hs]
  | text _ => simp [Profile.setField, hs]
  | pockets _ => simp [Profile.setField, hs]
  | mask _ => simp [Profile.setField, hs]

/-- With no letter in the list the limits may be any that the trays do not exceed. -/
theorem AccountView.Kept.newLimits {v : AccountView} (h : v.Kept) (he : v.letters = []) {l : PocketNo → Nat}
    (hl : v.loading = false → ∀ k, isBank k = true → v.delivered k ≤ l k) :
    ({ v with limits := l } : AccountView).Kept := by
  refine { h with limits := fun hload k hb => ?_ }
  rw [show v.pending k = 0 by rw [h.pending k, he]; rfl]
  exact hl hload k hb

theorem limitField_kept {n : Nat} {k : PocketNo} (hk : limitPocket n = some k) (v : FieldValue) {s : State}
    (h : (accountView s).Kept) (he : s.trk.letters = []) :
    (accountView (applyLimit k (raiseLimit k (updateProfile (fun _ => s.prl.profile.setField n v) s)))).Kept := by
  refine (applyLimit_emptied k _).kept ?_
  rw [raiseLimit_accountView]
  refine h.newLimits (List.map_eq_nil_iff.2 he) fun hload j hb => ?_
  by_cases e : j = k
  · subst e
    exact AccountView.delivered_le_raised hb (accountView (updateProfile (fun _ => s.prl.profile.setField n v) s))
  · refine le_trans ?_ (AccountView.raised_le k _ j)
    change (accountView s).delivered j ≤ (s.prl.profile.setField n v).limits[j]
    rw [Profile.setField_otherLimit hk e]
    exact (Nat.le_add_right _ _).trans (h.limits hload j hb)

theorem fieldEffects_kept {n : Nat} (v : FieldValue) {s : State} (h : InAccount s)
    (hw : fieldWritable n s.lnc.line = true) :
    (accountView (fieldEffects n s.prl.profile (updateProfile (fun _ => s.prl.profile.setField n v) s))).Kept := by
  unfold fieldEffects
  split
  · next k hk =>
    refine limitField_kept hk v h.kept ?_
    have hn : 49 ≤ n ∧ n ≤ 58 := by
      by_contra hn
      simp [limitPocket, hn] at hk
    have hline : s.lnc.line = .stopped := by
      rw [fieldWritable, if_neg (by omega), if_pos (by omega)] at hw
      simpa using hw
    exact h.empty (by simp [hline]) (by simp [hline])
  · next hk =>
    have hlim := s.prl.profile.setField_limits v (limitPocket_none hk)
    have hu : accountView (updateProfile (fun _ => s.prl.profile.setField n v) s) = accountView s := by
      change { accountView s with limits := fun k : PocketNo => (s.prl.profile.setField n v).limits[k] } = _
      rw [hlim]
      rfl
    split
    · rw [adoptClasses_accountView, hu]
      exact h.kept
    · split
      · rw [refreshHeadDown_accountView, hu]
        exact h.kept
      · split
        · rw [refreshWake_accountView, hu]
          exact h.kept
        · rw [hu]
          exact h.kept

theorem ownClearShift_kept {r : Request} {s : State} (h : InAccount s) : (accountView (ownClearShift r s).1).Kept := by
  unfold ownClearShift
  split
  · exact h.kept
  · next hs =>
    have he : s.trk.letters = [] := h.empty (by rintro e; simp [e, LineState.sampling] at hs)
      (by rintro e; simp [e, LineState.sampling] at hs)
    refine { h.kept with tallies := fun _ _ => ?_ }
    have hz : ∀ x, tally x { s with pkm := { s.pkm with tallies := Vector.replicate 34 0 } } = 0 := by
      intro x
      change (Vector.replicate 34 0)[x.idx] = 0
      simp
    simp [accountView, hz, he]

/-! ### The store write (R196) -/

theorem endWrite_accountView (a : Answer) (s : State) : accountView (endWrite a s) = accountView s :=
  (accountView_of_frame (s := updateLoader (fun r => { r with store := .idle }) s) (by simp [endWrite])).trans rfl

theorem storeNotBusy_accountView (s : State) : accountView (storeNotBusy s) = accountView s := by
  unfold storeNotBusy
  split <;> rfl

theorem storePageDone_accountView (s : State) : accountView (storePageDone s) = accountView s := by
  unfold storePageDone
  split
  · exact ite_accountView rfl rfl
  all_goals rfl

theorem storeWriteNoResponse_accountView (s : State) : accountView (storeWriteNoResponse s) = accountView s := by
  unfold storeWriteNoResponse
  split
  · exact endWrite_accountView ..
  · exact endWrite_accountView ..
  all_goals rfl

theorem storeVerifyDone_accountView (bs : List Byte) (s : State) :
    accountView (storeVerifyDone bs s) = accountView s := by
  unfold storeVerifyDone
  split
  · exact ite_accountView (endWrite_accountView ..) (endWrite_accountView ..)
  all_goals rfl

/-! ### Resets (R146, R199) -/

theorem softReset_account {s : State} (h : (accountView s).Kept) : (accountView (softReset s)).Kept :=
  { h with
    held := nofun
    limits := nofun
    fresh := nofun }

theorem actReset_kept {s : State} (h : (accountView s).Kept) : (accountView (actReset s)).Kept := by
  unfold actReset
  split
  · exact softReset_account h
  · exact h

theorem pinReset_kept (inputs : Inputs) (straps : Straps) (pending : List Instr) :
    (accountView (.pinReset inputs straps pending)).Kept := by
  have hp : ∀ k : PocketNo, ((State.pinReset inputs straps pending).pkm.pockets[k]).delivered = 0 ∧
      ((State.pinReset inputs straps pending).pkm.pockets[k]).pending = 0 := by
    intro k
    rw [pocket_pinReset]
    exact ⟨rfl, rfl⟩
  refine ⟨.nil, nofun, nofun, fun k => (hp k).2, nofun, fun _ _ k => (hp k).1, fun _ _ => ?_⟩
  simp [accountView, tally_pinReset]
  rfl

/-! ### Requests -/

theorem dispatch_kept {k : ReqKind} {o : Owner} {s : State} (h : InAccount s)
    (ho : ∀ r s, InAccount s → (accountView (o r s).1).Kept) : (accountView (dispatch k o s)).Kept := by
  refine dispatch_cases (P := fun u => (accountView u).Kept) k o s h.kept (fun r rest e _ _ _ => ?_)
    fun r rest _ _ _ _ => ?_
  · rw [pushAnswer_accountView]
    exact h.kept
  · rw [pushAnswer_accountView]
    exact ho r _ ⟨h.kept, h.empty⟩

theorem dispatchUnknown_kept {s : State} (h : (accountView s).Kept) : (accountView (dispatchUnknown s)).Kept := by
  unfold dispatchUnknown
  split
  · exact h
  · split
    · rw [pushAnswer_accountView]
      exact h
    · exact h

theorem Owner.Reads.kept {o : Owner} (ho : o.Reads) (r : Request) (s : State) (h : InAccount s) :
    (accountView (o r s).1).Kept := by
  rw [ho r s]
  exact h.kept

/-- A request whose owner keeps the account keeps it. -/
theorem request_kept {k : ReqKind} {o : Owner} {s t : State} (h : live (dispatch k o) s = .next t) (hs : InAccount s)
    (ho : ∀ r s, InAccount s → (accountView (o r s).1).Kept) : (accountView t).Kept :=
  live_cases (P := fun u => (accountView u).Kept) h hs.kept (dispatch_kept hs ho)

/-! ### The commands -/

theorem live_kept {f : State → State} {s t : State} (h : live f s = .next t) (hs : (accountView s).Kept)
    (hf : (accountView (f s)).Kept) : (accountView t).Kept :=
  live_cases (P := fun u => (accountView u).Kept) h hs hf

theorem live_kept_of_view {f : State → State} {s t : State} (h : live f s = .next t) (hs : (accountView s).Kept)
    (hf : accountView (f s) = accountView s) : (accountView t).Kept := live_kept h hs (hf.symm ▸ hs)

theorem onPin_kept {level : Inputs → Inputs} {event : State → State} {s t : State} (h : onPin level event s = .next t)
    (hs : (accountView s).Kept)
    (hf : (accountView (event { s with inputs := level s.inputs })).Kept) : (accountView t).Kept :=
  onPin_cases (P := fun u => (accountView u).Kept) h hs hf

theorem ite_kept {c : Prop} [Decidable c] {t u : State} (ht : (accountView t).Kept) (hu : (accountView u).Kept) :
    (accountView (if c then t else u)).Kept := by
  split
  · exact ht
  · exact hu

/-- Every command keeps the account. -/
theorem exec_kept {c : Instr} {s t : State} (hs : InAccount s) (hn : ∀ l ∈ s.trk.letters, l.id ≠ s.trk.nextId)
    (h : exec c s = .next t) : (accountView t).Kept := by
  have hk := hs.kept
  cases c with
  | resetNAssert =>
    cases h
    exact hk
  | resetNRelease straps =>
    simp only [exec, execResetNRelease] at h
    split at h <;> cases h
    · exact pinReset_kept ..
    · exact hk
  | e0LeEdge =>
    simp only [exec, execE0LeEdge] at h
    split at h
    · cases h
      exact hk
    · exact onPin_kept h hk (e0LeadingEdge_kept hk hn)
  | e0TeEdge =>
    simp only [exec, execE0TeEdge] at h
    split at h
    · exact onPin_kept h hk (e0TrailingEdge_kept hk)
    · cases h
      exact hk
  | eyeLeEdge edge =>
    simp only [exec, execEyeLeEdge] at h
    split at h
    · cases h
    · split at h
      · cases h
        exact hk
      · exact onPin_kept h hk (ite_kept (eyeLeadingEdge_kept hk) hk)
  | estop active =>
    unfold exec execEstop at h
    exact onPin_kept h hk (ite_kept (enterFaulted_kept _ hk) hk)
  | feedloadActive =>
    unfold exec execFeedloadActive at h
    exact onPin_kept h hk (by rwa [startWake_accountView])
  | feedloadInactive =>
    unfold exec execFeedloadInactive at h
    exact onPin_kept h hk (by rwa [stopWake_accountView])
  | headFault hd a =>
    unfold exec execHeadFault at h
    exact onPin_kept h hk (ite_kept (by rwa [faultHead_accountView]) hk)
  | trayRemoved k =>
    unfold exec execTrayRemoved at h
    exact onPin_kept h hk (ite_kept (ite_kept hk (takeRemoval_kept hk)) hk)
  | trayInserted k =>
    unfold exec execTrayInserted at h
    exact onPin_kept h hk (ite_kept hk (ite_kept hk ((takeInsertion_emptied k _).kept hk)))
  | sweepButtonChange k a =>
    unfold exec execSweepButtonChange at h
    exact onPin_kept h hk (ite_kept hk (ite_kept hk hk))
  | profileLoadEnd image => exact live_kept h hk (endLoad_kept hs)
  | storeLoadNoResponse => exact live_kept h hk (loadNoResponse_kept hs)
  | encPulse => exact live_kept h hk hk
  | speedWindowEnd => exact live_kept h hk (superviseSpeed_kept hk)
  | beltStill => exact live_kept h hk (beltStill_kept hk)
  | longPoint => exact live_kept h hk (reachLongPoint_kept hk)
  | blockedPoint => exact live_kept h hk (reachBlockedPoint_kept hk)
  | expiryPoint id eye => exact live_kept h hk (reachExpiry_kept hk)
  | setupPoint id gate => exact live_kept_of_view h hk (reachSetupPoint_accountView id gate s)
  | releasePoint gate => exact live_kept_of_view h hk (releaseIfDue_accountView gate s)
  | flash => exact live_kept h hk (takeFlash_kept hk)
  | pairPoint => exact live_kept h hk (reachPairPoint_kept hk)
  | verdictLimit => exact live_kept h hk (reachVerdictLimit_kept hk)
  | fireStart head => exact live_kept_of_view h hk (reachFireStart_accountView head s)
  | fireEnd head => exact live_kept_of_view h hk (reachFireEnd_accountView head s)
  | recoveryEnd head => exact live_kept_of_view h hk (reachRecoveryEnd_accountView head s)
  | pocketDecisionPoint id => exact live_kept h hk (reachDecision_kept hk)
  | sampleReturn face upper lower => exact live_kept_of_view h hk (sampleReturn_accountView face upper lower s)
  | timeout face => exact live_kept_of_view h hk (sampleTimeout_accountView face s)
  | calibrationFlash => exact live_kept_of_view h hk (accountView_of_frame (by simp))
  | settleEnd => exact live_kept_of_view h hk (accountView_of_frame (by simp))
  | wake => exact live_kept_of_view h hk (completeWake_accountView s)
  | startTimeout => exact live_kept h hk (startTimeout_kept hk)
  | drainTimeout => exact live_kept h hk (drainTimeout_kept hk)
  | stopFail => exact live_kept h hk (stopFail_kept hk)
  | sweepButton k => exact live_kept h hk ((pressSweep_emptied k s).kept hk)
  | goodFrame rx => exact live_kept_of_view h hk (receiveOver_accountView ..)
  | badFrame rx e => exact live_kept_of_view h hk (receiveOver_accountView ..)
  | interByteTimeout => exact live_kept_of_view h hk (accountView_of_frame (by simp))
  | unknownKind => exact live_kept h hk (dispatchUnknown_kept hk)
  | replySend => exact live_kept_of_view h hk (accountView_of_frame (by simp))
  | eventNotice => exact live_kept_of_view h hk (accountView_of_frame (by simp))
  | letterReportSend => exact live_kept_of_view h hk (accountView_of_frame (by simp))
  | softReset => exact live_kept h hk (actReset_kept hk)
  | reset =>
    unfold exec execReset at h
    refine live_kept h hk ?_
    rw [answerBehind_accountView]
    exact dispatch_kept hs fun r s hs => ownReset_cases (P := fun u => (accountView u).Kept) r hs.kept hs.kept
  | storeNotBusy => exact live_kept_of_view h hk (storeNotBusy_accountView s)
  | storePageDone => exact live_kept_of_view h hk (storePageDone_accountView s)
  | storeWriteNoResponse => exact live_kept_of_view h hk (storeWriteNoResponse_accountView s)
  | storeVerifyDone bs => exact live_kept_of_view h hk (storeVerifyDone_accountView bs s)
  | identify => exact request_kept h hs ownIdentify_reads.kept
  | getStatus => exact request_kept h hs ownGetStatus_reads.kept
  | getPostmark => exact request_kept h hs ownGetPostmark_reads.kept
  | readChannels => exact request_kept h hs ownReadChannels_reads.kept
  | readCapture => exact request_kept h hs ownReadCapture_reads.kept
  | readPockets => exact request_kept h hs ownReadPockets_reads.kept
  | readTallies => exact request_kept h hs ownReadTallies_reads.kept
  | getField => exact request_kept h hs ownGetField_reads.kept
  | poll => exact request_kept h hs fun _ _ hs => hs.kept
  | start =>
    exact request_kept h hs fun r s hs => ownStart_cases (P := fun u => (accountView u).Kept) r hs.kept fun hl => by
      rw [enterStarting_accountView (by rintro e; simp [e] at hl)]
      exact hs.kept
  | stop =>
    exact request_kept h hs fun r s hs => ownStop_cases (P := fun u => (accountView u).Kept) r hs.kept fun hl =>
      enterStopping_kept hs.kept (by rintro e; simp [e] at hl)
  | standby =>
    exact request_kept h hs fun r s hs => ownStandby_cases (P := fun u => (accountView u).Kept) r hs.kept fun hl => by
      rw [startWake_accountView, enterLine_accountView (by simp) (by simp [hl])]
      exact hs.kept
  | clearFault =>
    refine request_kept h hs fun r s hs => ownClearFault_cases (P := fun u => (accountView u).Kept) r hs.kept ?_
    exact fun hl => by
      rw [enterLine_accountView (by simp) (by simp [hl]), updateLine_accountView .rfl]
      exact hs.kept
  | holdFeed => exact request_kept h hs fun _ s hs => by rw [setOperator, setHold_accountView]; exact hs.kept
  | releaseFeed => exact request_kept h hs fun _ s hs => by rw [setOperator, setHold_accountView]; exact hs.kept
  | headReset =>
    exact request_kept h hs fun r s hs => ownHeadReset_cases (P := fun u => (accountView u).Kept) r hs.kept
      fun hd _ => by simpa using hs.kept
  | headDisable =>
    exact request_kept h hs fun r s hs => ownHeadDisable_cases (P := fun u => (accountView u).Kept) r hs.kept
      (fun hd => by simpa using hs.kept) fun hd => by simpa using hs.kept
  | headEnable =>
    exact request_kept h hs fun r s hs => ownHeadEnable_cases (P := fun u => (accountView u).Kept) r hs.kept
      (fun hd => by simpa using hs.kept) fun hd => by simpa using hs.kept
  | setPostmark =>
    exact request_kept h hs fun r s hs => ownSetPostmark_cases (P := fun u => (accountView u).Kept) r hs.kept
      fun _ _ _ _ => hs.kept
  | calibrate =>
    exact request_kept h hs fun r s hs => ownCalibrate_cases (P := fun u => (accountView u).Kept) r hs.kept
      fun _ => hs.kept
  | armCapture =>
    exact request_kept h hs fun r s hs => ownArmCapture_cases (P := fun u => (accountView u).Kept) r hs.kept
      fun _ _ => hs.kept
  | setCounterSource =>
    exact request_kept h hs fun r s hs => ownSetCounterSource_cases (P := fun u => (accountView u).Kept) r hs.kept
      fun _ _ => by rw [accountView_of_frame (s := s) (by simp)]; exact hs.kept
  | channelReset =>
    exact request_kept h hs fun r s hs => ownChannelReset_cases (P := fun u => (accountView u).Kept) r hs.kept
      fun _ _ => by rw [accountView_of_frame (s := s) (by simp)]; exact hs.kept
  | sweep =>
    exact request_kept h hs fun r s hs => ownSweep_cases (P := fun u => (accountView u).Kept) r hs.kept
      fun k _ => (beginDraining_emptied k .sweepRequest s).kept hs.kept
  | pocketOut =>
    exact request_kept h hs fun r s hs => ownPocketOut_cases (P := fun u => (accountView u).Kept) r hs.kept
      fun k _ => by rw [updatePocket_counts rfl rfl]; exact hs.kept
  | pocketIn =>
    exact request_kept h hs fun r s hs => ownPocketIn_cases (P := fun u => (accountView u).Kept) r hs.kept
      fun k => (bringIn_emptied k s).kept hs.kept
  | takeTray =>
    exact request_kept h hs fun r s hs => ownTakeTray_cases (P := fun u => (accountView u).Kept) r hs.kept
      fun _ _ _ => hs.kept
  | clearShift => exact request_kept h hs fun _ _ hs => ownClearShift_kept hs
  | setField =>
    exact request_kept h hs fun r s hs => ownSetField_cases (P := fun u => (accountView u).Kept) r hs.kept
      fun _ v hw => fieldEffects_kept v hs hw
  | writeProfile =>
    exact request_kept h hs fun r s hs => ownWriteProfile_cases (P := fun u => (accountView u).Kept) r hs.kept hs.kept
  | setEventMask =>
    exact request_kept h hs fun r s hs => ownSetEventMask_cases (P := fun u => (accountView u).Kept) r hs.kept
      fun _ => hs.kept
  | clearEvents =>
    exact request_kept h hs fun r s hs => ownClearEvents_cases (P := fun u => (accountView u).Kept) r hs.kept
      fun _ => hs.kept
  | setReportMode =>
    exact request_kept h hs fun r s hs => ownSetReportMode_cases (P := fun u => (accountView u).Kept) r hs.kept
      fun _ => hs.kept

theorem step_kept {s t : State} (hs : InAccount s) (hn : ∀ l ∈ s.trk.letters, l.id ≠ s.trk.nextId)
    (h : step s = .next t) : (accountView t).Kept := by
  unfold step at h
  split at h
  · cases h
    rw [accountView_of_frame (s := s) (by simp)]
    exact hs.kept
  · next c rest _ => exact exec_kept (s := s.withPending rest) ⟨hs.kept, hs.empty⟩ hn h

/-- Settles O60: the account, on the view of the state, is kept by every command; and each letter with a destination is
awaited at exactly one pocket. -/
theorem accountInvariant : Obligations.AccountInvariant := by
  unfold Obligations.AccountInvariant
  refine ⟨fun s t hk hl hn h => (accountKept_iff t).2 (step_kept ⟨(accountKept_iff s).1 hk, hl.empty⟩ hn h),
    fun s hk => ?_⟩
  have hw : (allPockets.map fun k => (s.pkm.pockets[k]).pending) =
      allPockets.map fun k => onWay k (accountView s).letters :=
    List.map_congr_left fun k _ => ((accountKept_iff s).1 hk).pending k
  rw [hw, sum_onWay, ← List.countP_eq_length_filter]
  simp [accountView, Letter.stage, List.countP_map, Function.comp_def]

end Sys2Proof.Machine
end

section
/-! A removal as the pocket manager counts it: the counts and letters of its tray, and the trays that it fills or closes
(R123, R124, R125, R130). -/

namespace Sys2Proof.Machine

/-! ### What a filled or closed tray is measured from -/

/-- The tray log, its reservations and the count of closed trays are as they were; a full tray is measured from either
state. -/
structure TraysAlike (s u : State) : Prop where
  log : u.pkm.log = s.pkm.log
  reserved : reservations u = reservations s
  closed : tally .traysClosed u = tally .traysClosed s

theorem TraysAlike.slotFree {s u : State} (h : TraysAlike s u) : SlotFree u ↔ SlotFree s := by
  rw [SlotFree, SlotFree, h.log, h.reserved]

theorem BecameFull.of_alike {k : PocketNo} {q : Pocket} {s u t : State} (h : BecameFull k q u t) (ha : TraysAlike s u)
    (hp : u.prl = s.prl) : BecameFull k q s t := by
  obtain ⟨he, hstays, hcloses, hdrains⟩ := h
  rw [hp, ha.slotFree, ha.log, ha.closed] at hstays hcloses
  rw [hp, ha.slotFree, ha.log] at hdrains
  exact ⟨he, hstays, hcloses, hdrains⟩

theorem SettledDraining.of_alike {k : PocketNo} {q : Pocket} {s u t : State} (h : SettledDraining k q u t)
    (ha : TraysAlike s u) : SettledDraining k q s t := by
  obtain ⟨hstays, hcloses⟩ := h
  rw [ha.log, ha.closed] at hstays hcloses
  exact ⟨hstays, hcloses⟩

/-- What follows leaves the pockets and every pending event. -/
structure Followed (t t' : State) : Prop where
  pkm : t'.pkm = t.pkm
  events : ∀ e, EventSet.has t.lki.events e = true → EventSet.has t'.lki.events e = true

theorem SettledDraining.followed {k : PocketNo} {q : Pocket} {s t t' : State} (h : SettledDraining k q s t)
    (hf : Followed t t') : SettledDraining k q s t' := by
  refine ⟨fun hs => ?_, fun hs h0 => ?_⟩
  · rw [hf.pkm, tally_of_pkm hf.pkm]
    exact h.stays hs
  · obtain ⟨h1, h2, h3, h4⟩ := h.closes hs h0
    rw [hf.pkm, tally_of_pkm hf.pkm]
    exact ⟨h1, h2, h3, hf.events _ h4⟩

theorem BecameFull.followed {k : PocketNo} {q : Pocket} {s t t' : State} (h : BecameFull k q s t)
    (hf : Followed t t') : BecameFull k q s t' := h.congr rfl rfl hf.pkm hf.events

/-- A change of a pocket that leaves its state leaves the reservations of the log (R132). -/
theorem updatePocket_reservations {k : PocketNo} {f : Pocket → Pocket} {s : State}
    (hf : (f s.pkm.pockets[k]).state = (s.pkm.pockets[k]).state) :
    reservations (updatePocket k f s) = reservations s := by
  unfold reservations
  congr 1
  refine List.filter_congr fun j _ => ?_
  rw [updatePocket_get]
  split
  · next e => rw [hf, e]
  · rfl

/-- A pocket just made FULL is not left DRAINING with nothing pending. -/
theorem settleDraining_becomeFull {k : PocketNo} {s : State} (h : (s.pkm.pockets[k]).state ≠ .draining) :
    settleDraining k (becomeFull k s) = becomeFull k s := by
  rw [settleDraining, if_neg]
  have hb := becomeFull_became h
  by_cases hd : s.prl.profile.autoClose = true ∧ SlotFree s
  · obtain ⟨ha, hs⟩ := hd
    by_cases h0 : (s.pkm.pockets[k]).pending = 0
    · rw [(hb.closes ha hs h0).1]
      rintro ⟨e, -⟩
      cases e
    · rw [(hb.drains ha hs h0).1]
      exact fun e => h0 e.2
  · have hn : s.prl.profile.autoClose = false ∨ ¬ SlotFree s := by
      rw [← Bool.not_eq_true]
      tauto
    rw [(hb.stays hn).1]
    rintro ⟨e, -⟩
    cases e

/-! ### A delivery (R123, R124, R130) -/

/-- The pocket once a delivered letter is counted into its tray (R123). -/
def Pocket.withDelivery (l : Letter) (p : Pocket) : Pocket :=
  notePocketLetter l { p with pending := p.pending - 1, delivered := satSucc p.delivered }

theorem facedClass_eq (c : Option DestClass) : facedClass c = (c == some .facedLead || c == some .facedTrail) := by
  rcases c with _ | (_ | _ | _ | _ | _) <;> rfl

/-- The fields of a pocket after a delivery, each with its own condition. -/
theorem Pocket.withDelivery_eq (l : Letter) {p : Pocket} {n : Nat} {faced : Bool} (hn : n = min (p.delivered + 1) 65535)
    (hf : faced = (p.trayClass == some .facedLead || p.trayClass == some .facedTrail)) : p.withDelivery l = { p with
      pending := p.pending - 1, delivered := n, lastId := some l.id
      lastSeq := if faced then l.cancel.bind CancelPart.seq else p.lastSeq
      firstId := if n = 1 then some l.id else p.firstId
      firstSeq := if n = 1 ∧ faced then l.cancel.bind CancelPart.seq else p.firstSeq
      firstDate := if n = 1 ∧ faced then (l.cancel.bind CancelPart.print).map fun x => x.impression.date
        else p.firstDate } := by
  have hsucc : satSucc p.delivered = n := hn.symm
  rw [← facedClass_eq] at hf
  simp only [Pocket.withDelivery, notePocketLetter, hsucc]
  by_cases h1 : n = 1 <;> cases faced <;> simp [← hf, h1]

theorem Pocket.withDelivery_load (l : Letter) (p : Pocket) :
    (p.withDelivery l).load = (p.state, satSucc p.delivered, p.pending - 1) := notePocketLetter_load l _

/-- The letter counted into pocket `k`, before the tray is tested for FULL and for its close. -/
def deliveryNoted (l : Letter) (k : PocketNo) (s : State) : State :=
  bump (.delivered k) (updatePocket k (Pocket.withDelivery l) s)

theorem deliveryNoted_alike (l : Letter) (k : PocketNo) (s : State) : TraysAlike s (deliveryNoted l k s) where
  log := rfl
  reserved := updatePocket_reservations (congrArg Prod.fst (Pocket.withDelivery_load l s.pkm.pockets[k]))
  closed := tally_bump .. |>.trans (if_neg nofun)

theorem deliveryNoted_get (l : Letter) (k j : PocketNo) (s : State) : (deliveryNoted l k s).pkm.pockets[j] =
    if j = k then (s.pkm.pockets[k]).withDelivery l else s.pkm.pockets[j] := updatePocket_get k j _ s

theorem countDelivery_eq (l : Letter) (k : PocketNo) (s : State) : countDelivery l k s =
    refreshCatchFull (settleDraining k (
      if ((deliveryNoted l k s).pkm.pockets[k]).state = .open ∧ isBank k ∧
        ((deliveryNoted l k s).pkm.pockets[k]).delivered = s.prl.profile.limits[k]
      then becomeFull k (deliveryNoted l k s)
      else deliveryNoted l k s)) := rfl

theorem refreshCatchFull_followed (s : State) : Followed s (refreshCatchFull s) :=
  ⟨by simp, fun _ => refreshCatchFull_pending s⟩

theorem countDelivery_other {k j : PocketNo} (h : j ≠ k) (l : Letter) (s : State) :
    (countDelivery l k s).pkm.pockets[j] = s.pkm.pockets[j] := by
  have hd : (deliveryNoted l k s).pkm.pockets[j] = s.pkm.pockets[j] := by rw [deliveryNoted_get, if_neg h]
  rw [countDelivery_eq]
  simp only [refreshCatchFull_frame]
  rw [settleDraining_other h]
  split
  · rw [becomeFull_other h, hd]
  · exact hd

/-- A delivery that brings an OPEN bank pocket to its limit makes it FULL (R124). -/
theorem countDelivery_fills {l : Letter} {k : PocketNo} {q : Pocket} {s : State}
    (hq : (s.pkm.pockets[k]).withDelivery l = q) (ho : q.state = .open) (hb : isBank k = true)
    (hl : q.delivered = s.prl.profile.limits[k]) : BecameFull k q s (countDelivery l k s) := by
  have hp : (deliveryNoted l k s).pkm.pockets[k] = q := by rw [deliveryNoted_get, if_pos rfl, hq]
  have hd : ((deliveryNoted l k s).pkm.pockets[k]).state ≠ .draining := by rw [hp, ho]; exact nofun
  rw [countDelivery_eq, if_pos (by rw [hp]; exact ⟨ho, hb, hl⟩), settleDraining_becomeFull hd]
  have hf := becomeFull_became hd
  rw [hp] at hf
  exact (hf.of_alike (deliveryNoted_alike l k s) rfl).followed (refreshCatchFull_followed _)

/-- Any other delivery closes a DRAINING pocket that it leaves with nothing pending, and does no more (R130). -/
theorem countDelivery_settles {l : Letter} {k : PocketNo} {q : Pocket} {s : State}
    (hq : (s.pkm.pockets[k]).withDelivery l = q)
    (hn : q.state ≠ .open ∨ isBank k = false ∨ q.delivered ≠ s.prl.profile.limits[k]) :
    SettledDraining k q s (countDelivery l k s) := by
  have hp : (deliveryNoted l k s).pkm.pockets[k] = q := by rw [deliveryNoted_get, if_pos rfl, hq]
  rw [countDelivery_eq, if_neg (by rw [hp, ← Bool.not_eq_false (isBank k)]; tauto)]
  have hs := settleDraining_settled k (deliveryNoted l k s)
  rw [hp] at hs
  exact (hs.of_alike (deliveryNoted_alike l k s)).followed (refreshCatchFull_followed _)

/-! ### A loss (R125, R130) -/

theorem countLoss_settles {l : Letter} {d : Destination} {t : Tally} (hd : l.dest = some d) (ht : t ≠ .traysClosed)
    (s : State) :
    (∀ j : PocketNo, j ≠ d.pocket → (countLoss l t s).pkm.pockets[j] = s.pkm.pockets[j]) ∧
    SettledDraining d.pocket { s.pkm.pockets[d.pocket] with pending := (s.pkm.pockets[d.pocket]).pending - 1 } s
      (countLoss l t s) := by
  let u : State := updatePocket d.pocket (fun p => { p with pending := p.pending - 1 }) (bump t s)
  have he : countLoss l t s = refreshCatchFull (settleDraining d.pocket u) := by simp only [countLoss, hd]; rfl
  have hu : ∀ j : PocketNo, u.pkm.pockets[j] = if j = d.pocket then
      { s.pkm.pockets[d.pocket] with pending := (s.pkm.pockets[d.pocket]).pending - 1 } else s.pkm.pockets[j] :=
    fun j => updatePocket_get d.pocket j _ (bump t s)
  have ha : TraysAlike s u := ⟨rfl, updatePocket_reservations (s := bump t s) rfl,
    (tally_bump .traysClosed t s).trans (if_neg ht.symm)⟩
  rw [he]
  refine ⟨fun j hj => ?_, ?_⟩
  · simp only [refreshCatchFull_frame]
    rw [settleDraining_other hj, hu, if_neg hj]
  · have hs := settleDraining_settled d.pocket u
    rw [hu, if_pos rfl] at hs
    exact (hs.of_alike ha).followed (refreshCatchFull_followed _)

/-! ### The removal at the pocket eye -/

theorem recordGone_alike (l : Letter) (s : State) : TraysAlike s (recordGone l s) := by
  obtain ⟨hp, -⟩ := recordGone_kept l s
  exact ⟨by rw [hp], by rw [reservations, reservations, hp], tally_of_pkm hp _⟩

/-- After the count, the removal touches the pockets no more. -/
theorem retire_followed (l : Letter) (d : Disposition) (s : State) :
    Followed (countRemoval l d (recordGone l s)) (retire l d s) := by
  rw [retire_eq]
  exact ⟨by simp, fun _ he => checkDrain_pending _ (reportRemoval_pending _ _ _ he)⟩

theorem retire_delivered_counted {l : Letter} {d : Destination} (hd : l.dest = some d) {q : Pocket} {s : State}
    (hq : (s.pkm.pockets[d.pocket]).withDelivery l = q) :
    (∀ j : PocketNo, j ≠ d.pocket → (retire l .delivered s).pkm.pockets[j] = s.pkm.pockets[j]) ∧
    (q.state = .open → isBank d.pocket = true → q.delivered = s.prl.profile.limits[d.pocket] →
      BecameFull d.pocket q s (retire l .delivered s)) ∧
    (q.state ≠ .open ∨ isBank d.pocket = false ∨ q.delivered ≠ s.prl.profile.limits[d.pocket] →
      SettledDraining d.pocket q s (retire l .delivered s)) := by
  obtain ⟨hpkm, hprl, -⟩ := recordGone_kept l s
  have hc : countRemoval l .delivered (recordGone l s) = countDelivery l d.pocket (recordGone l s) := by
    simp only [countRemoval, hd]
  have hf := retire_followed l .delivered s
  rw [hc] at hf
  refine ⟨fun j hj => ?_, fun ho hb hl => ?_, fun hn => ?_⟩
  · rw [hf.pkm, countDelivery_other hj, hpkm]
  · exact ((countDelivery_fills (by rw [hpkm, hq]) ho hb (by rw [hprl, hl])).of_alike (recordGone_alike l s)
      hprl).followed hf
  · exact ((countDelivery_settles (by rw [hpkm, hq]) (by rwa [hprl])).of_alike (recordGone_alike l s)).followed hf

/-- Settles O29: the record retires, and the pocket manager's count is followed by nothing that touches a pocket. -/
theorem removalsCounted : Obligations.RemovalsCounted := by
  unfold Obligations.RemovalsCounted
  refine ⟨fun s e l d p q n faced ho he hb hs hw hf hd hpe hopen hx hu hp hn hfaced hq => ?_,
    fun s id e l d ho hf hd hpe hst hor hx => ?_⟩
  · have hdel : deliveryEye l e = true := by simp [deliveryEye, ownPocketEye, hd, hpe]
    rw [exec_eyeLeEdge_arrives ho he hb hs hw hopen hx, arrive_delivered (by exact hf) hdel (by exact hu)]
    have hq' : (s.pkm.pockets[d.pocket]).withDelivery l = q := by
      rw [← hp, hq]
      exact Pocket.withDelivery_eq l hn hfaced
    obtain ⟨hother, hfills, hsettles⟩ := retire_delivered_counted (l := l.arrivedAt e) (by exact hd)
      (s := updateLetter l.id (Letter.arrivedAt e) { s with inputs := s.inputs.setEye e true }) hq'
    have hstate : q.state = p.state := by rw [hq]
    have hdelivered : q.delivered = n := by rw [hq]
    rw [hstate, hdelivered] at hfills hsettles
    have ha : TraysAlike s (updateLetter l.id (Letter.arrivedAt e) { s with inputs := s.inputs.setEye e true }) :=
      ⟨rfl, rfl, rfl⟩
    refine ⟨_, rfl, hother, fun h1 h2 h3 => ?_, fun h => ?_⟩
    · exact (hfills h1 h2 h3).of_alike ha rfl
    · exact (hsettles h).of_alike ha
  · have hdel : deliveryEye l e = true := by simp [deliveryEye, ownPocketEye, hd, hpe]
    rw [exec_expiryPoint ho hf hst hx, expire_lost hdel hor]
    obtain ⟨hpkm, -⟩ := recordGone_kept l s
    obtain ⟨hother, hsettles⟩ := countLoss_settles (t := .lostNoTray) hd nofun (recordGone l s)
    have hfol := retire_followed l .lostNoTray s
    rw [countRemoval] at hfol
    rw [hpkm] at hother hsettles
    refine ⟨_, rfl, fun j hj => ?_, (hsettles.of_alike (recordGone_alike l s)).followed hfol⟩
    rw [hfol.pkm, hother j hj]

end Sys2Proof.Machine
end

section
/-! A sweep by request or by button (R128, R129): the pocket that drains, and the tray that closes at once. -/

namespace Sys2Proof.Machine

/-! ### When a sweep is refused (R128) -/

theorem isBank_iff (k : PocketNo) : isBank k = true ↔ 1 ≤ k.val ∧ k.val ≤ 8 := by simp [isBank]

theorem sweepRefusal_eq (k : PocketNo) (s : State) : sweepRefusal k s =
    if ¬ (if 1 ≤ k.val ∧ k.val ≤ 8 then (s.pkm.pockets[k]).state = .open ∨ (s.pkm.pockets[k]).state = .full
      else (s.pkm.pockets[k]).state = .open ∧ s.lnc.line.sampling = false) then some .wrongState
    else if 16 ≤ s.pkm.log.length + reservations s then some .logFull else none := by
  have hslot : (!slotFree s) = true ↔ 16 ≤ s.pkm.log.length + reservations s := by
    rw [Bool.not_eq_true', ← Bool.not_eq_true, slotFree_spec, SlotFree, Nat.not_lt]
  unfold sweepRefusal
  simp only [hslot, ← isBank_iff]
  by_cases hb : isBank k = true
  · simp [hb]
  · simp [hb, imp_iff_not_or]

/-! ### A tray taken (R124, R128, R130) -/

theorem updatePocket_twice (k : PocketNo) (f g : Pocket → Pocket) (s : State) :
    updatePocket k g (updatePocket k f s) = updatePocket k (fun p => g (f p)) s := by
  simp [updatePocket]

/-- Pocket `k` stands as `p`, and nothing else has changed. -/
def withPocket (k : PocketNo) (p : Pocket) (s : State) : State :=
  { s with pkm := { s.pkm with pockets := s.pkm.pockets.set k p } }

theorem withPocket_get (k : PocketNo) (p : Pocket) (s : State) : (withPocket k p s).pkm.pockets[k] = p := by
  simp [withPocket]

/-- With letters still on their way the pocket stands DRAINING, and nothing else has changed. -/
theorem beginDraining_drains {k : PocketNo} {s : State} (reason : CloseReason) (h : (s.pkm.pockets[k]).pending ≠ 0) :
    beginDraining k reason s =
      withPocket k { s.pkm.pockets[k] with state := .draining, reason := some reason } s := by
  rw [beginDraining, settleDraining, updatePocket_get, if_pos rfl, if_neg fun e => h e.2]
  rfl

/-- A tray has closed at once with reason `reason`: its record is in the log and counted, its number advanced, and
nothing but CATCH_FULL, TRAY_CLOSED and what they make due has changed besides. -/
structure TrayTaken (k : PocketNo) (reason : CloseReason) (s t : State) : Prop where
  log : t.pkm.log = s.pkm.log ++ [makeTrayRecord k s.pkm.pockets[k] reason]
  pockets : t.pkm.pockets = s.pkm.pockets.set k (s.pkm.pockets[k]).closedTray
  debounce : t.pkm.debounce = s.pkm.debounce
  closed : tally .traysClosed t = min (tally .traysClosed s + 1) 4294967295
  tallies : ∀ x, x ≠ .traysClosed → tally x t = tally x s
  event : EventSet.has t.lki.events .trayClosed = true
  events : ∀ e, EventSet.has s.lki.events e = true → EventSet.has t.lki.events e = true
  line : t.lnc.line = s.lnc.line
  link : linkView t = linkView s
  changes : ChangesOnly [.pkm, .lnc, .lki] s t

theorem beginDraining_taken {k : PocketNo} {reason : CloseReason} {s : State} (h : (s.pkm.pockets[k]).pending = 0) :
    TrayTaken k reason s (beginDraining k reason s) := by
  let u : State := updatePocket k (fun p => { p with state := .draining, reason := some reason }) s
  have hk : u.pkm.pockets[k] = { s.pkm.pockets[k] with state := .draining, reason := some reason } :=
    (updatePocket_get k k _ s).trans (if_pos rfl)
  have he : beginDraining k reason s = closeTray k u := by
    rw [beginDraining, settleDraining, if_pos (by rw [updatePocket_get, if_pos rfl]; exact ⟨rfl, h⟩)]
  have hs := beginDraining_settled k reason s
  obtain ⟨-, hlog, hclosed, hevent⟩ := hs.closes rfl h
  refine ⟨hlog, ?_, ?_, hclosed, fun x hx => ?_, hevent, fun e => beginDraining_pending k reason s,
    (lineView_line (beginDraining_lineView k reason s)).1, beginDraining_linkView k reason s, ?_⟩
  · rw [he]
    simp only [closeTray, refreshCatchFull_frame, raise_frame]
    change u.pkm.pockets.set k _ = _
    simp [u, updatePocket]
    rfl
  · rw [he]
    simp only [closeTray, refreshCatchFull_frame]
    rfl
  · rw [beginDraining, settleDraining_tally _ _ hx]
    rfl
  · intro b hb
    cases b <;> simp at hb <;> simp [Same]

/-! ### SWEEP (R128) -/

theorem pocketOfByte_none {x : Byte} (h : 10 ≤ x.toNat) : pocketOfByte x = none := by
  rw [pocketOfByte, dif_neg (by omega)]

theorem pocketOfByte_byte {x : Byte} {k : PocketNo} (h : pocketOfByte x = some k) : u8 k.val = [x] := by
  unfold pocketOfByte at h
  split at h
  · obtain rfl := Option.some.inj h
    simp [u8]
  · cases h

section
variable {r : Request} {rest : List Request} {s : State} {x : Byte}

theorem exec_sweep_badValue (h : Served .sweep r rest s) (hp : r.payload = [x]) (hx : 10 ≤ x.toNat) :
    exec .sweep s = .next (refused r rest .badValue s) :=
  live_refused h (by simp [ownSweep, byteAt, hp, pocketOfByte_none hx])

theorem exec_sweep_refused {k : PocketNo} {e : ErrorCode} (h : Served .sweep r rest s) (hp : r.payload = [x])
    (hk : pocketOfByte x = some k) (he : sweepRefusal k s = some e) :
    exec .sweep s = .next (refused r rest e s) := by
  have he : sweepRefusal k (taken rest s) = some e := he
  exact live_refused h (by simp [ownSweep, byteAt, hp, hk, he])

/-- A sweep that is not refused begins the drain, and answers with the pocket as it then is. -/
theorem exec_sweep_answered {k : PocketNo} (h : Served .sweep r rest s) (hp : r.payload = [x])
    (hk : pocketOfByte x = some k) (he : sweepRefusal k s = none) :
    exec .sweep s = .next (pushAnswer r.kind r.tag
      (.ok false (sweepFields k (beginDraining k .sweepRequest (taken rest s))))
      (beginDraining k .sweepRequest (taken rest s))) := by
  have he : sweepRefusal k (taken rest s) = none := he
  have ho : ownSweep r (taken rest s) = (beginDraining k .sweepRequest (taken rest s),
      .ok false (sweepFields k (beginDraining k .sweepRequest (taken rest s)))) := by
    simp [ownSweep, byteAt, hp, hk, he]
  rw [pushAnswer_eq]
  exact live_answered h ho

end

/-- An owner's effect that takes a tray, once its answer stands in the reply queue. -/
theorem TrayTaken.answered {k : PocketNo} {reason : CloseReason} {r : Request} {rest : List Request} {s u : State}
    (h : TrayTaken k reason (taken rest s) u) (a : Answer) :
    (pushAnswer r.kind r.tag a u).pkm = u.pkm ∧ (pushAnswer r.kind r.tag a u).lki.events = u.lki.events ∧
    (pushAnswer r.kind r.tag a u).lki.replies = s.lki.replies ++ [placeOf r a] ∧
    (pushAnswer r.kind r.tag a u).lki.requests = rest ∧ (pushAnswer r.kind r.tag a u).lnc.line = s.lnc.line ∧
    ChangesOnly [.pkm, .lnc, .lki] s (pushAnswer r.kind r.tag a u) := by
  have hl := h.link
  simp only [linkView, Link.mk.injEq] at hl
  rw [pushAnswer_eq]
  refine ⟨rfl, rfl, ?_, ?_, h.line, fun b hb => ?_⟩
  · simp only [hl]
    rfl
  · simp only [hl]
    rfl
  · have hc := h.changes b hb
    cases b <;> simp at hb <;> exact hc

theorem sweepFields_eq {x : Byte} {k : PocketNo} {p : Pocket} {u : State} (hk : pocketOfByte x = some k)
    (hp : u.pkm.pockets[k] = p) :
    sweepFields k u = [x, BitVec.ofNat 8 p.state.code, BitVec.ofNat 8 p.pending] := by
  rw [sweepFields, pocketOfByte_byte hk, hp]
  rfl

theorem TrayTaken.pocket {k : PocketNo} {reason : CloseReason} {s t : State} (h : TrayTaken k reason s t) :
    t.pkm.pockets[k] = (s.pkm.pockets[k]).closedTray := by
  simp [h.pockets]

/-! ### The sweep button held (R129) -/

theorem exec_sweepButton {k : PocketNo} {s : State} (ho : s.inReset = false) (hd : s.pkm.debounce[k] = true) :
    (∀ e, sweepRefusal k s = some e → exec (.sweepButton k) s = .next (setDebounce k false s)) ∧
    (sweepRefusal k s = none →
      exec (.sweepButton k) s = .next (beginDraining k .sweepButton (setDebounce k false s))) := by
  have hr : sweepRefusal k (setDebounce k false s) = sweepRefusal k s := rfl
  refine ⟨fun e he => ?_, fun he => ?_⟩
  all_goals
    change live (pressSweep k) s = _
    rw [live_out ho]
    simp [pressSweep, hd, hr, he]

/-- Settles O50: a sweep that is not refused begins the drain, which closes the tray where nothing is pending. -/
theorem sweepDrainsAndCloses : Obligations.SweepDrainsAndCloses := by
  unfold Obligations.SweepDrainsAndCloses
  refine ⟨fun s k => sweepRefusal_eq k s, fun r rest s x h hp => ⟨exec_sweep_badValue h hp,
    fun k e hk he => exec_sweep_refused h hp hk he, fun k hk he h0 => ?_, fun k hk he h0 => ?_⟩,
    fun s k ho => ⟨fun hd => ?_, fun hd he => ?_, fun hd he h0 => ?_, fun hd he h0 => ?_⟩⟩
  · rw [exec_sweep_answered h hp hk he, beginDraining_drains (s := taken rest s) _ h0,
      sweepFields_eq hk (withPocket_get ..), pushAnswer_eq]
    rfl
  · have ht : TrayTaken k .sweepRequest (taken rest s) _ := beginDraining_taken h0
    have hf := sweepFields_eq hk ht.pocket
    rw [show ((taken rest s).pkm.pockets[k]).closedTray.pending = 0 from h0] at hf
    obtain ⟨hpkm, hevents, hreplies, hrequests, hline, hchanges⟩ := ht.answered (r := r) (.ok false [x, 3, 0])
    refine ⟨_, by rw [exec_sweep_answered h hp hk he, hf]; rfl, ?_, ?_, ?_, ?_, hreplies, hrequests, hline, hchanges⟩
    · exact (congrArg PocketManager.log hpkm).trans ht.log
    · exact (congrArg PocketManager.pockets hpkm).trans ht.pockets
    · exact (tally_of_pkm hpkm _).trans ht.closed
    · exact (congrArg (EventSet.has · .trayClosed) hevents).trans ht.event
  · change live (pressSweep k) s = _
    rw [live_out ho]
    simp [pressSweep, hd]
  · obtain ⟨e, he⟩ := Option.ne_none_iff_exists'.1 he
    exact (exec_sweepButton ho hd).1 e he
  · rw [(exec_sweepButton ho hd).2 he, beginDraining_drains (s := setDebounce k false s) _ h0]
    rfl
  · have ht : TrayTaken k .sweepButton (setDebounce k false s) _ := beginDraining_taken h0
    refine ⟨_, (exec_sweepButton ho hd).2 he, ht.log, ?_, ?_, ht.debounce, fun b hb => ?_⟩
    · rw [ht.pocket]
      rfl
    · rw [ht.pocket]
      rfl
    · have hc := ht.changes b hb
      cases b <;> simp at hb <;> exact hc

end Sys2Proof.Machine
end

section
/-! The requests that take a bank pocket out of service and bring it back, the tray log's TAKE_TRAY, and CLEAR_SHIFT
(R133, R137, R138, R142). -/

namespace Sys2Proof.Machine

/-! ### One pocket changed after another change of it -/

theorem withPocket_self (k : PocketNo) (s : State) : withPocket k s.pkm.pockets[k] s = s := by simp [withPocket]

theorem withPocket_raise (k : PocketNo) (e : EventKind) (p q : Pocket) (s : State) :
    withPocket k q (raise e (withPocket k p s)) = raise e (withPocket k q s) := by
  simp [withPocket, raise]

theorem raise_withPocket_get (k : PocketNo) (e : EventKind) (p : Pocket) (s : State) :
    (raise e (withPocket k p s)).pkm.pockets[k] = p := withPocket_get k p s

theorem madeFull_eq (k : PocketNo) (s : State) :
    madeFull k s = raise .pocketFull (withPocket k { s.pkm.pockets[k] with state := .full } s) := rfl

/-! ### A pocket that becomes FULL (R124) -/

section
variable {k : PocketNo} {s : State}

theorem becomeFull_stays (hd : (s.pkm.pockets[k]).state ≠ .draining)
    (h : s.prl.profile.autoClose = false ∨ ¬ SlotFree s) : becomeFull k s = madeFull k s := by
  rw [becomeFull_eq, if_neg]
  rw [madeFull_slotFree hd, Bool.and_eq_true, slotFree_spec]
  rintro ⟨ha, hs⟩
  exact h.elim (fun h => absurd ha (by simp [h])) fun h => h hs

theorem becomeFull_drains (hd : (s.pkm.pockets[k]).state ≠ .draining) (ha : s.prl.profile.autoClose = true)
    (hs : SlotFree s) : becomeFull k s = beginDraining k .full (madeFull k s) := by
  rw [becomeFull_eq, if_pos]
  rw [madeFull_slotFree hd, Bool.and_eq_true, slotFree_spec]
  exact ⟨ha, hs⟩

/-- With letters still on their way the tray that is closed by AUTO_CLOSE drains. -/
theorem becomeFull_draining (hd : (s.pkm.pockets[k]).state ≠ .draining) (ha : s.prl.profile.autoClose = true)
    (hs : SlotFree s) (h0 : (s.pkm.pockets[k]).pending ≠ 0) : becomeFull k s =
      raise .pocketFull (withPocket k { s.pkm.pockets[k] with state := .draining, reason := some .full } s) := by
  rw [becomeFull_drains hd ha hs, beginDraining_drains _ (by rw [madeFull_pocket]; exact h0), madeFull_pocket,
    madeFull_eq, withPocket_raise]

/-- With nothing pending the tray is taken at once. -/
theorem becomeFull_taken (hd : (s.pkm.pockets[k]).state ≠ .draining) (ha : s.prl.profile.autoClose = true)
    (hs : SlotFree s) (h0 : (s.pkm.pockets[k]).pending = 0) : TrayTaken k .full s (becomeFull k s) ∧
      EventSet.has (becomeFull k s).lki.events .pocketFull = true := by
  rw [becomeFull_drains hd ha hs]
  have ht : TrayTaken k .full (madeFull k s) _ := beginDraining_taken (by rw [madeFull_pocket]; exact h0)
  have hp := madeFull_pocket k s
  refine ⟨⟨?_, ?_, ht.debounce, ht.closed, ht.tallies, ht.event, fun e he => ?_, ht.line, ?_, fun b hb => ?_⟩, ?_⟩
  · rw [ht.log, hp]
    rfl
  · rw [ht.pockets, hp, madeFull_eq]
    simp [withPocket, raise]
    rfl
  · refine ht.events e ?_
    rw [madeFull, raise_has]
    simp [updatePocket, he]
  · rw [ht.link, madeFull, raise_linkView]
    rfl
  · have hc := ht.changes b hb
    cases b <;> simp at hb <;> exact hc
  · refine ht.events _ ?_
    rw [madeFull, raise_has]
    simp

end

/-! ### POCKET_OUT (R137) -/

/-- The requests about bank pockets know none by the numbers 0 and 9. -/
theorem bankOfByte_none {x : Byte} (hx : x = 0 ∨ 9 ≤ x.toNat) {k : PocketNo} (hk : pocketOfByte x = some k) :
    isBank k = false := by
  unfold pocketOfByte at hk
  split at hk
  · obtain rfl := Option.some.inj hk
    rcases hx with rfl | hx
    · rfl
    · rw [← Bool.not_eq_true, isBank_iff]
      dsimp only
      omega
  · cases hk

theorem pocketInFields_eq {x : Byte} {k : PocketNo} {p : Pocket} {u : State} (hk : pocketOfByte x = some k)
    (hp : u.pkm.pockets[k] = p) :
    pocketInFields k u = [x, BitVec.ofNat 8 p.state.code] ++ be16 p.delivered ++ u8 p.pending := by
  rw [pocketInFields, pocketOfByte_byte hk, hp]
  rfl

theorem takeOut_refused {k : PocketNo} {s : State}
    (h : (s.pkm.pockets[k]).state = .draining ∨ (s.pkm.pockets[k]).state = .closed) :
    takeOut k s = refuse .wrongState s := by
  unfold takeOut
  rcases h with h | h <;> rw [h]

theorem takeOut_out {k : PocketNo} {s : State} (hd : (s.pkm.pockets[k]).state ≠ .draining)
    (hc : (s.pkm.pockets[k]).state ≠ .closed) : takeOut k s =
      (withPocket k { s.pkm.pockets[k] with state := .out } s,
        .ok false (pocketOutFields k (withPocket k { s.pkm.pockets[k] with state := .out } s))) := by
  unfold takeOut
  split
  · next h => exact absurd h hd
  · next h => exact absurd h hc
  · next h =>
    have hp : { s.pkm.pockets[k] with state := .out } = s.pkm.pockets[k] := by rw [← h]
    rw [hp, withPocket_self]
  all_goals rfl

section
variable {r : Request} {rest : List Request} {s : State} {x : Byte}

theorem exec_pocketOut_badValue (hp : r.payload = [x]) (hx : x = 0 ∨ 9 ≤ x.toNat) (h : Served .pocketOut r rest s) :
    exec .pocketOut s = .next (refused r rest .badValue s) := by
  refine live_refused h ?_
  simp only [ownPocketOut, byteAt, hp]
  split
  · rfl
  · next k hk => rw [bankOfByte_none hx hk]; rfl

theorem exec_pocketIn_badValue (hp : r.payload = [x]) (hx : x = 0 ∨ 9 ≤ x.toNat) (h : Served .pocketIn r rest s) :
    exec .pocketIn s = .next (refused r rest .badValue s) := by
  refine live_refused h ?_
  simp only [ownPocketIn, byteAt, hp]
  split
  · rfl
  · next k hk => rw [bankOfByte_none hx hk]; rfl

variable {k : PocketNo}

theorem ownPocketOut_bank (hp : r.payload = [x]) (hk : pocketOfByte x = some k) (hb : isBank k = true) (s : State) :
    ownPocketOut r s = takeOut k s := by
  simp [ownPocketOut, byteAt, hp, hk, hb]

/-! ### POCKET_IN (R138) -/

/-- POCKET_IN brings the pocket in, and answers with it as it then is. -/
theorem exec_pocketIn (h : Served .pocketIn r rest s) (hp : r.payload = [x]) (hk : pocketOfByte x = some k)
    (hb : isBank k = true) : exec .pocketIn s = .next (pushAnswer r.kind r.tag
      (.ok false (pocketInFields k (bringIn k (taken rest s)))) (bringIn k (taken rest s))) := by
  rw [pushAnswer_eq]
  exact live_answered h (by simp [ownPocketIn, byteAt, hp, hk, hb])

end

section
variable {k : PocketNo} {s : State}

theorem bringIn_notOut (h : (s.pkm.pockets[k]).state ≠ .out) : bringIn k s = s := if_pos h

/-- A pocket without its tray, or below its limit, comes back and no more. -/
theorem bringIn_reopens (h : (s.pkm.pockets[k]).state = .out)
    (hr : (s.pkm.pockets[k]).tray = false ∨ (s.pkm.pockets[k]).delivered < s.prl.profile.limits[k]) :
    bringIn k s = withPocket k { s.pkm.pockets[k] with
      state := if (s.pkm.pockets[k]).tray = true then .open else .noTray } s := by
  rw [bringIn, if_neg (not_not.2 h)]
  cases ht : (s.pkm.pockets[k]).tray with
  | false => rfl
  | true =>
    have hl := hr.resolve_left (by rw [ht]; exact nofun)
    rw [if_neg (by simp), if_neg (by omega)]
    rfl

theorem bringIn_full (h : (s.pkm.pockets[k]).state = .out) (ht : (s.pkm.pockets[k]).tray = true)
    (hl : s.prl.profile.limits[k] ≤ (s.pkm.pockets[k]).delivered) : bringIn k s = becomeFull k s := by
  rw [bringIn, if_neg (not_not.2 h), if_neg (by simpa using ht), if_pos hl]

end

/-! ### TAKE_TRAY and CLEAR_SHIFT (R133, R142) -/

section
variable {r : Request} {rest : List Request} {s : State}

theorem exec_takeTray_none (h : Served .takeTray r rest s) (hl : s.pkm.log = []) :
    exec .takeTray s = .next (answered r rest (.ok false [0]) s) := by
  have ho : ownTakeTray r (taken rest s) = (taken rest s, .ok false (u8 0)) := by
    simp only [ownTakeTray, show (taken rest s).pkm.log = [] from hl]
  exact live_answered h ho

theorem exec_takeTray_oldest {x : TrayRecord} {xs : List TrayRecord} (h : Served .takeTray r rest s)
    (hl : s.pkm.log = x :: xs) : exec .takeTray s = .next (answered r rest (.ok false (1 :: trayBytes x))
      { s with pkm := { s.pkm with log := xs } }) := by
  have ho : ownTakeTray r (taken rest s) =
      ({ taken rest s with pkm := { s.pkm with log := xs } }, .ok false (1 :: trayBytes x)) := by
    simp only [ownTakeTray, show (taken rest s).pkm.log = x :: xs from hl]
    rfl
  exact live_answered h ho

theorem exec_clearShift_refused (h : Served .clearShift r rest s) (hs : s.lnc.line.sampling = true) :
    exec .clearShift s = .next (refused r rest .wrongState s) :=
  live_refused h (if_pos (by exact hs))

theorem exec_clearShift_clears (h : Served .clearShift r rest s) (hs : s.lnc.line.sampling = false) :
    exec .clearShift s = .next (answered r rest (.ok false [])
      { s with pkm := { s.pkm with tallies := Vector.replicate 34 0 } }) := by
  have ho : ownClearShift r (taken rest s) =
      ({ taken rest s with pkm := { s.pkm with tallies := Vector.replicate 34 0 } }, .ok false []) :=
    if_neg (by rw [show (taken rest s).lnc.line.sampling = false from hs]; exact nofun)
  exact live_answered h ho

end

/-- Settles O52: each request's owner is followed through its cases, and a pocket back at its limit becomes FULL. -/
theorem pocketServiceRequests : Obligations.PocketServiceRequests := by
  unfold Obligations.PocketServiceRequests
  refine ⟨fun r rest s x hp hx => ⟨exec_pocketOut_badValue hp hx, exec_pocketIn_badValue hp hx⟩,
    fun r rest s x k hp hk h1 h8 => ?_,
    fun r rest s h => ⟨exec_takeTray_none h, fun x xs => exec_takeTray_oldest h⟩,
    fun r rest s h => ⟨exec_clearShift_refused h, exec_clearShift_clears h⟩⟩
  have hb : isBank k = true := (isBank_iff k).2 ⟨h1, h8⟩
  refine ⟨fun h => ⟨fun hs => ?_, fun hd hc => ?_⟩, fun h => ?_⟩
  · exact live_refused h ((ownPocketOut_bank hp hk hb _).trans (takeOut_refused hs))
  · have ho := (ownPocketOut_bank hp hk hb _).trans (takeOut_out (s := taken rest s) hd hc)
    rw [pocketOutFields, pocketInFields_eq hk (withPocket_get ..)] at ho
    exact live_answered h ho
  · rw [exec_pocketIn h hp hk hb, pushAnswer_eq]
    refine ⟨fun hs => ?_, fun hs hr => ⟨_, rfl, ?_⟩, fun hs ht hl ha => ?_, fun hs ht hl ha =>
      ⟨fun hn => ?_, fun hn h0 => ?_, fun hn h0 => ?_⟩⟩
    · rw [bringIn_notOut (s := taken rest s) hs]
      rfl
    · rw [bringIn_reopens (s := taken rest s) hs hr, pocketInFields_eq hk (withPocket_get ..)]
      rfl
    all_goals
      have hd : ((taken rest s).pkm.pockets[k]).state ≠ .draining := by
        rw [show ((taken rest s).pkm.pockets[k]).state = .out from hs]
        exact nofun
      rw [bringIn_full (s := taken rest s) hs ht hl]
    · rw [becomeFull_stays hd (.inl ha), pocketInFields_eq hk (madeFull_pocket ..)]
      rfl
    · rw [becomeFull_stays hd (.inr (Nat.not_lt.2 hn)), pocketInFields_eq hk (madeFull_pocket ..)]
      rfl
    · rw [becomeFull_draining hd ha hn h0, pocketInFields_eq hk (raise_withPocket_get ..)]
      rfl
    · obtain ⟨ht, hfull⟩ := becomeFull_taken hd ha hn h0
      have hf : pocketInFields k (becomeFull k (taken rest s)) = [x, 3, 0, 0, 0] := by
        rw [pocketInFields_eq hk ht.pocket, show ((taken rest s).pkm.pockets[k]).closedTray.pending = 0 from h0,
          show ((taken rest s).pkm.pockets[k]).closedTray.delivered = 0 from rfl]
        rfl
      obtain ⟨hpkm, hevents, hreplies, hrequests, hline, hchanges⟩ := ht.answered (r := r) (.ok false [x, 3, 0, 0, 0])
      refine ⟨_, by rw [hf, ← pushAnswer_eq], ?_, ?_, ?_, fun y hy => ?_, ?_, ?_, ?_, hreplies, hrequests, hline,
        hchanges⟩
      · exact (congrArg PocketManager.log hpkm).trans ht.log
      · exact (congrArg PocketManager.pockets hpkm).trans ht.pockets
      · exact (tally_of_pkm hpkm _).trans ht.closed
      · exact (tally_of_pkm hpkm _).trans (ht.tallies y hy)
      · exact (congrArg PocketManager.debounce hpkm).trans ht.debounce
      · exact (congrArg (EventSet.has · .pocketFull) hevents).trans hfull
      · exact (congrArg (EventSet.has · .trayClosed) hevents).trans ht.event

end Sys2Proof.Machine
end

section
/-! Tray sensors and sweep buttons (R129, R134, R135, R136). -/

namespace Sys2Proof.Machine

/-! ### The levels of the sensors -/

/-- The sensor of pocket `k` shows the level `present`, and nothing else has changed. -/
def trayLevel (k : PocketNo) (present : Bool) (s : State) : State :=
  { s with inputs := { s.inputs with tray := s.inputs.tray.set k present } }

theorem afterLoading_loading {f : State → State} {s : State} (h : s.lnc.line = .loading) : afterLoading f s = s :=
  if_pos h

theorem afterLoading_out {f : State → State} {s : State} (h : s.lnc.line ≠ .loading) : afterLoading f s = f s :=
  if_neg h

section
variable {k : PocketNo} {s : State} (ho : s.inReset = false)
include ho

theorem onPin_out (level : Inputs → Inputs) (event : State → State) :
    onPin level event s = .next (event { s with inputs := level s.inputs }) := if_neg (by simp [ho])

theorem exec_trayRemoved : exec (.trayRemoved k) s = .next
    (if s.inputs.tray[k] then afterLoading (takeRemoval k) (trayLevel k false s) else trayLevel k false s) := by
  change execTrayRemoved k s = _
  rw [execTrayRemoved, onPin_out ho]
  rfl

theorem exec_trayInserted : exec (.trayInserted k) s = .next
    (if s.inputs.tray[k] then trayLevel k true s else afterLoading (takeInsertion k) (trayLevel k true s)) := by
  change execTrayInserted k s = _
  rw [execTrayInserted, onPin_out ho]
  rfl

/-- The sensor's report is kept as a level alone during LOADING, and where it is no change. -/
theorem exec_trayRemoved_level (h : s.lnc.line = .loading ∨ s.inputs.tray[k] = false) :
    exec (.trayRemoved k) s = .next (trayLevel k false s) := by
  rw [exec_trayRemoved ho]
  rcases h with h | h
  · rw [afterLoading_loading (by exact h), ite_self]
  · rw [h, if_neg (by exact nofun)]

theorem exec_trayInserted_level (h : s.lnc.line = .loading ∨ s.inputs.tray[k] = true) :
    exec (.trayInserted k) s = .next (trayLevel k true s) := by
  rw [exec_trayInserted ho]
  rcases h with h | h
  · rw [afterLoading_loading (by exact h), ite_self]
  · rw [if_pos h]

theorem exec_trayRemoved_change (hl : s.lnc.line ≠ .loading) (h : s.inputs.tray[k] = true) :
    exec (.trayRemoved k) s = .next (takeRemoval k (trayLevel k false s)) := by
  rw [exec_trayRemoved ho, if_pos h, afterLoading_out (by exact hl)]

theorem exec_trayInserted_change (hl : s.lnc.line ≠ .loading) (h : s.inputs.tray[k] = false) :
    exec (.trayInserted k) s = .next (takeInsertion k (trayLevel k true s)) := by
  rw [exec_trayInserted ho, if_neg (by rw [h]; exact nofun), afterLoading_out (by exact hl)]

/-- A sweep button's change starts or stops its debounce, outside LOADING (R129). -/
theorem exec_sweepButtonChange (active : Bool) : exec (.sweepButtonChange k active) s = .next { s with
    inputs := { s.inputs with sweep := s.inputs.sweep.set k active }
    pkm := if s.lnc.line = .loading ∨ s.inputs.sweep[k] = active then s.pkm
      else { s.pkm with debounce := s.pkm.debounce.set k active } } := by
  change execSweepButtonChange k active s = _
  rw [execSweepButtonChange, onPin_out ho]
  by_cases ha : s.inputs.sweep[k] = active
  · rw [if_pos ha, if_pos (.inr ha)]
  · rw [if_neg ha]
    by_cases hl : s.lnc.line = .loading
    · rw [afterLoading_loading (by exact hl), if_pos (.inl hl)]
    · rw [afterLoading_out (by exact hl), if_neg (by tauto)]
      rfl

end

/-! ### A tray taken out (R134, R135, R136) -/

/-- The sensor's level and its pocket's tray flag are `present`, and nothing else has changed. -/
def traySensed (k : PocketNo) (present : Bool) (s : State) : State :=
  withPocket k { s.pkm.pockets[k] with tray := present } (trayLevel k present s)

theorem traySensed_get (k : PocketNo) (present : Bool) (s : State) :
    (traySensed k present s).pkm.pockets[k] = { s.pkm.pockets[k] with tray := present } := withPocket_get ..

theorem traySensed_other {k j : PocketNo} (h : j ≠ k) (present : Bool) (s : State) :
    (traySensed k present s).pkm.pockets[j] = s.pkm.pockets[j] :=
  (updatePocket_get k j (fun p => { p with tray := present }) (trayLevel k present s)).trans (if_neg h)

theorem traySensed_reservations (k : PocketNo) (present : Bool) (s : State) :
    reservations (traySensed k present s) = reservations s :=
  updatePocket_reservations (s := trayLevel k present s) (f := fun p => { p with tray := present }) rfl

section
variable {k : PocketNo} {s : State}

theorem takeRemoval_absent (h : (s.pkm.pockets[k]).state = .closed ∨ (s.pkm.pockets[k]).state = .noTray) :
    takeRemoval k s = withPocket k { s.pkm.pockets[k] with state := .noTray, tray := false } s := by
  rcases h with h | h <;> simp only [takeRemoval, h]
  · exact updatePocket_twice ..
  · rw [← h]
    rfl

theorem takeRemoval_pulls (h : (s.pkm.pockets[k]).state = .open ∨ (s.pkm.pockets[k]).state = .full ∨
    (s.pkm.pockets[k]).state = .draining ∨ (s.pkm.pockets[k]).state = .out ∧ (s.pkm.pockets[k]).tray = true) :
    takeRemoval k s = pull k (updatePocket k (fun p => { p with tray := false }) s) := by
  rcases h with h | h | h | ⟨h, ht⟩ <;> simp only [takeRemoval, h]
  exact if_pos ht

/-- The pocket of a pulled tray is emptied, and awaits the letters alone that stay on their way to it. -/
theorem pull_pocket (hn : (s.trk.letters.map (·.id)).Nodup) : (pull k s).pkm.pockets[k] =
    { (s.pkm.pockets[k]).pulled with
      pending := (s.pkm.pockets[k]).pending - (s.trk.letters.filter (Letter.reroutedBy k)).length } := by
  rw [(pull_effect hn).2, if_pos rfl, reroutedPocket, if_pos rfl]
  rfl

/-- Pocket 9 is given the letters of a pulled tray, and no other pocket changes. -/
theorem pull_other (hn : (s.trk.letters.map (·.id)).Nodup) {j : PocketNo} (hj : j ≠ k) : (pull k s).pkm.pockets[j] =
    if j = 9 then givenLetters 9 (s.trk.letters.filter (Letter.reroutedBy k)).length s.pkm.pockets[j]
    else s.pkm.pockets[j] := by
  rw [(pull_effect hn).2, if_neg hj, reroutedPocket, if_neg hj]

theorem pull_tally (x : Tally) : tally x (pull k s) = tally x (trayPulled k s) := by
  rw [tally, tally, (pull_log k s).2]

/-- The record of a pulled tray goes into the log by its reservation or into a free slot (R135). -/
theorem pull_logged (h : (s.pkm.pockets[k]).state = .draining ∨ SlotFree s) :
    (pull k s).pkm.log = s.pkm.log ++ [makeTrayRecord k s.pkm.pockets[k] .pulled] ∧
      tally .traysClosed (pull k s) = min (tally .traysClosed s + 1) 4294967295 := by
  have hc : (s.pkm.pockets[k]).state = .draining ∨ slotFree s = true := h.imp_right (slotFree_spec s).2
  rw [(pull_log k s).1, pull_tally, trayPulled, if_pos hc]
  exact ⟨rfl, (tally_bump ..).trans (if_pos rfl)⟩

/-- Without room the record is lost, and counted as lost (R135). -/
theorem pull_unlogged (hd : (s.pkm.pockets[k]).state ≠ .draining) (h : ¬ SlotFree s) :
    (pull k s).pkm.log = s.pkm.log ∧ tally .traysLostLog (pull k s) = min (tally .traysLostLog s + 1) 4294967295 := by
  have hc : ¬ ((s.pkm.pockets[k]).state = .draining ∨ slotFree s = true) :=
    not_or.2 ⟨hd, fun e => h ((slotFree_spec s).1 e)⟩
  rw [(pull_log k s).1, pull_tally, trayPulled, if_neg hc]
  exact ⟨rfl, (tally_bump ..).trans (if_pos rfl)⟩

theorem pull_event (k : PocketNo) (s : State) : EventSet.has (pull k s).lki.events .pocketNoTray = true := by
  rw [pull_eq]
  refine refreshCatchFull_pending _ (foldl_pending _ _ (fun s l => pullLetter_pending k l s) _ ?_)
  rw [trayPulled, raise_has]
  simp

/-! ### A tray put in (R134) -/

/-- A pocket with a tray just put into it. -/
def Pocket.withFreshTray (p : Pocket) (c : Option DestClass) : Pocket :=
  { p.emptied with trayClass := c, tray := true }

theorem takeInsertion_opens (h : (s.pkm.pockets[k]).state = .noTray) : takeInsertion k s =
    refreshCatchFull (withPocket k
      { (s.pkm.pockets[k]).withFreshTray (s.prl.profile.mappedClass k) with state := .open } s) := by
  simp only [takeInsertion, h, updatePocket_twice]
  rfl

theorem takeInsertion_noted (hn : (s.pkm.pockets[k]).state ≠ .noTray) (ho : (s.pkm.pockets[k]).state ≠ .out) :
    takeInsertion k s = withPocket k { s.pkm.pockets[k] with tray := true } s := by
  simp only [takeInsertion]
  split
  · rfl
  · rfl
  · rfl
  · rfl
  · next h => exact absurd h hn
  · next h => exact absurd h ho

theorem takeInsertion_out (h : (s.pkm.pockets[k]).state = .out) (ht : (s.pkm.pockets[k]).tray = false) :
    takeInsertion k s = withPocket k ((s.pkm.pockets[k]).withFreshTray (s.prl.profile.mappedClass k)) s := by
  simp only [takeInsertion, h, updatePocket_twice]
  exact if_neg (by rw [ht]; exact nofun)

end

/-- Settles O49: a sensor's change is followed through the pocket's states, and a pull through the letters of the
list. -/
theorem traySensorsAndButtons : Obligations.TraySensorsAndButtons := by
  unfold Obligations.TraySensorsAndButtons
  refine fun s k ho => ⟨exec_trayRemoved_level ho, exec_trayInserted_level ho,
    fun hl hi => ⟨fun h => ?_, fun h hn => ?_⟩, fun hl hi h => ?_, fun hl hi hn h => ?_, fun hl hi h ht => ?_,
    exec_sweepButtonChange ho⟩
  · rw [exec_trayRemoved_change ho hl hi, takeRemoval_absent (by exact h)]
    rfl
  · have hn' : ((traySensed k false s).trk.letters.map (·.id)).Nodup := hn
    have hpocket := pull_pocket (k := k) hn'
    rw [traySensed_get] at hpocket
    have hslot : SlotFree (traySensed k false s) ↔ SlotFree s := by
      rw [SlotFree, SlotFree, traySensed_reservations]
      rfl
    refine ⟨_, by rw [exec_trayRemoved_change ho hl hi, takeRemoval_pulls (by exact h)]; rfl, ?_, ?_, ?_, ?_, ?_, ?_,
      ?_, ?_, pull_event .., fun hroom => ?_, fun hd hfull => ?_, (pull_effect hn').1, ?_⟩
    any_goals rw [hpocket]; rfl
    · rintro n rfl
      refine ⟨by rw [hpocket]; rfl, fun j hj => ?_⟩
      rw [pull_other hn' hj, traySensed_other hj]
      rfl
    · have hlog := pull_logged (k := k) (s := traySensed k false s) (by rw [traySensed_get, hslot]; exact hroom)
      rw [traySensed_get] at hlog
      exact hlog
    · exact pull_unlogged (by rw [traySensed_get]; exact hd) (by rw [hslot]; exact Nat.not_lt.2 hfull)
    · exact (lineView_line (pull_lineView k _)).1
  · rw [exec_trayInserted_change ho hl hi, takeInsertion_opens (by exact h)]
    refine ⟨_, rfl, ?_, ?_, fun b hb => ?_⟩
    · simp only [refreshCatchFull_frame]
      rfl
    · exact (lineView_line (refreshCatchFull_lineView _)).1
    · cases b <;> simp at hb <;> simp [Same] <;> rfl
  · rw [exec_trayInserted_change ho hl hi, takeInsertion_noted (by exact hn) (by exact h)]
    rfl
  · rw [exec_trayInserted_change ho hl hi, takeInsertion_out (by exact h) (by exact ht)]
    rfl

end Sys2Proof.Machine
end
